-- ==== Sys2Proof/Word.lean ====
section
/-! DEFINITION. The word types and the one sparse map of the model: a list of keys and values, keys strictly rising, that
lists no key whose value is the map's default there. Memory, the register file, the images and the journals are such
maps, so that equal contents are equal data. -/

namespace Sys2Proof

/-- A unit register, and an instruction word (R4, R95). -/
abbrev Word := BitVec 32

/-- A byte of memory. -/
abbrev Byte := BitVec 8

/-- A general register of the program, and a 64-bit register pair (R6, R87). -/
abbrev DWord := BitVec 64

/-- A sparse map from Nat keys. -/
abbrev SMap (α : Type) := List (Nat × α)

/-- The value a map holds at a key: the listed value, or the default there. -/
def smGet {α : Type} (d : Nat → α) : SMap α → Nat → α
  | [], k => d k
  | (k', v) :: r, k => if k' = k then v else smGet d r k

/-- The map with nothing listed at a key. -/
def smDel {α : Type} : SMap α → Nat → SMap α
  | [], _ => []
  | (k', w) :: r, k => if k' = k then smDel r k else (k', w) :: smDel r k

/-- The map with an entry put before the first higher key. -/
def smIns {α : Type} (k : Nat) (v : α) : SMap α → SMap α
  | [] => [(k, v)]
  | (k', w) :: r => if k < k' then (k, v) :: (k', w) :: r else (k', w) :: smIns k v r

/-- Writes a value at a key and keeps the form: writing the default removes the entry. -/
def smSet {α : Type} [DecidableEq α] (d : Nat → α) (m : SMap α) (k : Nat) (v : α) : SMap α :=
  if v = d k then smDel m k else smIns k v (smDel m k)

/-- The form of a sparse map: every key lies above `lo`, keys rise strictly and no entry equals the default. -/
def smWfFrom {α : Type} [DecidableEq α] (d : Nat → α) : Nat → SMap α → Bool
  | _, [] => true
  | lo, (k, v) :: r => decide (lo ≤ k) && decide (v ≠ d k) && smWfFrom d (k + 1) r

/-- A sparse map in canonical form. -/
def smWf {α : Type} [DecidableEq α] (d : Nat → α) (m : SMap α) : Bool := smWfFrom d 0 m

end Sys2Proof
end

