-- ==== Sys2Proof/Syntax.lean ====
section
/-! DEFINITION. The commands of the OLX9192: one constructor of `Instr` for every row of spec/opcode_table.json, with
the operands that the row's rule gives it, and the plain data types of those operands. A constructor's docstring is
the row's rule and summary. -/

namespace Sys2Proof

/-- The five masters of the fabric (R16). -/
inductive Master where
  | m0 | m1 | m2 | m3 | m4
  deriving DecidableEq, Repr

/-- The three leaves (R142, R163). -/
inductive LeafId where
  | a | b | c
  deriving DecidableEq, Repr

/-- The clocks the monitor watches (R27). -/
inductive ClockId where
  | ref | leaf | fab
  deriving DecidableEq, Repr

/-- Format N of R96: 24 bits that must be 0. -/
structure NF where
  z : BitVec 24 := 0
  deriving DecidableEq, Repr

/-- Format P of R96. -/
structure PF where
  mod : BitVec 3
  cls : BitVec 3
  idx : BitVec 18
  deriving DecidableEq, Repr

/-- Format R of R96. -/
structure RF where
  rd : BitVec 5
  ra : BitVec 5
  rb : BitVec 5
  fn : BitVec 9
  deriving DecidableEq, Repr

/-- Format I of R96. -/
structure IF where
  rd : BitVec 5
  ra : BitVec 5
  imm : BitVec 14
  deriving DecidableEq, Repr

/-- Format B of R96. -/
structure BF where
  ra : BitVec 5
  rb : BitVec 5
  off : BitVec 14
  deriving DecidableEq, Repr

/-- Format J of R96. -/
structure JF where
  tgt : BitVec 24
  deriving DecidableEq, Repr

/-- Format PX of R96 with its extension word: `top` is [31:24] of the extension. -/
structure PXF where
  rd : BitVec 5
  rb : BitVec 5
  off : BitVec 14
  top : BitVec 8
  sgn : Bool
  indexed : Bool
  step : Bool
  cls : BitVec 3
  idx : BitVec 18
  deriving DecidableEq, Repr

/-- Format LX of R96 with its extension word. -/
structure LXF where
  rd : BitVec 5
  low : BitVec 19
  imm32 : BitVec 32
  deriving DecidableEq, Repr

/-- A PCI Express request as it reaches the host port (R439, R440): a read of `len` bytes, or a write of `data`, at
offset `off` of window A (BAR0) or window B (BAR2). A configuration write carries in `cfg` the MSI-X enable and the bus
master enable that it leaves, which HOST.STAT shows (R449), and accesses no window. -/
structure HostReq where
  write : Bool
  bar2 : Bool
  off : Nat
  len : Nat
  data : List Byte
  cfg : Option (Bool × Bool) := none
  deriving DecidableEq, Repr

/-- What the tumblers release in one leaf cycle (R145, R146): for each leaf the output it releases, named by a number
that is equal for identical outputs, or none; and whether the knuckle's two copies differ (R151). -/
structure VoteIn where
  a : Option Nat
  b : Option Nat
  c : Option Nat
  differ : Bool
  deriving DecidableEq, Repr

/-- A partner heartbeat (R170, R273): the sender's HASP state as HASP.STAT.STATE encodes it, a primary's device time at
the send instant, the link delay in ns that TIME measured from the round trip, and the K, TB and NB in force on the
primary, which a joining start takes (R275). -/
structure HbRec where
  state : Nat
  time : Option Nat
  delay : Nat
  base : Option (Nat × Nat × Nat) := none
  deriving DecidableEq, Repr

/-- A SAMPLE record (R172): the local part of the input image of a frame, as point keys and values. -/
structure SampleRec where
  frame : Nat
  points : List (Nat × Word)
  deriving DecidableEq, Repr

/-- An ACCEPT record (R172, R173): the lane, the start-of-frame stamp and the CRC of a remote message. -/
structure AcceptRec where
  frame : Nat
  lane : Nat
  stamp : Nat
  crc : Word
  deriving DecidableEq, Repr

/-- What happens at a program position (R172). -/
inductive PosKind where
  | release | preempt | resume | finish
  deriving DecidableEq, Repr

/-- A POSITION record (R174, R175): the frame, the task (cyclic n as n, event e as 32 + e), the instructions its
instance has executed since its release, and what happens there. A release names the task released where another instance's
position is its own; else it releases the task named, between instances. -/
structure PosRec where
  frame : Nat
  tid : Nat
  count : Nat
  kind : PosKind
  released : Option Nat := none
  deriving DecidableEq, Repr

/-- A WRITE record (R182): a forwarded write, and the program position at which the primary issued it. -/
structure WriteRec where
  addr : Nat
  data : List Byte
  frame : Nat
  tid : Nat
  count : Nat
  deriving DecidableEq, Repr

/-- A COMMITS record (R172, R178, R212): the setting writes of T0(N) as register offsets and values, the sequence
number they leave, whether it carries the installation of an online change, with the address and the length of its delta, and
the mode that the primary takes there. (Log 68, DEDUCED.) -/
structure CommitsRec where
  frame : Nat
  writes : List (Nat × Word)
  seq : Nat
  install : Bool
  delta : Nat × Nat := (0, 0)
  mode : Option (Fin 3) := none
  deriving DecidableEq, Repr

/-- What FRM keeps of an instance beside the checkpoint, as the FINAL phase of a join sends it (R190, R471): the input
image of its release frame, the committed image of that frame's IC, and its buffer. -/
structure InstRec where
  tid : Nat
  img : List (Nat × Word)
  outImg : List (Nat × Word)
  qw : List (Nat × Word)
  emits : List (List Byte)
  deriving DecidableEq, Repr

/-- A lane's counts as the FINAL phase of a join sends them (R190): the arrival and read counts of its FIFOs, the reception
number and the commit order number. -/
structure LaneRec where
  lane : Fin 12
  arr0 : Nat
  arr1 : Nat
  rd0 : Nat
  rd1 : Nat
  recNo : Nat
  order : Nat
  deriving DecidableEq, Repr

/-- A CC record (R172, R176): the tasks whose instances overran, the primary's output digest, and, in the FINAL phase of a
join, what FRM keeps of the instances with the committed image and the last RUN image, and the lanes' counts. -/
structure CcRec where
  frame : Nat
  overruns : List Nat
  digest : Word
  insts : List InstRec := []
  last : List (Nat × Word) := []
  runImg : List (Nat × Word) := []
  lanes : List LaneRec := []
  deriving DecidableEq, Repr

/-- A write that waited under R225. -/
structure StallReq where
  m : Master
  addr : Nat
  data : List Byte
  deriving DecidableEq, Repr

/-- A frame on a bus lane (R240, R250): format 0 CC, 1 FD, 2 XL; `stamp` is the raw count of its start of frame. -/
structure BusFrame where
  fmt : BitVec 2
  xtd : Bool
  id : BitVec 29
  remote : Bool := false
  brs : Bool := false
  esi : Bool := false
  sec : Bool := false
  sdt : Byte := 0
  vcid : Byte := 0
  af : Word := 0
  crc : Word := 0
  stamp : Nat
  data : List Byte
  deriving DecidableEq, Repr

/-- A reference message as a follower receives it (R284, R285): its cycle count, DISC, the reported time of the start
of frame of the master's previous reference (its low 56 bits for format CC), and its own stamp. -/
structure RefMsg where
  id : BitVec 11
  cc : Bool
  cycle : Nat
  disc : Bool
  time : Nat
  stamp : Nat
  deriving DecidableEq, Repr

/-- An echo frame (R287): node entry, sequence byte, the 32-bit times of bytes 4-7, 8-11 and 12-15, and the raw stamp
of its start of frame. -/
structure EchoMsg where
  addr : Nat
  seq : Byte
  w4 : Word
  w8 : Word
  w12 : Word
  stamp : Nat
  deriving DecidableEq, Repr

/-- The commands: one constructor per row of spec/opcode_table.json. -/
inductive Instr where
  /-- POWER_ON_RESET (R29). Power-up, or VIN re-entering its operating range, restarts the whole device, clears SYS.RSTCAUSE, SYS.CLKSTAT and the fault queue, and starts the start sequence. -/
  | powerOnReset (vbat : Bool)
  /-- POR_RELEASE (R454). VIN has stayed above 35.0 V for 10 ms, so POR is released and the start sequence of R434 begins. -/
  | porRelease
  /-- RST_B_PULSE (R30). RST_B held low for at least 1 µs starts a DRST, and a pulse shorter than 200 ns is ignored. -/
  | rstBPulse (ns : Nat)
  /-- SYS_RESET_DRST (R34). A write of SYS.RESET with the key and KIND = DRST requests a DRST and records the writing master. -/
  | sysResetDrst (m : Master)
  /-- SYS_RESET_CDR (R34). A write of SYS.RESET with the key and KIND = CDR requests a control-domain restart, which hands over to an INSTEP partner or keeps the bolt. -/
  | sysResetCdr (m : Master)
  /-- CLOCK_LOSS (R28). The clock monitor declares a clock lost, releases BOLT_OUT, removes every output enable, sets the sticky bit in SYS.CLKSTAT and enters the F3 state. -/
  | clockLoss (c : ClockId)
  /-- PFAIL (R226). VIN has stayed below 33 V for 50 µs: the leaves stop, the frame in progress is discarded, BOLT_OUT is released and output enables fall. -/
  | pfail
  /-- DUMP_START (R226). 60 µs after VIN falls below 33 V, RET begins writing every dirty page to retention flash from the hold-up capacitor. -/
  | dumpStart
  /-- DUMP_SEAL (R227). The dump completes, RET seals it and the device holds itself in POR, or starts by DRST if VIN has returned. -/
  | dumpSeal (vinBack : Bool)
  /-- BLEEDER_CONNECT (R457). Once a dump is sealed, or 1 s after VIN fell below 33 V without a dump, a 10 kΩ bleeder is connected across HLD. -/
  | bleederConnect
  /-- VIN_LOW (R454). VIN has lain at or above 33 V and below 36 V for 1 ms, and F0 fault VIN_LOW is raised once per episode. -/
  | vinLow (v : Nat)
  /-- VIN_HIGH (R454). VIN has lain above 75 V for 1 ms, and F1 fault VIN_HIGH is raised once per episode. -/
  | vinHigh (v : Nat)
  /-- OPTIME_STORE (R391). Each second, SYS stores OPTIME and its CRC in parameter store page 0. -/
  | optimeStore
  /-- IMAGE_LOADED (R427). The chosen image has been read into the image copy and checked, and on failure BOOT raises SLOT_BAD and reads the other slot. -/
  | imageLoaded
  /-- MEMORY_INIT_DONE (R434). After a POR without a dump record, MEM has written a valid code into every word of working memory. -/
  | memoryInitDone
  /-- RESTORE_COMPLETE (R228). RET has read working memory and the retained image regions back from flash and checked the dump seal. -/
  | restoreComplete (pageBad : Bool)
  /-- END_OF_BOOT (R434). M4 stops, a SOLO module asserts BOLT_OUT, a PAIR module enters ARBITRATING, and the ward enters its first opening period. -/
  | endOfBoot
  /-- ARBITRATION_TIMEOUT (R168). A PAIR module that has heard no partner 100 µs after BOOT, or 25 µs later for SIDE 1, tries the bolt. -/
  | arbitrationTimeout (contested : Bool)
  /-- BOLT_RETRY (R181). After 5 µs for SIDE 0 or 30 µs for SIDE 1, the module tries the contested bolt again. -/
  | boltRetry (contested : Bool)
  /-- BOLT_IN_CHANGE (R179). A change on BOLT_IN enables or disables field outputs and lane transmissions under the bolt condition. -/
  | boltInChange (level : Bool) (contested : Bool)
  /-- FRAME_TICK (R58). At T0, commits are applied, a pending mode request takes effect, FNUM advances, local inputs are sampled and cyclic tasks are released. -/
  | frameTick
  /-- INPUT_CLOSE (R59). At IC, the input image is frozen with forces applied, the IX and IW regions are rewritten, and non-speculative execution begins. -/
  | inputClose
  /-- COMMIT_CLOSE (R72). At CC, FRM checks overruns, builds the output image, applies output forces, rewrites QX and QW, and takes the checkpoint. -/
  | commitClose
  /-- CHECKPOINT_COMPLETE (R154). The checkpoint of CC is complete and the commit is released to lanes, field units and hasp as accepted work. -/
  | checkpointComplete
  /-- APPLY_INSTANT (R60). At AP, outputs committed at the previous CC without a timed edge take effect at local channels and remote nodes. -/
  | applyInstant
  /-- TIMED_EDGE (R293). A timed output edge of a released commit takes effect at T0(N+1) + OFS on its channel. -/
  | timedEdge (ao : Bool) (ch : Nat)
  /-- MODE_REQUEST (R75). A write of FRM.MODE.REQ schedules a mode change for the next tick whose cut-off it precedes, or cancels a pending one. -/
  | modeRequest (m : Master) (v : Word)
  /-- FRM_CTRCLR (R84). A write of 1 to FRM.CTRCLR.CLEAR clears OVR, SKIP, MERGED and TASKMAX counters and resets SLACKMIN. -/
  | frmCtrclr (m : Master) (v : Word)
  /-- BEGIN (R39). BEGIN on an IDLE slot opens a setting transaction and records BEGSEQ. -/
  | txnBegin (m : Master) (slot : Fin 4)
  /-- COMMIT (R39). COMMIT on an OPEN slot journals the transaction and makes it PENDING for its boundary. -/
  | txnCommit (m : Master) (slot : Fin 4)
  /-- ROLLBACK (R39). ROLLBACK on an OPEN slot discards the staged writes and returns it to IDLE with ROLLED_BACK. -/
  | txnRollback (m : Master) (slot : Fin 4)
  /-- STAGED_WRITE (R36). A write to an RWT register is staged in the writing master's open slot, applied at once by M4 during BOOT, or refused. -/
  | stagedWrite (m : Master) (off : Nat) (v : Word)
  /-- REGISTER_WRITE (R7). A write to a register without a row of its own acts on each field by its access type or is refused with an access error. -/
  | registerWrite (m : Master) (off : Nat) (v : Word)
  /-- PAIR_LOW_READ (R6). A read of the _LO half of a 64-bit pair returns the low half and latches the high half for the reading master. -/
  | pairLowRead (m : Master) (off : Nat)
  /-- HOST_REQUEST (R440). A PCI Express request is translated through window A or B and split into fabric accesses, with failed reads completed by the CAERR rule. -/
  | hostRequest (q : HostReq)
  /-- NOP (R111). NOP has no effect. -/
  | nop (f : NF)
  /-- END (R111). END ends the instance normally, and its buffer is committed at its deadline. -/
  | endI (f : NF)
  /-- BRK (R111). BRK halts the leaves as a breakpoint when DBG enables it, and otherwise acts as NOP. -/
  | brk (f : NF)
  /-- NOT (R99). NOT inverts LA. -/
  | notI (f : NF)
  /-- PUSH (R89). PUSH pushes LA onto the logic stack, trapping with LS_OVER when it is full. -/
  | push (f : NF)
  /-- POPAND (R89). POPAND ANDs LA with a popped entry, trapping with LS_UNDER on an empty stack. -/
  | popand (f : NF)
  /-- POPOR (R89). POPOR ORs LA with a popped entry, trapping with LS_UNDER on an empty stack. -/
  | popor (f : NF)
  /-- POPXOR (R89). POPXOR exclusive-ORs LA with a popped entry, trapping with LS_UNDER on an empty stack. -/
  | popxor (f : NF)
  /-- LDT (R99). LDT sets LA to 1. -/
  | ldt (f : NF)
  /-- SEG (R111). SEG has no architectural effect and opens a new run-ahead segment. -/
  | seg (f : NF)
  /-- RET (R110). RET pops the return stack into the PC, trapping with RS_UNDER on an empty stack. -/
  | ret (f : NF)
  /-- MOVLA (R99). MOVLA copies LA into a register. -/
  | movla (f : RF)
  /-- SETLA (R99). SETLA sets LA to whether a register is non-zero. -/
  | setla (f : RF)
  /-- LD (R100). LD loads a bit point into LA. -/
  | ld (f : PF)
  /-- LDN (R100). LDN loads the inverse of a bit point into LA. -/
  | ldn (f : PF)
  /-- AND (R100). AND ANDs LA with a bit point. -/
  | andI (f : PF)
  /-- ANDN (R100). ANDN ANDs LA with the inverse of a bit point. -/
  | andn (f : PF)
  /-- OR (R100). OR ORs LA with a bit point. -/
  | orI (f : PF)
  /-- ORN (R100). ORN ORs LA with the inverse of a bit point. -/
  | orn (f : PF)
  /-- XOR (R100). XOR exclusive-ORs LA with a bit point. -/
  | xorI (f : PF)
  /-- XORN (R100). XORN exclusive-ORs LA with the inverse of a bit point. -/
  | xorn (f : PF)
  /-- ST (R100). ST writes LA to a bit point, into the buffer for QX and at once for MX. -/
  | st (f : PF)
  /-- STN (R100). STN writes the inverse of LA to a bit point. -/
  | stn (f : PF)
  /-- SET (R100). SET writes 1 to a bit point when LA is 1. -/
  | setI (f : PF)
  /-- RST (R100). RST writes 0 to a bit point when LA is 1. -/
  | rst (f : PF)
  /-- RED (R101). RED detects a rising edge of LA using a bit point as edge memory. -/
  | red (f : PF)
  /-- FED (R101). FED detects a falling edge of LA using a bit point as edge memory. -/
  | fed (f : PF)
  /-- TON (R102). TON evaluates an on-delay timer block in MW from the tick count of the release frame. -/
  | ton (f : PF)
  /-- TOF (R102). TOF evaluates an off-delay timer block. -/
  | tof (f : PF)
  /-- TP (R102). TP evaluates a pulse timer block. -/
  | tp (f : PF)
  /-- CTU (R103). CTU counts a rising LA up in a counter block, saturating, and sets LA to CV ≥ PV. -/
  | ctu (f : PF)
  /-- CTD (R103). CTD counts a rising LA down in a counter block, saturating, and sets LA to CV ≤ 0. -/
  | ctd (f : PF)
  /-- CRST (R103). CRST resets CV to 0, or loads PV, when LA is 1. -/
  | crst (f : PF)
  /-- LDB (R104). LDB loads a bit point into a register. -/
  | ldb (f : PXF)
  /-- STB (R104). STB writes bit 0 of a register to a bit point. -/
  | stb (f : PXF)
  /-- LDW (R104). LDW loads a word point into a register, zero- or sign-extended. -/
  | ldw (f : PXF)
  /-- STW (R104). STW writes the low 32 bits of a register to a word point. -/
  | stw (f : PXF)
  /-- BPS (R109). BPS branches by OFF if a bit point is 1. -/
  | bps (f : PXF)
  /-- BPC (R109). BPC branches by OFF if a bit point is 0. -/
  | bpc (f : PXF)
  /-- ADD (R105). ADD adds two registers with wrap-around. -/
  | add (f : RF)
  /-- SUB (R105). SUB subtracts two registers with wrap-around. -/
  | sub (f : RF)
  /-- MUL (R105). MUL gives the low 64 bits of a product. -/
  | mul (f : RF)
  /-- MULH (R105). MULH gives the high 64 bits of a signed or unsigned product. -/
  | mulh (f : RF)
  /-- DIV (R105). DIV divides, truncating towards zero, and traps with DIVZERO on a zero divisor. -/
  | div (f : RF)
  /-- REM (R105). REM gives the remainder with the dividend's sign, and traps with DIVZERO on a zero divisor. -/
  | rem (f : RF)
  /-- IAND (R99). IAND computes a bitwise AND of two registers. -/
  | iand (f : RF)
  /-- IOR (R99). IOR computes a bitwise OR of two registers. -/
  | ior (f : RF)
  /-- IXOR (R99). IXOR computes a bitwise exclusive OR of two registers. -/
  | ixor (f : RF)
  /-- SHL (R99). SHL shifts left by a register amount. -/
  | shl (f : RF)
  /-- SHR (R99). SHR shifts right logically by a register amount. -/
  | shr (f : RF)
  /-- SAR (R99). SAR shifts right arithmetically by a register amount. -/
  | sar (f : RF)
  /-- SLT (R99). SLT sets a register to 1 if one register is less than another, signed or unsigned. -/
  | slt (f : RF)
  /-- EXT (R105). EXT narrows a register to 8, 16 or 32 bits with zero or sign extension. -/
  | ext (f : RF)
  /-- ADDI (R99). ADDI adds a signed immediate. -/
  | addi (f : IF)
  /-- ANDI (R99). ANDI ANDs with an immediate. -/
  | andi (f : IF)
  /-- ORI (R99). ORI ORs with an immediate. -/
  | ori (f : IF)
  /-- XORI (R99). XORI exclusive-ORs with an immediate. -/
  | xori (f : IF)
  /-- SHLI (R99). SHLI shifts left by an immediate. -/
  | shli (f : IF)
  /-- SHRI (R99). SHRI shifts right logically by an immediate. -/
  | shri (f : IF)
  /-- SARI (R99). SARI shifts right arithmetically by an immediate. -/
  | sari (f : IF)
  /-- SLTI (R99). SLTI sets a register to 1 if a register is less than a signed immediate. -/
  | slti (f : IF)
  /-- LIX (R99). LIX loads a sign-extended 32-bit immediate. -/
  | lix (f : LXF)
  /-- LIXH (R99). LIXH loads a 32-bit immediate into the high half of a register. -/
  | lixh (f : LXF)
  /-- LM8 (R106). LM8 loads a byte from memory, zero-extended, after the address checks of R106. -/
  | lm8 (f : IF)
  /-- LM8S (R106). LM8S loads a sign-extended byte from memory. -/
  | lm8s (f : IF)
  /-- LM16 (R106). LM16 loads a zero-extended halfword from memory. -/
  | lm16 (f : IF)
  /-- LM16S (R106). LM16S loads a sign-extended halfword from memory. -/
  | lm16s (f : IF)
  /-- LM32 (R106). LM32 loads a zero-extended word from memory. -/
  | lm32 (f : IF)
  /-- LM32S (R106). LM32S loads a sign-extended word from memory. -/
  | lm32s (f : IF)
  /-- LM64 (R106). LM64 loads a doubleword from memory, or performs a device load outside working memory. -/
  | lm64 (f : IF)
  /-- SM8 (R106). SM8 stores a byte to working memory. -/
  | sm8 (f : IF)
  /-- SM16 (R106). SM16 stores a halfword to working memory. -/
  | sm16 (f : IF)
  /-- SM32 (R106). SM32 stores a word to working memory. -/
  | sm32 (f : IF)
  /-- SM64 (R106). SM64 stores a doubleword to working memory. -/
  | sm64 (f : IF)
  /-- BEQ (R109). BEQ branches if two registers are equal. -/
  | beq (f : BF)
  /-- BNE (R109). BNE branches if two registers differ. -/
  | bne (f : BF)
  /-- BLT (R109). BLT branches if one register is less than another, signed. -/
  | blt (f : BF)
  /-- BGE (R109). BGE branches if one register is at least another, signed. -/
  | bge (f : BF)
  /-- BLTU (R109). BLTU branches if one register is less than another, unsigned. -/
  | bltu (f : BF)
  /-- BGEU (R109). BGEU branches if one register is at least another, unsigned. -/
  | bgeu (f : BF)
  /-- JMP (R109). JMP sets the PC to TGT. -/
  | jmp (f : JF)
  /-- CALL (R90). CALL pushes the return index and jumps to TGT, wrapping or trapping on a full return stack. -/
  | call (f : JF)
  /-- BLAT (R109). BLAT branches by OFF if LA is 1. -/
  | blat (f : JF)
  /-- BLAF (R109). BLAF branches by OFF if LA is 0. -/
  | blaf (f : JF)
  /-- JMPR (R109). JMPR sets the PC to a register value. -/
  | jmpr (f : RF)
  /-- CALLR (R90). CALLR pushes the return index and jumps to a register value. -/
  | callr (f : RF)
  /-- RPTI (R112). RPTI repeats the next instruction count times, interruptibly between iterations. -/
  | rpti (f : IF)
  /-- RPTU (R112). RPTU repeats the next instruction up to 256 times without preemption. -/
  | rptu (f : IF)
  /-- FADD (R107). FADD adds in binary32 or binary64. -/
  | fadd (f : RF)
  /-- FSUB (R107). FSUB subtracts in binary32 or binary64. -/
  | fsub (f : RF)
  /-- FMUL (R107). FMUL multiplies in binary32 or binary64. -/
  | fmul (f : RF)
  /-- FDIV (R107). FDIV divides in binary32 or binary64. -/
  | fdiv (f : RF)
  /-- FSQRT (R107). FSQRT takes a square root in binary32 or binary64. -/
  | fsqrt (f : RF)
  /-- FMIN (R107). FMIN returns the minimum under the NaN and signed-zero rules. -/
  | fmin (f : RF)
  /-- FMAX (R107). FMAX returns the maximum under the NaN and signed-zero rules. -/
  | fmax (f : RF)
  /-- FMADD (R107). FMADD computes a fused multiply-add with one rounding. -/
  | fmadd (f : RF)
  /-- FEQ (R107). FEQ compares for equality, giving 0 for NaN operands. -/
  | feq (f : RF)
  /-- FLT (R107). FLT compares for less-than, giving 0 for NaN operands. -/
  | flt (f : RF)
  /-- FLE (R107). FLE compares for less-or-equal, giving 0 for NaN operands. -/
  | fle (f : RF)
  /-- FNEG (R107). FNEG inverts only the sign bit. -/
  | fneg (f : RF)
  /-- FABS (R107). FABS clears only the sign bit. -/
  | fabs (f : RF)
  /-- FCVT (R108). FCVT converts between float formats and 64-bit integers as FN selects. -/
  | fcvt (f : RF)
  /-- EMIT (R116). EMIT copies a transmit descriptor into the instance's buffer for queueing at its deadline CC. -/
  | emit (f : RF)
  /-- UNITW (R116). UNITW writes a register, panel frame memory or lane message memory as M0. -/
  | unitw (f : RF)
  /-- WCHK (R116). WCHK checks in to a ward slot with a count. -/
  | wchk (f : IF)
  /-- EVTRIG (R116). EVTRIG fires an event recorder trigger source. -/
  | evtrig (f : IF)
  /-- PSTW (R116). PSTW writes 1 to 8 bytes to the parameter store as M0. -/
  | pstw (f : RF)
  /-- RDFN (R111). RDFN returns the release frame number. -/
  | rdfn (f : RF)
  /-- RDFT (R111). RDFT returns the device time of the release frame's tick. -/
  | rdft (f : RF)
  /-- RUN_AHEAD (R122). When no non-speculative instance is ready in RUN, the leaves execute the next frame's eligible instances speculatively until a stop condition. -/
  | runAhead (n : Nat)
  /-- SPEC_CTRCLR (R139). A write of 1 to SPEC.CTRCLR.CLEAR clears SPEC's counters. -/
  | specCtrclr (m : Master) (v : Word)
  /-- KNUCKLE_VOTE (R146). The knuckle votes the outputs released by the tumblers and issues, outvotes, splits or halts. -/
  | knuckleVote (q : VoteIn)
  /-- TUMBLER_MISMATCH (R144). The lead and trail cores disagree, the output is withheld, the leaf leaves the vote and LFR begins. -/
  | tumblerMismatch (a : Bool) (b : Bool) (c : Bool)
  /-- LFR_COMPLETE (R144). The leaf restart completes within 1 µs, and the leaf waits for its rejoin checkpoint. -/
  | lfrComplete (l : LeafId)
  /-- REJOIN_LOAD_DONE (R157). The leaf has loaded the checkpoint and waits READY for IC(M+1), or retries on an uncorrectable word. -/
  | rejoinLoadDone (l : LeafId) (uncorr : Bool)
  /-- LEAF_RESTART (R165). LEAF.CMD OP = restart removes the selected leaf from the vote and restarts it by LFR without counting a failure. -/
  | leafRestart (m : Master) (l : LeafId)
  /-- LEAF_QUARANTINE (R165). LEAF.CMD OP = quarantine removes the selected leaf, or keeps it out, and quarantines it. -/
  | leafQuarantine (m : Master) (l : LeafId)
  /-- LEAF_RELEASE (R161). LEAF.CMD OP = release ends a leaf's quarantine, clears its failure history and lets it rejoin. -/
  | leafRelease (m : Master) (l : LeafId)
  /-- LEAF_CTRCLR (R163). A write of 1 to LEAF.CTRCLR.CLEAR clears every FAILCNT and TRAPLOG.COUNT. -/
  | leafCtrclr (m : Master) (v : Word)
  /-- TRAPLOG_READ (R163). A read of LEAF.TRAPLOG latches TRAPPC, TRAPITER and TRAPFN for the reading master. -/
  | traplogRead (m : Master)
  /-- CDR_BEGIN (R375). 3 µs after an F2 fault, the CDR begins with the undo rollback, any installation redo and the checkpoint restore. -/
  | cdrBegin
  /-- CDR_RESUME (R375). At the first tick after the restore completes, FRM resumes, F2ACT clears and the ward opens a RECOVERY period. -/
  | cdrResume
  /-- HEARTBEAT_SEND (R170). At every multiple of 12.5 µs of device time, a module in PRIMARY, JOINING or SHADOW sends a heartbeat on both hasp lanes. -/
  | heartbeatSend
  /-- HEARTBEAT (R170). A received partner heartbeat gives the partner's state and, from a primary, a time sample for the hasp discipline. -/
  | heartbeat (q : HbRec)
  /-- HEARTBEAT_LOST (R171). 50 µs without a partner heartbeat declares it lost, raising HB_LOST and starting the takeover check. -/
  | heartbeatLost (contested : Bool)
  /-- UNREACHABLE (R184). BOLT_IN stayed asserted for 12.5 µs after a heartbeat loss, so the standby goes to UNSYNC with UNREACHABLE. -/
  | unreachable
  /-- HANDOVER_FAIL (R188). BOLT_IN was not asserted within 10 µs of a YIELD, so the yielding module retakes the bolt and raises HANDOVER_FAIL. -/
  | handoverFail (contested : Bool)
  /-- HASP_LANE_DOWN (R169). 8 µs without a valid symbol on a hasp lane declares it down and traffic moves to the other lane. -/
  | haspLaneDown (l : Fin 2)
  /-- HASP_LANE_UP (R169). 1 ms of clean symbols declares a hasp lane up again. -/
  | haspLaneUp (l : Fin 2)
  /-- SAMPLE (R173). A SAMPLE record gives the standby the primary's local input sample of T0(N). -/
  | sample (q : SampleRec)
  /-- ACCEPT (R173). An ACCEPT record names a remote message in the input image, which the standby matches or requests. -/
  | accept (q : AcceptRec)
  /-- PAYLOAD (R173). A PAYLOAD record gives the standby a whole message that it reported missing. -/
  | payload (frame : Nat) (lane : Nat) (f : BusFrame)
  /-- TRIGGER_RECORD (R172). A TRIGGER record gives the standby an event trigger with its source and frame. -/
  | triggerRecord (kind : Nat) (index : Nat) (frame : Nat)
  /-- CLOSE (R172). A CLOSE record ends the input image of frame N with a count of ACCEPT records. -/
  | close (frame : Nat) (count : Nat)
  /-- POSITION (R174). A POSITION record makes the standby release, preempt, resume or end an instance at the given program position. -/
  | position (q : PosRec)
  /-- WRITE_RECORD (R182). A WRITE record makes the standby issue a forwarded write as M2 at its program position. -/
  | writeRecord (q : WriteRec)
  /-- COMMITS (R178). A COMMITS record gives the standby the setting writes to apply at T0(N) with their sequence numbers. -/
  | commits (q : CommitsRec)
  /-- CC_RECORD (R176). A CC record gives the standby the overrun outcomes and the output digest of frame N. -/
  | ccRecord (q : CcRec)
  /-- TXDONE (R186). A TXDONE record marks a transmit request done on the standby. -/
  | txdone (lane : Nat) (order : Nat)
  /-- DIGEST (R177). A DIGEST record from the standby keeps or ends the primary's INSTEP status. -/
  | digest (frame : Nat) (crc : Word)
  /-- YIELD_RECORD (R171). A YIELD record declares the partner's heartbeat lost at once, and the standby may take the bolt. -/
  | yieldRecord (contested : Bool)
  /-- LEAVE_RECORD (R192). A LEAVE record makes the primary set PARTNER = NONE and raise PARTNER_LEFT. -/
  | leaveRecord
  /-- COPY_RECORD (R190). A copy record delivers a 4 KiB page of the primary's working memory to a joining standby. -/
  | copyRecord (page : Nat) (data : List Byte)
  /-- MIRROR_RECORD (R190). A mirror record delivers a primary working-memory write to a joining standby in issue order. -/
  | mirrorRecord (addr : Nat) (data : List Byte)
  /-- SHADOW_CLOSE (R176). At SC(N) = CC(N) + 6 µs, the standby commits frame N and compares digests, or goes to UNSYNC with SHADOW_LATE. -/
  | shadowClose
  /-- COPY_PASS_END (R190). A COPY pass ends, and the join enters MIRROR or starts another pass. -/
  | copyPassEnd
  /-- JOIN_RESTART (R190). 1 s after an abandoned join, it starts again from COPY. -/
  | joinRestart
  /-- AUTOJOIN (R191). 1 s after entering UNSYNC with AUTOJOIN = 1 and the partner heard, the standby goes to JOINING. -/
  | autojoin
  /-- JOIN (R191). HASP.CMD OP = JOIN takes a standby from UNSYNC to JOINING. -/
  | join (m : Master)
  /-- LEAVE (R192). HASP.CMD OP = LEAVE makes a standby send LEAVE, stop heartbeats and go to UNSYNC. -/
  | leave (m : Master)
  /-- HASP_YIELD (R192). HASP.CMD OP = YIELD makes a primary with an INSTEP partner release the bolt and send YIELD. -/
  | haspYield (m : Master)
  /-- ASSUME (R189). HASP.CMD OP = ASSUME makes a module in UNSYNC PRIMARY by a CDR from its own latest checkpoint. -/
  | haspAssume (m : Master) (contested : Bool)
  /-- HASP_CTRCLR (R195). A write of 1 to HASP.CTRCLR.CLEAR clears LAG.MAX, HBMISS and EVCNT. -/
  | haspCtrclr (m : Master) (v : Word)
  /-- FORCE_TABLE_WRITE (R199). A write to a force table entry is checked and accepted, or refused with FORCE_REFUSED. -/
  | forceTableWrite (m : Master) (addr : Nat) (data : List Byte)
  /-- FORCE_CLEAR (R200). OLC.FCLR with the key and ALL = 1 clears VALID in every force entry in one step. -/
  | forceClear (m : Master)
  /-- DELTA_WRITE (R206). A write to OLC.DBASE or OLC.DLEN sets VSTATE to NONE and ends any verification in progress. -/
  | deltaWrite (m : Master) (off : Nat) (v : Word)
  /-- VERIFY (R205). OLC.CMD OP = VERIFY starts reading and checking the delta at 2.0 GB/s. -/
  | verify (m : Master)
  /-- VERIFY_ABANDON (R214). OLC.CMD OP = abandon stops a verification in progress with VSTATE BAD and cause ABORTED. -/
  | verifyAbandon (m : Master)
  /-- VERIFICATION_END (R205). A verification ends VERIFIED with ITIME computed, or BAD with its cause and offset and VERIFY_BAD. -/
  | verificationEnd
  /-- PATROL_SCRUB (R218). The patrol scrub reads every word once in 24 hours and corrects single-bit errors, reporting uncorrectable ones. -/
  | patrolScrub (addr : Nat)
  /-- MEM_INJECT (R237). MEM.INJECT with the key and ARM = 1 corrupts the next 8-byte word that the writing master writes. -/
  | memInject (m : Master) (v : Word)
  /-- MEM_CTRCLR (R237). A write of 1 to MEM.CTRCLR.CLEAR clears CECNT, UECNT and UNDOPEAK. -/
  | memCtrclr (m : Master) (v : Word)
  /-- PAGE_CLEANING (R224). RET copies a dirty page to retention flash, forced or cold under the endurance governor. -/
  | pageCleaning (page : Nat)
  /-- DIRTY_STALL (R225). A write to a clean page that waited for the dirty count to fall below LIMIT proceeds. -/
  | dirtyStall (q : StallReq)
  /-- HOLDUP_MEASURE (R230). During each charge, RET measures the hold-up capacitance and updates LIMIT and HOLDOK. -/
  | holdupMeasure (cap : Nat) (volt : Nat)
  /-- RET_CTRCLR (R238). A write of 1 to RET.CTRCLR.CLEAR clears STALLCNT. -/
  | retCtrclr (m : Master) (v : Word)
  /-- FRAME_RECEPTION (R248). A declared frame received without error updates image points, match buffers and a FIFO by the filters. -/
  | frameReception (lane : Nat) (f : BusFrame)
  /-- WINDOW_OCCURRENCE (R280). An occurrence of a lane window opens, and the lane offers its eligible request or mapped frame by the window kind. -/
  | windowOccurrence (lane : Nat) (w : Nat)
  /-- TRANSMISSION_COMPLETE (R259). A frame becomes valid for the transmitter, its queue entry becomes FREE, TXCNT advances and TXDONE is sent in a pair. -/
  | transmissionComplete (lane : Nat)
  /-- TRANSMISSION_ERROR (R258). An arbitration loss or error leaves the request QUEUED for a retry in the window or its next occurrence. -/
  | transmissionError (lane : Nat) (tec : Nat)
  /-- RECOVERED (R261). After 128 occurrences of 11 recessive bits, bus-off recovery ends and the error counters clear. -/
  | recovered (lane : Nat)
  /-- RECOVER (R262). LANEn.CMD OP = RECOVER starts bus-off recovery in BUSOFF or FAILED. -/
  | recover (m : Master) (lane : Nat)
  /-- INTEGRATION_DONE (R263). A lane put in service has seen 11 consecutive recessive bits and begins its windows. -/
  | integrationDone (lane : Nat)
  /-- LANE_CTRCLR (R266). A write of 1 to LANEn.CTRCLR.CLEAR clears the lane's counters, FIFO peaks and filter hits. -/
  | laneCtrclr (m : Master) (lane : Nat) (v : Word)
  /-- REFERENCE_MESSAGE (R283). At T0 − REFLEAD, a potential time master starts its reference message, and arbitration elects the master. -/
  | referenceMessage (lane : Nat) (won : Bool)
  /-- REFERENCE_RECEPTION (R285). A follower receives the elected master's reference and takes an offset sample for its discipline. -/
  | referenceReception (lane : Nat) (q : RefMsg)
  /-- SOURCE_LOST (R278). No sample for 8 ticks, or 3 s for PPS, puts the discipline into HOLDOVER. -/
  | sourceLost
  /-- ECHO_REQ (R289). A following Olloth device receiving a REQ with its own echo address answers with an RSP. -/
  | echoReq (lane : Nat) (q : EchoMsg)
  /-- ECHO_RSP (R287). The master receives an RSP, computes delay and offset, updates EDLY and sends RES. -/
  | echoRsp (lane : Nat) (q : EchoMsg)
  /-- ECHO_RES (R289). A node receives RES, takes the delay and corrects its time by −θ. -/
  | echoRes (lane : Nat) (q : EchoMsg)
  /-- ECHO_FAIL (R288). No RSP has arrived when the window occurrence closes, so the exchange ends with ECHO_FAIL. -/
  | echoFail (lane : Nat)
  /-- PPS_OUTPUT_RISE (R291). TIME_OUT rises when device time is a multiple of 10^9 ns. -/
  | ppsOutputRise
  /-- PPS_OUTPUT_FALL (R291). TIME_OUT falls WIDTH µs after it rose. -/
  | ppsOutputFall
  /-- TIME_IN_EDGE (R291). A rising edge on TIME_IN is captured into PPSCAP and, with SRC = PPS, gives a sample or raises PPS_BAD. -/
  | timeInEdge
  /-- FIELD_REALIGN (R292). Every 1 µs, TIME realigns each field-side counter and raises FIELD_ALIGN if it is more than 5 ns out. -/
  | fieldRealign (out : BitVec 18)
  /-- TIME_STEP (R295). TIME.CMD OP = STEP schedules device time to become SETTIME at the next tick. -/
  | timeStep (m : Master)
  /-- TIME_EVENT (R296). A time event fires at AT, triggers its event tasks and advances AT by PER or disables itself. -/
  | timeEvent (i : Nat)
  /-- TIME_NOW_READ (R297). A read of TIME.NOW_LO latches NOW_HI, RAW_LO and RAW_HI of the same instant for the reading master. -/
  | timeNowRead (m : Master)
  /-- MAP_READ (R297). A read of TIME.MAP[p].RAW_LO latches the other four registers of that piece. -/
  | mapRead (m : Master) (p : Fin 2)
  /-- TIME_CTRCLR (R297). A write of 1 to TIME.CTRCLR.CLEAR clears EVCNT, OFFWIN and WIN[w].LATE. -/
  | timeCtrclr (m : Master) (v : Word)
  /-- RAW_TRANSITION (R305). A raw level change at a DIO pad moves the filter and counts towards the chatter diagnostic. -/
  | rawTransition (ch : Nat) (level : Bool)
  /-- CHATTER_WINDOW_END (R306). A chatter window ends and clears CHATTER if it held at most CHATMAX transitions. -/
  | chatterWindowEnd (ch : Nat)
  /-- FILTERED_EDGE (R305). The filtered value changes, the edge count and FILTT and RAWT are recorded, and event triggers fire. -/
  | filteredEdge (ch : Nat)
  /-- STUCK_ACTIVE (R306). The filtered value has been 1 without a break for STUCKT × 0.1 s, so STUCK is set and the fault is raised. -/
  | stuckActive (ch : Nat)
  /-- WIRE_BREAK (R302). The input current has stayed below 0.3 mA for 100 ms with the value 0, so WBREAK is set. -/
  | wireBreak (ch : Nat)
  /-- WIRE_BREAK_CLEAR (R302). The input current has been at least 0.3 mA for 100 ms, so WBREAK clears. -/
  | wireBreakClear (ch : Nat)
  /-- CURRENT_LIMIT (R311). A switch above its limit regulates its current, sets CURLIM and raises CURRENT_LIMIT once per episode. -/
  | currentLimit (ch : Nat) (ma : Nat)
  /-- BANK_OVERLOAD (R311). The bank's L+ current has stayed above 6.0 A for 10 ms, so OVERLOAD is set. -/
  | bankOverload (b : Nat) (isum : Nat)
  /-- THERMAL_SHUTDOWN (R312). A switch junction reaches 175 °C, so the switch turns off with TSD and, with TRETRY, TLATCH. -/
  | thermalShutdown (ch : Nat)
  /-- THERMAL_COOL (R312). The junction cools to 160 °C, TSD clears, and the switch returns unless TLATCH holds it off. -/
  | thermalCool (ch : Nat)
  /-- TLATCH_CLEAR (R312). A write of 1 to DIO.CH[n].STAT.TLATCH clears the latch, and the switch returns once TSD allows. -/
  | tlatchClear (m : Master) (ch : Nat)
  /-- RB_MISMATCH (R315). A DO readback mismatch has lasted 1 ms, so RBMIS is set. -/
  | rbMismatch (ch : Nat)
  /-- LP_LOW (R316). A bank's L+ has stayed below 17.0 V for 1 ms, so LPLOW is set. -/
  | lpLow (b : Nat) (lpv : Nat)
  /-- EDGECNT_READ (R318). A read of DIO.CH[n].EDGECNT latches RAWT and FILTT of the same edge for the reading master. -/
  | edgecntRead (m : Master) (ch : Nat)
  /-- NO_COMPLIANCE (R328). A loop output's regulation error has exceeded 8 µA for 1 ms, so NOCOMP is set and the NCACT action applies. -/
  | noCompliance (ch : Nat)
  /-- NOCOMP_CLEAR (R329). After 100 ms within tolerance, or of a met prediction under ALARM_LOW, NOCOMP clears. -/
  | nocompClear (ch : Nat)
  /-- THERMAL_FOLDBACK (R327). A loop output junction passes 150 °C, so the channel lowers its ceiling and sets TFOLD. -/
  | thermalFoldback (ch : Nat) (ceil : Nat)
  /-- FOLDBACK_END (R327). The junction has stayed below 140 °C for 100 ms, so TFOLD clears. -/
  | foldbackEnd (ch : Nat)
  /-- OPEN_LOOP (R331). An open-loop condition has held for 1 ms, so OPEN is set. -/
  | openLoop (ch : Nat)
  /-- OPEN_LOOP_CLEAR (R331). The open-loop condition has been absent for 100 ms, so OPEN clears. -/
  | openLoopClear (ch : Nat)
  /-- AO_RB_MISMATCH (R333). The readback has differed from the regulated current by more than READTOL for 1 ms, so RBMIS is set. -/
  | aoRbMismatch (ch : Nat)
  /-- GROUP_SUPPLY (R338). A group's isolated converter fails, its channels go high-impedance and GROUP_SUPPLY is raised. -/
  | groupSupply (g : Nat)
  /-- GROUP_RESUME (R338). A failed group resumes at the first tick after its converter has been good for 100 ms. -/
  | groupResume (g : Nat)
  /-- READBACK_READ (R340). A read of AO.CH[n].RB latches MEAS and VSUP of the same conversion for the reading master. -/
  | readbackRead (m : Master) (ch : Nat)
  /-- SECOND_STEP (R342). The calendar count steps to the next second, with range roll-over and the alarm check. -/
  | secondStep
  /-- RTC_HALT (R346). A write of HALT = 1 stops the count at the next crystal edge. -/
  | rtcHalt (m : Master) (v : Word)
  /-- RTC_RUN (R347). A write of HALT = 0 validates the held time and starts counting, or sets DATE_INVALID. -/
  | rtcRun (m : Master) (v : Word)
  /-- RTC_FORMAT_WRITE (R345). A write of RTC.CTL.FMT changes the presentation layout, and is refused while HALT = 0. -/
  | rtcFormatWrite (m : Master) (v : Word)
  /-- RTC_CLOCK_WRITE (R346). A write to RTC.CLK0 or CLK1 while halted sets the held time and clears the subsecond. -/
  | rtcClockWrite (m : Master) (hi : Bool) (v : Word)
  /-- RTC_SNAP (R348). A read of RTC.SNAP returns the subsecond and latches CLK0 and CLK1 for the reading master. -/
  | rtcSnap (m : Master)
  /-- OSC_STOP (R349). The crystal has shown no edge for 1 ms, so OSF is set and, on main power, OSC_STOP is raised. -/
  | oscStop
  /-- RTC_TEMP_SAMPLE (R352). Every 1 s on main power, or 16 s on VBAT, the sensor is read and the correction recomputed. -/
  | rtcTempSample (t : Int)
  /-- RTC_CORRECTION (R352). At the end of each sixteenth of a second, the accumulator adds or drops one crystal cycle. -/
  | rtcCorrection
  /-- VBAT_CHECK (R354). Every second on main power, VBAT is measured and VBATLOW is set or cleared. -/
  | vbatCheck (mv : Nat)
  /-- CHECKIN (R360). A write of WARD.CHECKIN is judged as an ignored, foreign, bad, early, late, duplicate or accepted check-in. -/
  | checkin (m : Master) (v : Word)
  /-- PERIOD_EXPIRY (R359). c reaches PERIOD with an enrolled slot missing, the ward is HALTED and EXPIRED is raised as F2 or F3. -/
  | periodExpiry
  /-- PREWARN (R366). At c = PERIOD − PREWARN of an unserved period, PREWARN is raised and event tasks of KIND 0x6 are triggered. -/
  | prewarn
  /-- WARD_KEY (R369). A write of WARD.KEY advances or breaks the three-step disable sequence. -/
  | wardKey (m : Master) (v : Word)
  /-- DISABLE (R369). WARD.CMD OP = DISABLE completing the key sequence puts the ward OFF with DISABLED. -/
  | wardDisable (m : Master)
  /-- ENABLE (R363). WARD.CMD OP = ENABLE in OFF enters WINDOW with reason START. -/
  | wardEnable (m : Master)
  /-- TEST (R363). WARD.CMD OP = TEST in NORMAL or WINDOW sets the reason TEST. -/
  | wardTest (m : Master)
  /-- NORMAL (R363). WARD.CMD OP = NORMAL in reason TEST enters NORMAL and begins a new period. -/
  | wardNormal (m : Master)
  /-- WARD_LOCK (R369). A write of 1 to WARD.LOCK locks disabling and the configuration until POR or DRST. -/
  | wardLock (m : Master) (v : Word)
  /-- WARD_PERIOD_WRITE (R368). A write of WARD.PERIOD is checked against COMPAT, WOPEN and PREWARN and takes effect from the next period. -/
  | wardPeriodWrite (m : Master) (v : Word)
  /-- WARD_CTRCLR (R371). A write of 1 to WARD.CTRCLR.CLEAR clears DIAGCNT. -/
  | wardCtrclr (m : Master) (v : Word)
  /-- FAULT_REPORT (R374). A unit reports a fault to FLT, which queues, merges or loses it and starts the action of its class. -/
  | faultReport (code : BitVec 16) (cls : Fin 4) (mas : BitVec 4)
  /-- FLT_POP (R374). FLT.CMD OP = POP removes the oldest queue entry. -/
  | fltPop (m : Master)
  /-- FLT_CLEAR (R374). FLT.CMD OP = CLEAR empties the queue and clears FLT.CNT and FLT.LOST. -/
  | fltClear (m : Master)
  /-- FLT_RELEASE (R376). FLT.CMD OP = RELEASE ends a releasable F3 state with a CDR that resumes in STOP, or continues a held start. -/
  | fltRelease (m : Master) (contested : Bool)
  /-- HEAD_CODE_READ (R380). A read of FLT.HEAD_CODE latches HEAD_FNUM and HEAD_TIME of the same entry for the reading master. -/
  | headCodeRead (m : Master)
  /-- BLOCK_PROTECT_WRITE (R388). The first write of PST.PROT after POR or DRST sets block protect, and later writes are refused. -/
  | blockProtectWrite (m : Master) (v : Word)
  /-- PAGE1_LOCK (R389). PST.P1LOCK with the key and LOCK = 1 locks page 1 against every master for ever. -/
  | page1Lock (m : Master) (v : Word)
  /-- SELECT (R393). PST.RECCMD OP = SELECT returns the current copy of a record by the dual-copy rule, with its report. -/
  | select (m : Master) (r : Fin 16)
  /-- SEAL (R394). PST.RECCMD OP = SEAL computes the CRC and writes the header of the other copy. -/
  | sealRec (m : Master) (r : Fin 16)
  /-- RECORD_COMMAND_DONE (R395). A record command completes, clearing BUSY and, for SEAL, setting SEALED. -/
  | recordCommandDone
  /-- PST_CTRCLR (R396). A write of 1 to PST.CTRCLR.CLEAR clears CECNT. -/
  | pstCtrclr (m : Master) (v : Word)
  /-- EVR_TRIG (R399). A write of EVR.TRIG fires the named source, or the firing is dropped on a full queue. -/
  | evrTrig (m : Master) (v : Word)
  /-- EVENT_RECORD_WRITE (R401). EVR takes a queued firing, reads its snapshot addresses and writes a numbered record into the ring. -/
  | eventRecordWrite
  /-- CURSOR_WRITE (R403). A write of EVR.CURSOR sets the master's cursor and recomputes its GONE bit. -/
  | cursorWrite (m : Master) (hi : Bool) (v : Word)
  /-- EVR_CLEAR (R404). EVR.CMD OP = CLEAR sets OLDEST to NEXT, removes the written records and raises CLEARED. -/
  | evrClear (m : Master)
  /-- UPDATE (R412). PNL.CMD OP = UPDATE reads frame memory, checks the CRC, latches the band, journals and drives the commons. -/
  | update (m : Master)
  /-- UPDATE_END (R412). The last common of an update has been driven, STATE returns to IDLE and UPDCNT advances. -/
  | updateEnd
  /-- PNL_CRC (R414). PNL.CMD OP = CRC computes the frame-memory CRC-32C into PNL.CRC without driving. -/
  | pnlCrc (m : Master)
  /-- REPAINT_START (R417). A repaint that waited for a valid temperature begins driving every common. -/
  | repaintStart
  /-- REPAINT_END (R417). A repaint ends, SHOWN holds the repainted frame, STATE is IDLE and REPAINT is raised. -/
  | repaintEnd
  /-- HVEN_OFF (R411). PNL_HVEN falls 100 µs after the last phase of an update or repaint ends. -/
  | hvenOff
  /-- THERMISTOR_READING (R413). Every 1 s the panel thermistor is measured, and an invalid reading sets TSBAD. -/
  | thermistorReading (t : Int)
  /-- ERASE (R437). BOOT.PGCMD OP = ERASE erases the flash sector containing PGADDR. -/
  | erase (m : Master)
  /-- PROGRAM (R437). BOOT.PGCMD OP = PROGRAM writes the page buffer to the flash page at PGADDR. -/
  | program (m : Master)
  /-- FLASH_COMMAND_END (R437). BOOT's status polling finds the flash command done and sets DONE, or ERR with PROG_FAIL. -/
  | flashCommandEnd (ok : Bool)
  /-- DOORBELL (R443). Each 1 written to HOST.DOORBELL is an event trigger of KIND 0x5. -/
  | doorbell (m : Master) (v : Word)
  /-- SIGNAL (R443). A write of HOST.SIGNAL sets cause bits 40 to 55 and raises their MSI-X vectors. -/
  | signal (m : Master) (v : Word)
  /-- HOST_RESET_REQUEST (R441). HOST.RSTREQ with the key and DRST = 1 requests a DRST and sets SYS.RSTCAUSE.HOST. -/
  | hostResetRequest (m : Master) (v : Word)
  /-- WINDOW_B_BASE_WRITE (R439). A write of HOST.WINB_HI applies a new window B base, or is refused if the base is not allowed. -/
  | windowBBaseWrite (m : Master) (v : Word)
  /-- LINK_DOWN (R441). A PCI Express link that was up is lost, the host port is reset and LINK_DOWN is raised. -/
  | linkDown
  /-- PORT_RESET (R441). PERST_B or an FLR resets only the host port and raises PORT_RESET. -/
  | portReset (perst : Bool)
  /-- IDCODE (R444). The JTAG IDCODE instruction selects the identification register. -/
  | idcode
  /-- SAMPLE_PRELOAD (R444). The JTAG SAMPLE/PRELOAD instruction selects the boundary register. -/
  | samplePreload
  /-- EXTEST (R444). The JTAG EXTEST instruction takes over the boundary cells and raises F3 SCAN_TAKEOVER. -/
  | extest
  /-- CLAMP (R444). The JTAG CLAMP instruction holds the boundary cells and raises F3 SCAN_TAKEOVER. -/
  | clamp
  /-- HIGHZ (R444). The JTAG HIGHZ instruction floats the outputs and raises F3 SCAN_TAKEOVER. -/
  | highz
  /-- DBGACC (R444). The JTAG DBGACC instruction selects the 80-bit access register for M3. -/
  | dbgacc
  /-- BYPASS (R444). The JTAG BYPASS instruction, or any unlisted code, selects the bypass register. -/
  | bypass
  /-- DBGACC_UPDATE (R445). Update-DR of DBGACC starts one aligned 32-bit read or write by M3. -/
  | dbgaccUpdate (dr : BitVec 80)
  /-- HALT (R446). DBG.CTL OP = HALT stops the leaves under R77 and records the prior mode. -/
  | dbgHalt (m : Master)
  /-- RESUME (R446). DBG.CTL OP = RESUME writes the prior mode to FRM.MODE.REQ so the leaves continue. -/
  | dbgResume (m : Master)
  /-- DBG_STEP (R446). DBG.CTL OP = STEP executes one instruction, one RPTI iteration or a whole RPTU of the halted instance. -/
  | dbgStep (m : Master)
  /-- LID_HOT (R460). Every sensor reading has lain above 95 °C for 1 s, so F1 LID_HOT is raised once per episode. -/
  | lidHot (t : Int)
  /-- LID_TEMP_READING (R460). Every 1 ms SYS reads the lid sensor, updates TEMP.MAX and raises F3 LID_LIMIT above 110 °C. -/
  | lidTempReading (t : Int)
  /-- LINK_UP (R441). The PCI Express link finishes training and comes up, setting HOST.STAT.LINKUP and making M1 active. -/
  | linkUp (speed : Nat) (width : Nat)
  /-- LP_LOW_CLEAR (R316). A bank's L+ has been above 18.0 V for 1 ms, so LPLOW clears. -/
  | lpLowClear (b : Nat) (lpv : Nat)
  /-- RBMIS_CLEAR (R315). A DO readback and its switch state have agreed for 1 ms, so STAT.RBMIS clears. -/
  | rbmisClear (ch : Nat)
  /-- OVERLOAD_CLEAR (R318). A bank's current has stayed below 6.0 A for 10 ms, so DIO.BANK[b].STAT.OVERLOAD clears. -/
  | overloadClear (b : Nat) (isum : Nat)
  /-- LIMITING_EPISODE_END (R311). A switch has been out of its current limit for 10 ms, so the limiting episode ends and CURLIM clears. -/
  | limitingEpisodeEnd (ch : Nat)
  /-- AO_RBMIS_CLEAR (R333). A loop output's readback and regulated current have agreed within READTOL for 1 ms, so RBMIS clears. -/
  | aoRbmisClear (ch : Nat)
  /-- WINDOW_CLOSE (R258). A lane window occurrence closes, no new retry starts, waiting requests wait for the next occurrence and WIN[w].LATE counts an eligible request left waiting. -/
  | windowClose (lane : Nat) (w : Nat)
  /-- RECEPTION_ERROR (R260). A frame on the bus is received with an error, the receive error counter rises and the lane may enter error-passive, delivering nothing. -/
  | receptionError (lane : Nat) (rec : Nat)
  /-- PAYLOAD_REQUEST (R173). The primary receives the standby's request for a named message it has not received and sends it as a PAYLOAD record. -/
  | payloadRequest (frame : Nat) (lane : Nat) (stamp : Nat)
  /-- DIGEST_TIMEOUT (R177). No DIGEST for a released commit of CC(N) has arrived by SC(N) + 5 µs, so the primary's partner status leaves INSTEP. -/
  | digestTimeout (frame : Nat)
  /-- TEST_LOGIC_RESET (R444). TRST_B asserted takes the TAP to Test-Logic-Reset, which selects IDCODE and leaves EXTEST, CLAMP or HIGHZ so RELOK can read 1. -/
  | testLogicReset
  deriving DecidableEq, Repr

end Sys2Proof
end

