-- ==== Sys2Proof/Machine/Hash.lean ====
section
/-! DEFINITION. CRC-32C, the check of every record and section, and SHA-256, the whole-image check (R10). -/

namespace Sys2Proof.Machine

/-- One bit of CRC-32C: the reflected Castagnoli polynomial. -/
def crcBit (c : Word) : Word := if c.getLsbD 0 then (c >>> 1) ^^^ 0x82F63B78 else c >>> 1

/-- `n` bits of CRC-32C. -/
def crcBits : Nat → Word → Word
  | 0, c => c
  | n + 1, c => crcBits n (crcBit c)

/-- One byte of CRC-32C. -/
def crcByte (c : Word) (b : Byte) : Word := crcBits 8 (c ^^^ b.zeroExtend 32)

/-- CRC-32C of bytes: initial value and final XOR all ones. -/
def crc32c (l : List Byte) : Word := ~~~ (l.foldl crcByte 0xFFFFFFFF)

/-! SHA-256. Its constants are roots of primes, and are computed as such: the spec names the function and gives no table. -/

/-- The integer part of the `k`-th root of `n`, by bisection over `f` bits from the estimate `r`. -/
def rootBits (k n : Nat) : Nat → Nat → Nat
  | 0, r => r
  | f + 1, r => rootBits k n f (if (r + 2 ^ f) ^ k ≤ n then r + 2 ^ f else r)

/-- The first 32 bits of the fraction of the `k`-th root of a number below 2^8 times 2^`k`. -/
def rootFraction (k n : Nat) : Word := BitVec.ofNat 32 (rootBits k (n * 2 ^ (32 * k)) 40 0)

/-- The primes below `m`, for `m` at most 324. -/
def primesBelow (m : Nat) : List Nat :=
  (List.range m).filter fun n => decide (2 ≤ n) && (List.range 18).all fun d => decide (d < 2) || decide (n ≤ d) || n % d != 0

/-- The eight words of the hash as it stands. -/
structure ShaState where
  a : Word
  b : Word
  c : Word
  d : Word
  e : Word
  f : Word
  g : Word
  h : Word
  deriving DecidableEq, Repr

/-- The words, in order. -/
def ShaState.words (v : ShaState) : List Word := [v.a, v.b, v.c, v.d, v.e, v.f, v.g, v.h]

/-- The sum of two states, word by word. -/
def ShaState.add (v w : ShaState) : ShaState :=
  { a := v.a + w.a, b := v.b + w.b, c := v.c + w.c, d := v.d + w.d,
    e := v.e + w.e, f := v.f + w.f, g := v.g + w.g, h := v.h + w.h }

/-- The state before the first block: the square roots of the first eight primes. -/
def shaStart : ShaState :=
  let p (i : Nat) : Word := rootFraction 2 ((primesBelow 20).getD i 0)
  { a := p 0, b := p 1, c := p 2, d := p 3, e := p 4, f := p 5, g := p 6, h := p 7 }

/-- A word turned right by three amounts, and combined. -/
def turned (x : Word) (i j k : Nat) : Word := x.rotateRight i ^^^ x.rotateRight j ^^^ x.rotateRight k

/-- A word turned right by two amounts and shifted by a third, and combined. -/
def mixed (x : Word) (i j k : Nat) : Word := x.rotateRight i ^^^ x.rotateRight j ^^^ (x >>> k)

/-- One round with its constant and its word of the schedule. -/
def shaStep (v : ShaState) (k w : Word) : ShaState :=
  let pick := v.g ^^^ (v.e &&& (v.f ^^^ v.g))
  let most := (v.a &&& (v.b ||| v.c)) ||| (v.b &&& v.c)
  let t := v.h + k + w + pick + turned v.e 6 11 25
  { a := t + most + turned v.a 2 13 22, b := v.a, c := v.b, d := v.c, e := v.d + t, f := v.e, g := v.f, h := v.g }

/-- The word of the schedule that follows a window of sixteen, the oldest first. -/
def nextWord (l : List Word) : Word :=
  let at' (i : Nat) : Word := l.getD i 0
  at' 0 + at' 9 + mixed (at' 1) 7 18 3 + mixed (at' 14) 17 19 10

/-- The rounds of a block, one for each constant, over a window of the schedule that moves on by a word in each. -/
def shaRounds : List Word → List Word → ShaState → ShaState
  | k :: ks, w :: win, v => shaRounds ks (win ++ [nextWord (w :: win)]) (shaStep v k w)
  | _, _, v => v

/-- Four bytes as a word, the first the highest. -/
def beWord (l : List Byte) : Word := BitVec.ofNat 32 (l.foldl (fun n b => n * 256 + b.toNat) 0)

/-- Hashes `n` blocks of 64 bytes; the constants are the cube roots of the first 64 primes. -/
def shaBlocks : Nat → List Byte → ShaState → ShaState
  | 0, _, v => v
  | n + 1, l, v =>
    let win := (List.range 16).map fun i => beWord ((l.drop (4 * i)).take 4)
    shaBlocks n (l.drop 64) (v.add (shaRounds ((primesBelow 312).map (rootFraction 3)) win v))

/-- The `n` bytes of a number, the highest first. -/
def beBytes : Nat → Nat → List Byte
  | 0, _ => []
  | n + 1, v => beBytes n (v / 256) ++ [BitVec.ofNat 8 v]

/-- SHA-256 of bytes, as 32 bytes: the message ends in a one bit, zeros, and its length in bits. -/
def sha256 (l : List Byte) : List Byte :=
  let n := l.length
  let blocks := (n + 9 + 63) / 64
  let m := l ++ 0x80 :: List.replicate (64 * blocks - n - 9) 0 ++ beBytes 8 (8 * n)
  (shaBlocks blocks m shaStart).words.flatMap fun w => beBytes 4 w.toNat

end Sys2Proof.Machine
end

