-- ==== Sys2Proof/Config.lean ====
section
/-! DEFINITION. What one module or one run fixes and the manual leaves open: the values set in manufacture (R11, R238, R391, R449)
and the free values. None of them has a body that a proof could see. -/

namespace Sys2Proof.Config

/-- How many characters the lot code has beside its first, set in manufacture (R12). (Log 7, DEDUCED.) -/
opaque lotMore : Fin 8
/-- The characters of the lot code: 0 to 9 stand for the digits, 10 to 35 for the capitals (R12). -/
opaque lotChar : Fin 8 → Fin 36

/-- A character of the lot code as ASCII; a code shorter than eight characters ends in spaces (R12). -/
def lotAscii (i : Fin 8) : Nat :=
  if lotMore < i then 0x20 else if (lotChar i).val < 10 then 0x30 + (lotChar i).val else 0x37 + (lotChar i).val

/-- SYS.LOT_LO: characters 1 to 4, the first in [7:0] (R11). -/
def lotLo : Word :=
  BitVec.ofNat 32 (lotAscii 0 + lotAscii 1 * 2 ^ 8 + lotAscii 2 * 2 ^ 16 + lotAscii 3 * 2 ^ 24)
/-- SYS.LOT_HI: characters 5 to 8 (R11). -/
def lotHi : Word :=
  BitVec.ofNat 32 (lotAscii 4 + lotAscii 5 * 2 ^ 8 + lotAscii 6 * 2 ^ 16 + lotAscii 7 * 2 ^ 24)
/-- The wafer number less 1, set in manufacture (R11). -/
opaque waferIndex : Fin 25
/-- SYS.WAFER.NUM, 1 to 25 (R11). -/
def waferNum : BitVec 5 := BitVec.ofNat 5 (waferIndex.val + 1)
/-- SYS.DIEPOS, set in manufacture (R11). -/
opaque diePos : Word
/-- The serial number less 1, set in manufacture: no module has the number 0 (R12). -/
opaque serialIndex : Fin 18446744073709551615
/-- SYS.SERIAL_LO (R11). -/
def serialLo : Word := BitVec.ofNat 32 (serialIndex.val + 1)
/-- SYS.SERIAL_HI (R11). -/
def serialHi : Word := BitVec.ofNat 32 ((serialIndex.val + 1) / 2 ^ 32)
/-- RET.SPARE.PERCENT, set in manufacture (R238). -/
opaque sparePercent : Byte
/-- HOST.PCIID.VENDOR, set in manufacture (R449). -/
opaque pciVendor : BitVec 16
/-- RET.WRITTEN as manufactured (R238). -/
opaque retWritten : Nat
/-- RET.PTIME as manufactured (R238). -/
opaque retPtime : Nat

/-- A free value: nothing constrains it. It is applied to the counter `State.free`, which every use advances. (Log 8, DESIGN CHOICE.) -/
opaque freeBits : Nat → DWord

/-- The code D of a loop output lies within 1 of the exact result (R322): where in that range it lies, by channel and
point value. -/
opaque codeError : Nat → Nat → Nat

/-- The pages that a part of the state of R471 occupies in the memory devices, numbered from 0; neither their number nor their
place is published. Part 0 is the unforced values, 1 the input images, 2 the instances' buffers, 3 and 4 the marks. -/
opaque frmPages : Nat → List Nat

/-- The layout of the TXN journal is not published (R49): which entry the byte at an offset of the journal region
belongs to. 0 to 3 are the slots' state and staged writes, 4 to 7 their PENDING commits, 8 is TXN.SEQ, 9 the
installation journal entry, 10 the values of R208, 11 no entry, and 12 + o the entry of the register at offset o. -/
opaque journalEntry : Nat → Nat

/-- The byte that TXN's `k`-th writing of the entry leaves at an offset of the journal region: neither the layout nor the
check code of an entry is published (R49). -/
opaque journalByte : Nat → Nat → Byte

/-- The 24-bit entry that a CALL or CALLR at the last index of the code region pushes: the index of the instruction that
follows does not fit it, and R90 names no other. (Log 158, DESIGN CHOICE.) -/
opaque returnPast : BitVec 24

/-- EVR.OPTIME less its bits above [47:0], as the module leaves manufacture (R405). (Log 7, DEDUCED.) -/
opaque optimeSet : Fin 281474976710656
/-- EVR.OPTIME as the module leaves manufacture. -/
def optime : Nat := optimeSet.val
/-- EVR.PWRCYC as the module leaves manufacture (R405). (Log 7, DEDUCED.) -/
opaque pwrcycSet : Fin 4294967296
/-- EVR.PWRCYC as the module leaves manufacture. -/
def pwrcyc : Nat := pwrcycSet.val

/-- The factory curve of the calendar clock at its 26 temperatures plus 32,767, in units of 0.01 ppm (R351, R353). (Log 7,
DEDUCED.) -/
opaque curveSet : Nat → Fin 65535
/-- The factory curve. -/
def curve (i : Nat) : Int := (curveSet i).val - 32767

/-- The bytes of the factory calibration in page 0 of the parameter store (R390). (Log 7, DEDUCED.) -/
opaque calibration : Nat → Byte

end Sys2Proof.Config
end

