-- ==== Sys2Proof/Machine/RegMap.lean ====
section
/-! DEFINITION. The register map: a name for every unit register of the OLX9192, as its byte offset from
0x08_0000_0000 (R25 and the register table of each unit), and for every register its access-type masks (R7) and its
reset value (R9). A register array is a function of its indices. -/

namespace Sys2Proof.Reg

/-- SYS.PART -/
def SYS_PART : Nat := 0x0
/-- SYS.REV -/
def SYS_REV : Nat := 0x4
/-- SYS.LOT_LO -/
def SYS_LOT_LO : Nat := 0x8
/-- SYS.LOT_HI -/
def SYS_LOT_HI : Nat := 0xC
/-- SYS.WAFER -/
def SYS_WAFER : Nat := 0x10
/-- SYS.DIEPOS -/
def SYS_DIEPOS : Nat := 0x14
/-- SYS.SERIAL_LO -/
def SYS_SERIAL_LO : Nat := 0x18
/-- SYS.SERIAL_HI -/
def SYS_SERIAL_HI : Nat := 0x1C
/-- SYS.RESET -/
def SYS_RESET : Nat := 0x20
/-- SYS.RSTCAUSE -/
def SYS_RSTCAUSE : Nat := 0x24
/-- SYS.CLKSTAT -/
def SYS_CLKSTAT : Nat := 0x28
/-- TXN.SEQ_LO -/
def TXN_SEQ_LO : Nat := 0x20000
/-- TXN.SEQ_HI -/
def TXN_SEQ_HI : Nat := 0x20004
/-- TXN.SLOT[m].CTL -/
def TXN_SLOT_CTL (n : Nat) : Nat := 0x20100 + n * 0x40
/-- TXN.SLOT[m].STAT -/
def TXN_SLOT_STAT (n : Nat) : Nat := 0x20104 + n * 0x40
/-- TXN.SLOT[m].BEGSEQ_LO -/
def TXN_SLOT_BEGSEQ_LO (n : Nat) : Nat := 0x20108 + n * 0x40
/-- TXN.SLOT[m].BEGSEQ_HI -/
def TXN_SLOT_BEGSEQ_HI (n : Nat) : Nat := 0x2010C + n * 0x40
/-- TXN.SLOT[m].APPSEQ_LO -/
def TXN_SLOT_APPSEQ_LO (n : Nat) : Nat := 0x20110 + n * 0x40
/-- TXN.SLOT[m].APPSEQ_HI -/
def TXN_SLOT_APPSEQ_HI (n : Nat) : Nat := 0x20114 + n * 0x40
/-- TXN.SLOT[m].CONFADDR_LO -/
def TXN_SLOT_CONFADDR_LO (n : Nat) : Nat := 0x20118 + n * 0x40
/-- TXN.SLOT[m].CONFADDR_HI -/
def TXN_SLOT_CONFADDR_HI (n : Nat) : Nat := 0x2011C + n * 0x40
/-- FRM.MODE -/
def FRM_MODE : Nat := 0x30000
/-- FRM.CFG -/
def FRM_CFG : Nat := 0x30004
/-- FRM.WIN -/
def FRM_WIN : Nat := 0x30008
/-- FRM.CCOFF -/
def FRM_CCOFF : Nat := 0x3000C
/-- FRM.APOFF -/
def FRM_APOFF : Nat := 0x30010
/-- FRM.TIMSTAT -/
def FRM_TIMSTAT : Nat := 0x30014
/-- FRM.FNUM_LO -/
def FRM_FNUM_LO : Nat := 0x30018
/-- FRM.FNUM_HI -/
def FRM_FNUM_HI : Nat := 0x3001C
/-- FRM.SLACK -/
def FRM_SLACK : Nat := 0x30020
/-- FRM.SLACKMIN -/
def FRM_SLACKMIN : Nat := 0x30024
/-- FRM.OVRLOG -/
def FRM_OVRLOG : Nat := 0x30028
/-- FRM.CTRCLR -/
def FRM_CTRCLR : Nat := 0x3002C
/-- FRM.KNOW -/
def FRM_KNOW : Nat := 0x30030
/-- FRM.FBASET_LO -/
def FRM_FBASET_LO : Nat := 0x30034
/-- FRM.FBASET_HI -/
def FRM_FBASET_HI : Nat := 0x30038
/-- FRM.FBASEN_LO -/
def FRM_FBASEN_LO : Nat := 0x3003C
/-- FRM.FBASEN_HI -/
def FRM_FBASEN_HI : Nat := 0x30040
/-- FRM.TASKCFG[n] -/
def FRM_TASKCFG (n : Nat) : Nat := 0x30100 + n * 0x10
/-- FRM.TASKSTAT[n] -/
def FRM_TASKSTAT (n : Nat) : Nat := 0x30104 + n * 0x10
/-- FRM.TASKRUN[n] -/
def FRM_TASKRUN (n : Nat) : Nat := 0x30108 + n * 0x10
/-- FRM.TASKMAX[n] -/
def FRM_TASKMAX (n : Nat) : Nat := 0x3010C + n * 0x10
/-- FRM.EVTCFG[e] -/
def FRM_EVTCFG (n : Nat) : Nat := 0x30300 + n * 0x10
/-- FRM.EVTSRC[e] -/
def FRM_EVTSRC (n : Nat) : Nat := 0x30304 + n * 0x10
/-- FRM.EVTRES[e] -/
def FRM_EVTRES (n : Nat) : Nat := 0x30308 + n * 0x10
/-- FRM.EVTSTAT[e] -/
def FRM_EVTSTAT (n : Nat) : Nat := 0x3030C + n * 0x10
/-- SPEC.TASKEN -/
def SPEC_TASKEN : Nat := 0x40000
/-- SPEC.STAT -/
def SPEC_STAT : Nat := 0x40004
/-- SPEC.BUFPEAK -/
def SPEC_BUFPEAK : Nat := 0x40008
/-- SPEC.LASTSEG -/
def SPEC_LASTSEG : Nat := 0x4000C
/-- SPEC.SAVED -/
def SPEC_SAVED : Nat := 0x40010
/-- SPEC.CTRCLR -/
def SPEC_CTRCLR : Nat := 0x40014
/-- SPEC.RETIRED_LO -/
def SPEC_RETIRED_LO : Nat := 0x40020
/-- SPEC.RETIRED_HI -/
def SPEC_RETIRED_HI : Nat := 0x40024
/-- SPEC.REPLAYED_LO -/
def SPEC_REPLAYED_LO : Nat := 0x40028
/-- SPEC.REPLAYED_HI -/
def SPEC_REPLAYED_HI : Nat := 0x4002C
/-- SPEC.CAUSE[c] -/
def SPEC_CAUSE (n : Nat) : Nat := 0x40030 + n * 0x4
/-- SPEC.DISCARDS -/
def SPEC_DISCARDS : Nat := 0x40048
/-- SPEC.TASKSEG[n] -/
def SPEC_TASKSEG (n : Nat) : Nat := 0x40100 + n * 0x4
/-- LEAF.STAT -/
def LEAF_STAT : Nat := 0x50000
/-- LEAF.CFG -/
def LEAF_CFG : Nat := 0x50004
/-- LEAF.CORECFG -/
def LEAF_CORECFG : Nat := 0x50008
/-- LEAF.CMD -/
def LEAF_CMD : Nat := 0x5000C
/-- LEAF.CODEBASE_LO -/
def LEAF_CODEBASE_LO : Nat := 0x50010
/-- LEAF.CODEBASE_HI -/
def LEAF_CODEBASE_HI : Nat := 0x50014
/-- LEAF.CKBASE_LO -/
def LEAF_CKBASE_LO : Nat := 0x50018
/-- LEAF.CKBASE_HI -/
def LEAF_CKBASE_HI : Nat := 0x5001C
/-- LEAF.CKSTAT -/
def LEAF_CKSTAT : Nat := 0x50020
/-- LEAF.LASTEV -/
def LEAF_LASTEV : Nat := 0x50024
/-- LEAF.CTRCLR -/
def LEAF_CTRCLR : Nat := 0x50028
/-- LEAF.FAILCNT[l] -/
def LEAF_FAILCNT (n : Nat) : Nat := 0x50030 + n * 0x4
/-- LEAF.TRAPLOG -/
def LEAF_TRAPLOG : Nat := 0x50040
/-- LEAF.TRAPPC -/
def LEAF_TRAPPC : Nat := 0x50044
/-- LEAF.TRAPITER -/
def LEAF_TRAPITER : Nat := 0x50048
/-- LEAF.TRAPFN -/
def LEAF_TRAPFN : Nat := 0x5004C
/-- HASP.CFG -/
def HASP_CFG : Nat := 0x60000
/-- HASP.STAT -/
def HASP_STAT : Nat := 0x60004
/-- HASP.CMD -/
def HASP_CMD : Nat := 0x60008
/-- HASP.XFERCFG -/
def HASP_XFERCFG : Nat := 0x6000C
/-- HASP.XFERSTAT -/
def HASP_XFERSTAT : Nat := 0x60010
/-- HASP.XFERLEFT_LO -/
def HASP_XFERLEFT_LO : Nat := 0x60014
/-- HASP.XFERLEFT_HI -/
def HASP_XFERLEFT_HI : Nat := 0x60018
/-- HASP.LAG -/
def HASP_LAG : Nat := 0x6001C
/-- HASP.HBMISS -/
def HASP_HBMISS : Nat := 0x60020
/-- HASP.DIGEST -/
def HASP_DIGEST : Nat := 0x60024
/-- HASP.EVCNT -/
def HASP_EVCNT : Nat := 0x60028
/-- HASP.CTRCLR -/
def HASP_CTRCLR : Nat := 0x6002C
/-- OLC.DBASE_LO -/
def OLC_DBASE_LO : Nat := 0xA0000
/-- OLC.DBASE_HI -/
def OLC_DBASE_HI : Nat := 0xA0004
/-- OLC.DLEN -/
def OLC_DLEN : Nat := 0xA0008
/-- OLC.CMD -/
def OLC_CMD : Nat := 0xA000C
/-- OLC.CHG -/
def OLC_CHG : Nat := 0xA0010
/-- OLC.STAT -/
def OLC_STAT : Nat := 0xA0014
/-- OLC.VERR -/
def OLC_VERR : Nat := 0xA0018
/-- OLC.ITIME -/
def OLC_ITIME : Nat := 0xA001C
/-- OLC.PROGID_LO -/
def OLC_PROGID_LO : Nat := 0xA0020
/-- OLC.PROGID_HI -/
def OLC_PROGID_HI : Nat := 0xA0024
/-- OLC.INSTCNT -/
def OLC_INSTCNT : Nat := 0xA0028
/-- OLC.FSTAT -/
def OLC_FSTAT : Nat := 0xA002C
/-- OLC.FCLR -/
def OLC_FCLR : Nat := 0xA0030
/-- MEM.STAT -/
def MEM_STAT : Nat := 0x70000
/-- MEM.CECNT -/
def MEM_CECNT : Nat := 0x70004
/-- MEM.UECNT -/
def MEM_UECNT : Nat := 0x70008
/-- MEM.ERRADDR_LO -/
def MEM_ERRADDR_LO : Nat := 0x7000C
/-- MEM.ERRADDR_HI -/
def MEM_ERRADDR_HI : Nat := 0x70010
/-- MEM.SCRUB -/
def MEM_SCRUB : Nat := 0x70014
/-- MEM.UNDOBASE_LO -/
def MEM_UNDOBASE_LO : Nat := 0x70018
/-- MEM.UNDOBASE_HI -/
def MEM_UNDOBASE_HI : Nat := 0x7001C
/-- MEM.UNDO -/
def MEM_UNDO : Nat := 0x70020
/-- MEM.UNDOPEAK -/
def MEM_UNDOPEAK : Nat := 0x70024
/-- MEM.INJECT -/
def MEM_INJECT : Nat := 0x70028
/-- MEM.CTRCLR -/
def MEM_CTRCLR : Nat := 0x7002C
/-- RET.CFG -/
def RET_CFG : Nat := 0x80000
/-- RET.STAT -/
def RET_STAT : Nat := 0x80004
/-- RET.DIRTY -/
def RET_DIRTY : Nat := 0x80008
/-- RET.HOLDUP -/
def RET_HOLDUP : Nat := 0x8000C
/-- RET.WRITTEN_LO -/
def RET_WRITTEN_LO : Nat := 0x80010
/-- RET.WRITTEN_HI -/
def RET_WRITTEN_HI : Nat := 0x80014
/-- RET.PTIME -/
def RET_PTIME : Nat := 0x80018
/-- RET.BUDGET -/
def RET_BUDGET : Nat := 0x8001C
/-- RET.SPARE -/
def RET_SPARE : Nat := 0x80020
/-- RET.LASTDUMP -/
def RET_LASTDUMP : Nat := 0x80024
/-- RET.STALLCNT -/
def RET_STALLCNT : Nat := 0x80028
/-- RET.CTRCLR -/
def RET_CTRCLR : Nat := 0x8002C
/-- LANEn.CFG -/
def LANE_CFG (n : Nat) : Nat := 0x100000 + n * 0x10000
/-- LANEn.STAT -/
def LANE_STAT (n : Nat) : Nat := 0x100004 + n * 0x10000
/-- LANEn.CMD -/
def LANE_CMD (n : Nat) : Nat := 0x100008 + n * 0x10000
/-- LANEn.NBT -/
def LANE_NBT (n : Nat) : Nat := 0x10000C + n * 0x10000
/-- LANEn.DBT -/
def LANE_DBT (n : Nat) : Nat := 0x100010 + n * 0x10000
/-- LANEn.XBT -/
def LANE_XBT (n : Nat) : Nat := 0x100014 + n * 0x10000
/-- LANEn.XPWM -/
def LANE_XPWM (n : Nat) : Nat := 0x100018 + n * 0x10000
/-- LANEn.TDC -/
def LANE_TDC (n : Nat) : Nat := 0x10001C + n * 0x10000
/-- LANEn.ERRCNT -/
def LANE_ERRCNT (n : Nat) : Nat := 0x100020 + n * 0x10000
/-- LANEn.QBASE_LO -/
def LANE_QBASE_LO (n : Nat) : Nat := 0x100024 + n * 0x10000
/-- LANEn.QBASE_HI -/
def LANE_QBASE_HI (n : Nat) : Nat := 0x100028 + n * 0x10000
/-- LANEn.TXQ -/
def LANE_TXQ (n : Nat) : Nat := 0x10002C + n * 0x10000
/-- LANEn.RXCNT -/
def LANE_RXCNT (n : Nat) : Nat := 0x100030 + n * 0x10000
/-- LANEn.TXCNT -/
def LANE_TXCNT (n : Nat) : Nat := 0x100034 + n * 0x10000
/-- LANEn.REJCNT -/
def LANE_REJCNT (n : Nat) : Nat := 0x100038 + n * 0x10000
/-- LANEn.DROPCNT -/
def LANE_DROPCNT (n : Nat) : Nat := 0x10003C + n * 0x10000
/-- LANEn.CTRCLR -/
def LANE_CTRCLR (n : Nat) : Nat := 0x100040 + n * 0x10000
/-- LANEn.RXQ[q].BASE_LO -/
def LANE_RXQ_BASE_LO (n m : Nat) : Nat := 0x100080 + n * 0x10000 + m * 0x20
/-- LANEn.RXQ[q].BASE_HI -/
def LANE_RXQ_BASE_HI (n m : Nat) : Nat := 0x100084 + n * 0x10000 + m * 0x20
/-- LANEn.RXQ[q].CFG -/
def LANE_RXQ_CFG (n m : Nat) : Nat := 0x100088 + n * 0x10000 + m * 0x20
/-- LANEn.RXQ[q].RDADDR_LO -/
def LANE_RXQ_RDADDR_LO (n m : Nat) : Nat := 0x10008C + n * 0x10000 + m * 0x20
/-- LANEn.RXQ[q].RDADDR_HI -/
def LANE_RXQ_RDADDR_HI (n m : Nat) : Nat := 0x100090 + n * 0x10000 + m * 0x20
/-- LANEn.RXQ[q].STAT -/
def LANE_RXQ_STAT (n m : Nat) : Nat := 0x100094 + n * 0x10000 + m * 0x20
/-- LANEn.HPM[h].ID -/
def LANE_HPM_ID (n m : Nat) : Nat := 0x100100 + n * 0x10000 + m * 0x10
/-- LANEn.HPM[h].MASK -/
def LANE_HPM_MASK (n m : Nat) : Nat := 0x100104 + n * 0x10000 + m * 0x10
/-- LANEn.HPM[h].CFG -/
def LANE_HPM_CFG (n m : Nat) : Nat := 0x100108 + n * 0x10000 + m * 0x10
/-- LANEn.HPM[h].STAT -/
def LANE_HPM_STAT (n m : Nat) : Nat := 0x10010C + n * 0x10000 + m * 0x10
/-- LANEn.ACF[f].A -/
def LANE_ACF_A (n m : Nat) : Nat := 0x100400 + n * 0x10000 + m * 0x10
/-- LANEn.ACF[f].B -/
def LANE_ACF_B (n m : Nat) : Nat := 0x100404 + n * 0x10000 + m * 0x10
/-- LANEn.ACF[f].CFG -/
def LANE_ACF_CFG (n m : Nat) : Nat := 0x100408 + n * 0x10000 + m * 0x10
/-- LANEn.ACF[f].HITS -/
def LANE_ACF_HITS (n m : Nat) : Nat := 0x10040C + n * 0x10000 + m * 0x10
/-- LANE0.NODE[j].CFG -/
def LANE_NODE_CFG (n : Nat) : Nat := 0x108000 + n * 0x10
/-- LANE0.NODE[j].IDLO -/
def LANE_NODE_IDLO (n : Nat) : Nat := 0x108004 + n * 0x10
/-- LANE0.NODE[j].IDHI -/
def LANE_NODE_IDHI (n : Nat) : Nat := 0x108008 + n * 0x10
/-- LANE0.NODE[j].STAT -/
def LANE_NODE_STAT (n : Nat) : Nat := 0x10800C + n * 0x10
/-- TIME.CFG -/
def TIME_CFG : Nat := 0x200000
/-- TIME.STAT -/
def TIME_STAT : Nat := 0x200004
/-- TIME.CMD -/
def TIME_CMD : Nat := 0x200008
/-- TIME.OFFSET -/
def TIME_OFFSET : Nat := 0x20000C
/-- TIME.NOW_LO -/
def TIME_NOW_LO : Nat := 0x200010
/-- TIME.NOW_HI -/
def TIME_NOW_HI : Nat := 0x200014
/-- TIME.RAW_LO -/
def TIME_RAW_LO : Nat := 0x200018
/-- TIME.RAW_HI -/
def TIME_RAW_HI : Nat := 0x20001C
/-- TIME.MAP[p].RAW_LO -/
def TIME_MAP_RAW_LO (n : Nat) : Nat := 0x200020 + n * 0x20
/-- TIME.MAP[p].RAW_HI -/
def TIME_MAP_RAW_HI (n : Nat) : Nat := 0x200024 + n * 0x20
/-- TIME.MAP[p].TIME_LO -/
def TIME_MAP_TIME_LO (n : Nat) : Nat := 0x200028 + n * 0x20
/-- TIME.MAP[p].TIME_HI -/
def TIME_MAP_TIME_HI (n : Nat) : Nat := 0x20002C + n * 0x20
/-- TIME.MAP[p].RATE -/
def TIME_MAP_RATE (n : Nat) : Nat := 0x200030 + n * 0x20
/-- TIME.SETTIME_LO -/
def TIME_SETTIME_LO : Nat := 0x200060
/-- TIME.SETTIME_HI -/
def TIME_SETTIME_HI : Nat := 0x200064
/-- TIME.EPOCH_LO -/
def TIME_EPOCH_LO : Nat := 0x200068
/-- TIME.EPOCH_HI -/
def TIME_EPOCH_HI : Nat := 0x20006C
/-- TIME.PPS -/
def TIME_PPS : Nat := 0x200070
/-- TIME.PPSCAP_LO -/
def TIME_PPSCAP_LO : Nat := 0x200074
/-- TIME.PPSCAP_HI -/
def TIME_PPSCAP_HI : Nat := 0x200078
/-- TIME.FSTAT -/
def TIME_FSTAT : Nat := 0x20007C
/-- TIME.EVCNT -/
def TIME_EVCNT : Nat := 0x200080
/-- TIME.CTRCLR -/
def TIME_CTRCLR : Nat := 0x200084
/-- TIME.TEV[i].AT_LO -/
def TIME_TEV_AT_LO (n : Nat) : Nat := 0x200400 + n * 0x10
/-- TIME.TEV[i].AT_HI -/
def TIME_TEV_AT_HI (n : Nat) : Nat := 0x200404 + n * 0x10
/-- TIME.TEV[i].PER -/
def TIME_TEV_PER (n : Nat) : Nat := 0x200408 + n * 0x10
/-- TIME.TEV[i].CFG -/
def TIME_TEV_CFG (n : Nat) : Nat := 0x20040C + n * 0x10
/-- TIME.LANE[n].MX -/
def TIME_LANE_MX (n : Nat) : Nat := 0x201000 + n * 0x400
/-- TIME.LANE[n].REF -/
def TIME_LANE_REF (n : Nat) : Nat := 0x201004 + n * 0x400
/-- TIME.LANE[n].REFLEAD -/
def TIME_LANE_REFLEAD (n : Nat) : Nat := 0x201008 + n * 0x400
/-- TIME.LANE[n].REFLEN -/
def TIME_LANE_REFLEN (n : Nat) : Nat := 0x20100C + n * 0x400
/-- TIME.LANE[n].ECHO -/
def TIME_LANE_ECHO (n : Nat) : Nat := 0x201010 + n * 0x400
/-- TIME.LANE[n].RXCOMP -/
def TIME_LANE_RXCOMP (n : Nat) : Nat := 0x201014 + n * 0x400
/-- TIME.LANE[n].STAT -/
def TIME_LANE_STAT (n : Nat) : Nat := 0x201018 + n * 0x400
/-- TIME.LANE[n].WINBAD_LO -/
def TIME_LANE_WINBAD_LO (n : Nat) : Nat := 0x20101C + n * 0x400
/-- TIME.LANE[n].WINBAD_HI -/
def TIME_LANE_WINBAD_HI (n : Nat) : Nat := 0x201020 + n * 0x400
/-- TIME.LANE[n].OFFWIN -/
def TIME_LANE_OFFWIN (n : Nat) : Nat := 0x201024 + n * 0x400
/-- TIME.LANE[n].WIN[w].START -/
def TIME_LANE_WIN_START (n m : Nat) : Nat := 0x201100 + n * 0x400 + m * 0x10
/-- TIME.LANE[n].WIN[w].LEN -/
def TIME_LANE_WIN_LEN (n m : Nat) : Nat := 0x201104 + n * 0x400 + m * 0x10
/-- TIME.LANE[n].WIN[w].CFG -/
def TIME_LANE_WIN_CFG (n m : Nat) : Nat := 0x201108 + n * 0x400 + m * 0x10
/-- TIME.LANE[n].WIN[w].LATE -/
def TIME_LANE_WIN_LATE (n m : Nat) : Nat := 0x20110C + n * 0x400 + m * 0x10
/-- TIME.EDLY[j] -/
def TIME_EDLY (n : Nat) : Nat := 0x208000 + n * 0x4
/-- DIO.BANK[b].STAT -/
def DIO_BANK_STAT (n : Nat) : Nat := 0x300000 + n * 0x1000
/-- DIO.BANK[b].LASTEV -/
def DIO_BANK_LASTEV (n : Nat) : Nat := 0x300004 + n * 0x1000
/-- DIO.CH[n].CFG -/
def DIO_CH_CFG (n m : Nat) : Nat := 0x300100 + n * 0x1000 + m * 0x40
/-- DIO.CH[n].FILT -/
def DIO_CH_FILT (n m : Nat) : Nat := 0x300104 + n * 0x1000 + m * 0x40
/-- DIO.CH[n].DIAG -/
def DIO_CH_DIAG (n m : Nat) : Nat := 0x300108 + n * 0x1000 + m * 0x40
/-- DIO.CH[n].CHATWIN -/
def DIO_CH_CHATWIN (n m : Nat) : Nat := 0x30010C + n * 0x1000 + m * 0x40
/-- DIO.CH[n].OFS -/
def DIO_CH_OFS (n m : Nat) : Nat := 0x300110 + n * 0x1000 + m * 0x40
/-- DIO.CH[n].STAT -/
def DIO_CH_STAT (n m : Nat) : Nat := 0x300114 + n * 0x1000 + m * 0x40
/-- DIO.CH[n].EDGECNT -/
def DIO_CH_EDGECNT (n m : Nat) : Nat := 0x300118 + n * 0x1000 + m * 0x40
/-- DIO.CH[n].RAWT_LO -/
def DIO_CH_RAWT_LO (n m : Nat) : Nat := 0x30011C + n * 0x1000 + m * 0x40
/-- DIO.CH[n].RAWT_HI -/
def DIO_CH_RAWT_HI (n m : Nat) : Nat := 0x300120 + n * 0x1000 + m * 0x40
/-- DIO.CH[n].FILTT_LO -/
def DIO_CH_FILTT_LO (n m : Nat) : Nat := 0x300124 + n * 0x1000 + m * 0x40
/-- DIO.CH[n].FILTT_HI -/
def DIO_CH_FILTT_HI (n m : Nat) : Nat := 0x300128 + n * 0x1000 + m * 0x40
/-- DIO.CH[n].MEAS -/
def DIO_CH_MEAS (n m : Nat) : Nat := 0x30012C + n * 0x1000 + m * 0x40
/-- AO.CH[n].CFG -/
def AO_CH_CFG (n : Nat) : Nat := 0x310000 + n * 0x400
/-- AO.CH[n].CHAR -/
def AO_CH_CHAR (n : Nat) : Nat := 0x310004 + n * 0x400
/-- AO.CH[n].ALARM -/
def AO_CH_ALARM (n : Nat) : Nat := 0x310008 + n * 0x400
/-- AO.CH[n].FAILVAL -/
def AO_CH_FAILVAL (n : Nat) : Nat := 0x31000C + n * 0x400
/-- AO.CH[n].OFS -/
def AO_CH_OFS (n : Nat) : Nat := 0x310010 + n * 0x400
/-- AO.CH[n].DIAG -/
def AO_CH_DIAG (n : Nat) : Nat := 0x310014 + n * 0x400
/-- AO.CH[n].STAT -/
def AO_CH_STAT (n : Nat) : Nat := 0x310018 + n * 0x400
/-- AO.CH[n].CUR -/
def AO_CH_CUR (n : Nat) : Nat := 0x31001C + n * 0x400
/-- AO.CH[n].RB -/
def AO_CH_RB (n : Nat) : Nat := 0x310020 + n * 0x400
/-- AO.CH[n].MEAS -/
def AO_CH_MEAS (n : Nat) : Nat := 0x310024 + n * 0x400
/-- AO.CH[n].VSUP -/
def AO_CH_VSUP (n : Nat) : Nat := 0x310028 + n * 0x400
/-- AO.CH[n].TBL[k] -/
def AO_CH_TBL (n m : Nat) : Nat := 0x310100 + n * 0x400 + m * 0x4
/-- AO.GRP[g].STAT -/
def AO_GRP_STAT (n : Nat) : Nat := 0x31C000 + n * 0x10
/-- AO.GRP[g].LASTEV -/
def AO_GRP_LASTEV (n : Nat) : Nat := 0x31C004 + n * 0x10
/-- RTC.CTL -/
def RTC_CTL : Nat := 0x210000
/-- RTC.STAT -/
def RTC_STAT : Nat := 0x210004
/-- RTC.SNAP -/
def RTC_SNAP : Nat := 0x210008
/-- RTC.CLK0 -/
def RTC_CLK0 : Nat := 0x21000C
/-- RTC.CLK1 -/
def RTC_CLK1 : Nat := 0x210010
/-- RTC.ALM_LO -/
def RTC_ALM_LO : Nat := 0x210014
/-- RTC.ALM_HI -/
def RTC_ALM_HI : Nat := 0x210018
/-- RTC.TRIM -/
def RTC_TRIM : Nat := 0x21001C
/-- RTC.TEMP -/
def RTC_TEMP : Nat := 0x210020
/-- WARD.STAT -/
def WARD_STAT : Nat := 0x400000
/-- WARD.CFG -/
def WARD_CFG : Nat := 0x400004
/-- WARD.ENROL -/
def WARD_ENROL : Nat := 0x400008
/-- WARD.PERIOD -/
def WARD_PERIOD : Nat := 0x40000C
/-- WARD.WOPEN -/
def WARD_WOPEN : Nat := 0x400010
/-- WARD.PREWARN -/
def WARD_PREWARN : Nat := 0x400014
/-- WARD.CHECKIN -/
def WARD_CHECKIN : Nat := 0x400018
/-- WARD.PCNT -/
def WARD_PCNT : Nat := 0x40001C
/-- WARD.DONE -/
def WARD_DONE : Nat := 0x400020
/-- WARD.MISSED -/
def WARD_MISSED : Nat := 0x400024
/-- WARD.KEY -/
def WARD_KEY : Nat := 0x400028
/-- WARD.CMD -/
def WARD_CMD : Nat := 0x40002C
/-- WARD.LOCK -/
def WARD_LOCK : Nat := 0x400030
/-- WARD.DIAGCNT -/
def WARD_DIAGCNT : Nat := 0x400034
/-- WARD.CTRCLR -/
def WARD_CTRCLR : Nat := 0x400038
/-- FLT.STAT -/
def FLT_STAT : Nat := 0x10000
/-- FLT.CFG -/
def FLT_CFG : Nat := 0x10004
/-- FLT.CMD -/
def FLT_CMD : Nat := 0x10008
/-- FLT.HEAD_CODE -/
def FLT_HEAD_CODE : Nat := 0x10010
/-- FLT.HEAD_FNUM -/
def FLT_HEAD_FNUM : Nat := 0x10014
/-- FLT.HEAD_TIME_LO -/
def FLT_HEAD_TIME_LO : Nat := 0x10018
/-- FLT.HEAD_TIME_HI -/
def FLT_HEAD_TIME_HI : Nat := 0x1001C
/-- FLT.CUR2 -/
def FLT_CUR2 : Nat := 0x10020
/-- FLT.CUR3 -/
def FLT_CUR3 : Nat := 0x10024
/-- FLT.CNT[c] -/
def FLT_CNT (n : Nat) : Nat := 0x10030 + n * 0x4
/-- FLT.LOST -/
def FLT_LOST : Nat := 0x10040
/-- PST.STAT -/
def PST_STAT : Nat := 0x410000
/-- PST.PROT -/
def PST_PROT : Nat := 0x410004
/-- PST.P1LOCK -/
def PST_P1LOCK : Nat := 0x410008
/-- PST.CECNT -/
def PST_CECNT : Nat := 0x41000C
/-- PST.ERRADDR -/
def PST_ERRADDR : Nat := 0x410010
/-- PST.RECCMD -/
def PST_RECCMD : Nat := 0x410014
/-- PST.RECLEN -/
def PST_RECLEN : Nat := 0x410018
/-- PST.RECSTAT -/
def PST_RECSTAT : Nat := 0x41001C
/-- PST.RECSEQ -/
def PST_RECSEQ : Nat := 0x410020
/-- PST.CTRCLR -/
def PST_CTRCLR : Nat := 0x410024
/-- PST.REC[r].SLOTA -/
def PST_REC_SLOTA (n : Nat) : Nat := 0x410100 + n * 0x8
/-- PST.REC[r].SLOTB -/
def PST_REC_SLOTB (n : Nat) : Nat := 0x410104 + n * 0x8
/-- EVR.STAT -/
def EVR_STAT : Nat := 0x420000
/-- EVR.CMD -/
def EVR_CMD : Nat := 0x420004
/-- EVR.TRIG -/
def EVR_TRIG : Nat := 0x420008
/-- EVR.DROPCNT -/
def EVR_DROPCNT : Nat := 0x42000C
/-- EVR.BASE_LO -/
def EVR_BASE_LO : Nat := 0x420010
/-- EVR.BASE_HI -/
def EVR_BASE_HI : Nat := 0x420014
/-- EVR.NEXT_LO -/
def EVR_NEXT_LO : Nat := 0x420018
/-- EVR.NEXT_HI -/
def EVR_NEXT_HI : Nat := 0x42001C
/-- EVR.OLDEST_LO -/
def EVR_OLDEST_LO : Nat := 0x420020
/-- EVR.OLDEST_HI -/
def EVR_OLDEST_HI : Nat := 0x420024
/-- EVR.CURSOR_LO -/
def EVR_CURSOR_LO : Nat := 0x420028
/-- EVR.CURSOR_HI -/
def EVR_CURSOR_HI : Nat := 0x42002C
/-- EVR.OPTIME_LO -/
def EVR_OPTIME_LO : Nat := 0x420030
/-- EVR.OPTIME_HI -/
def EVR_OPTIME_HI : Nat := 0x420034
/-- EVR.PWRCYC -/
def EVR_PWRCYC : Nat := 0x420038
/-- EVR.SRC[s].CFG -/
def EVR_SRC_CFG (n : Nat) : Nat := 0x420100 + n * 0x8
/-- EVR.SRC[s].MATCH -/
def EVR_SRC_MATCH (n : Nat) : Nat := 0x420104 + n * 0x8
/-- EVR.SEL[s][k].ADDR_LO -/
def EVR_SEL_ADDR_LO (n m : Nat) : Nat := 0x422000 + n * 0x80 + m * 0x8
/-- EVR.SEL[s][k].ADDR_HI -/
def EVR_SEL_ADDR_HI (n m : Nat) : Nat := 0x422004 + n * 0x80 + m * 0x8
/-- PNL.CFG -/
def PNL_CFG : Nat := 0x430000
/-- PNL.STAT -/
def PNL_STAT : Nat := 0x430004
/-- PNL.CMD -/
def PNL_CMD : Nat := 0x430008
/-- PNL.UPD -/
def PNL_UPD : Nat := 0x43000C
/-- PNL.EXPCRC -/
def PNL_EXPCRC : Nat := 0x430010
/-- PNL.CRC -/
def PNL_CRC : Nat := 0x430014
/-- PNL.TEMP -/
def PNL_TEMP : Nat := 0x430018
/-- PNL.JBASE_LO -/
def PNL_JBASE_LO : Nat := 0x43001C
/-- PNL.JBASE_HI -/
def PNL_JBASE_HI : Nat := 0x430020
/-- PNL.UPDCNT -/
def PNL_UPDCNT : Nat := 0x430024
/-- PNL.LASTUPD -/
def PNL_LASTUPD : Nat := 0x430028
/-- PNL.BANDCFG[b] -/
def PNL_BANDCFG (n : Nat) : Nat := 0x430040 + n * 0x4
/-- PNL.BANDT[k] -/
def PNL_BANDT (n : Nat) : Nat := 0x430060 + n * 0x4
/-- PNL.GAMMA[l][i] -/
def PNL_GAMMA (n m : Nat) : Nat := 0x431000 + n * 0x80 + m * 0x4
/-- PNL.WAVE[l][b][t] -/
def PNL_WAVE (n m k : Nat) : Nat := 0x438000 + n * 0x1000 + m * 0x200 + k * 0x4
/-- BOOT.STAT -/
def BOOT_STAT : Nat := 0x510000
/-- BOOT.CFG -/
def BOOT_CFG : Nat := 0x510004
/-- BOOT.SEQA -/
def BOOT_SEQA : Nat := 0x510008
/-- BOOT.SEQB -/
def BOOT_SEQB : Nat := 0x51000C
/-- BOOT.LASTSEQ -/
def BOOT_LASTSEQ : Nat := 0x510010
/-- BOOT.ERR -/
def BOOT_ERR : Nat := 0x510014
/-- BOOT.INFO -/
def BOOT_INFO : Nat := 0x510018
/-- BOOT.PGADDR -/
def BOOT_PGADDR : Nat := 0x510020
/-- BOOT.PGCMD -/
def BOOT_PGCMD : Nat := 0x510024
/-- BOOT.PGSTAT -/
def BOOT_PGSTAT : Nat := 0x510028
/-- BOOT.PGBUF[i] -/
def BOOT_PGBUF (n : Nat) : Nat := 0x510100 + n * 0x4
/-- HOST.STAT -/
def HOST_STAT : Nat := 0x500000
/-- HOST.CFG -/
def HOST_CFG : Nat := 0x500004
/-- HOST.WINB_LO -/
def HOST_WINB_LO : Nat := 0x500008
/-- HOST.WINB_HI -/
def HOST_WINB_HI : Nat := 0x50000C
/-- HOST.DOORBELL -/
def HOST_DOORBELL : Nat := 0x500010
/-- HOST.SIGNAL -/
def HOST_SIGNAL : Nat := 0x500014
/-- HOST.CAUSE_LO -/
def HOST_CAUSE_LO : Nat := 0x500018
/-- HOST.CAUSE_HI -/
def HOST_CAUSE_HI : Nat := 0x50001C
/-- HOST.RSTREQ -/
def HOST_RSTREQ : Nat := 0x500020
/-- HOST.PCIID -/
def HOST_PCIID : Nat := 0x500024
/-- HOST.ERRCNT -/
def HOST_ERRCNT : Nat := 0x500028
/-- HOST.MSIX[v] -/
def HOST_MSIX (n : Nat) : Nat := 0x501000 + n * 0x10
/-- HOST.PBA_LO -/
def HOST_PBA_LO : Nat := 0x502000
/-- HOST.PBA_HI -/
def HOST_PBA_HI : Nat := 0x502004
/-- DBG.CTL -/
def DBG_CTL : Nat := 0x520000
/-- DBG.STAT -/
def DBG_STAT : Nat := 0x520004
/-- DBG.BPCFG -/
def DBG_BPCFG : Nat := 0x520008
/-- DBG.BP[i] -/
def DBG_BP (n : Nat) : Nat := 0x520010 + n * 0x4
/-- SYS.TEMP -/
def SYS_TEMP : Nat := 0x30
/-- SYS.VIN -/
def SYS_VIN : Nat := 0x34

end Sys2Proof.Reg

namespace Sys2Proof

/-- One row of a unit's register table: the offset of its first element, the extents of its array (count and stride,
the widest stride first), one mask of bits for each access type of R7, the reset value and, for the arrays whose
reset value depends on the last index, what each step of that index adds. -/
structure RegRow where
  base : Nat
  dims : List (Nat × Nat) := []
  rw : Nat := 0
  ro : Nat := 0
  wo : Nat := 0
  w1c : Nat := 0
  w1s : Nat := 0
  rwt : Nat := 0
  rwo : Nat := 0
  reset : Nat := 0
  rstep : Nat := 0
  deriving DecidableEq, Repr

/-- The registers of SYS. -/
def rowsSYS : List RegRow := [
  { base := 0x0, ro := 0xFFFFFFFF, reset := 0xA179192 },
  { base := 0x4, ro := 0xFF, reset := 0x43 },
  { base := 0x8, ro := 0xFFFFFFFF },
  { base := 0xC, ro := 0xFFFFFFFF },
  { base := 0x10, ro := 0x1F },
  { base := 0x14, ro := 0xFFFFFFFF },
  { base := 0x18, ro := 0xFFFFFFFF },
  { base := 0x1C, ro := 0xFFFFFFFF },
  { base := 0x20, wo := 0xFFFF0003 },
  { base := 0x24, ro := 0x700, w1c := 0xFF, reset := 0x701 },
  { base := 0x28, ro := 0x3, w1c := 0x70 },
  { base := 0x30, ro := 0xFFFFFFFF, reset := 0x80000000 },
  { base := 0x34, ro := 0xFFFF }]

/-- The registers of TXN. -/
def rowsTXN : List RegRow := [
  { base := 0x20000, ro := 0xFFFFFFFF },
  { base := 0x20004, ro := 0xFFFFFFFF },
  { base := 0x20100, dims := [(4, 0x40)], wo := 0x3 },
  { base := 0x20104, dims := [(4, 0x40)], ro := 0x1FFF01F3 },
  { base := 0x20108, dims := [(4, 0x40)], ro := 0xFFFFFFFF },
  { base := 0x2010C, dims := [(4, 0x40)], ro := 0xFFFFFFFF },
  { base := 0x20110, dims := [(4, 0x40)], ro := 0xFFFFFFFF },
  { base := 0x20114, dims := [(4, 0x40)], ro := 0xFFFFFFFF },
  { base := 0x20118, dims := [(4, 0x40)], ro := 0xFFFFFFFF },
  { base := 0x2011C, dims := [(4, 0x40)], ro := 0xFF }]

/-- The registers of FRM, part 0. -/
def rowsFRM0 : List RegRow := [
  { base := 0x30000, rw := 0x30, ro := 0x303 },
  { base := 0x30004, rwt := 0x1FF, reset := 0x10 },
  { base := 0x30008, rwt := 0xFFFFF, reset := 0x2710 },
  { base := 0x3000C, rwt := 0xFFFFF, reset := 0x15F90 },
  { base := 0x30010, rwt := 0xFFFFF },
  { base := 0x30014, ro := 0xF },
  { base := 0x30018, ro := 0xFFFFFFFF },
  { base := 0x3001C, ro := 0xFFFFFFFF },
  { base := 0x30020, ro := 0xFFFFF },
  { base := 0x30024, ro := 0xFFFFF, reset := 0xFFFFF },
  { base := 0x30028, ro := 0xFFFF031F },
  { base := 0x3002C, wo := 0x1 },
  { base := 0x30030, ro := 0xFF, reset := 0x10 },
  { base := 0x30034, ro := 0xFFFFFFFF },
  { base := 0x30038, ro := 0xFFFFFFFF },
  { base := 0x3003C, ro := 0xFFFFFFFF },
  { base := 0x30040, ro := 0xFFFFFFFF },
  { base := 0x30100, dims := [(32, 0x10)], rwt := 0xDF1FFFFF, reset := 0x1F000400 },
  { base := 0x30104, dims := [(32, 0x10)], ro := 0xFFFFFF07 },
  { base := 0x30108, dims := [(32, 0x10)], ro := 0xFFFFFFFF },
  { base := 0x3010C, dims := [(32, 0x10)], ro := 0xFFFFFFFF },
  { base := 0x30300, dims := [(16, 0x10)], rwt := 0xDF1FFC00, reset := 0x1F000400 },
  { base := 0x30304, dims := [(16, 0x10)], rwt := 0xFFFF },
  { base := 0x30308, dims := [(16, 0x10)], rwt := 0xFFFFF }]

/-- The registers of FRM, part 1. -/
def rowsFRM1 : List RegRow := [
  { base := 0x3030C, dims := [(16, 0x10)], ro := 0xFFFFFF07 }]

/-- The registers of SPEC. -/
def rowsSPEC : List RegRow := [
  { base := 0x40000, rwt := 0xFFFFFFFF },
  { base := 0x40004, ro := 0x1F7 },
  { base := 0x40008, ro := 0x1FFFF },
  { base := 0x4000C, ro := 0xFFFFFFFF },
  { base := 0x40010, ro := 0xFFFFF },
  { base := 0x40014, wo := 0x1 },
  { base := 0x40020, ro := 0xFFFFFFFF },
  { base := 0x40024, ro := 0xFFFFFFFF },
  { base := 0x40028, ro := 0xFFFFFFFF },
  { base := 0x4002C, ro := 0xFFFFFFFF },
  { base := 0x40030, dims := [(6, 0x4)], ro := 0xFFFFFFFF },
  { base := 0x40048, ro := 0xFFFFFFFF },
  { base := 0x40100, dims := [(32, 0x4)], ro := 0xFFFFFFFF }]

/-- The registers of LEAF. -/
def rowsLEAF : List RegRow := [
  { base := 0x50000, ro := 0x1130777, reset := 0x30000 },
  { base := 0x50004, rwt := 0x1 },
  { base := 0x50008, rwt := 0x1 },
  { base := 0x5000C, wo := 0xFFFF0033 },
  { base := 0x50010, rwt := 0xFC000000 },
  { base := 0x50014, rwt := 0x1 },
  { base := 0x50018, rwt := 0xFFFF0000, reset := 0xFFFF0000 },
  { base := 0x5001C, rwt := 0x1, reset := 0x1 },
  { base := 0x50020, ro := 0xC000FFFF },
  { base := 0x50024, ro := 0xFFFF0703 },
  { base := 0x50028, wo := 0x1 },
  { base := 0x50030, dims := [(3, 0x4)], ro := 0xFFFFFFFF },
  { base := 0x50040, ro := 0xFFFFFF5F },
  { base := 0x50044, ro := 0xFFFFFF },
  { base := 0x50048, ro := 0xFFFFFFFF },
  { base := 0x5004C, ro := 0xFFFFFFFF }]

/-- The registers of HASP. -/
def rowsHASP : List RegRow := [
  { base := 0x60000, rwt := 0x113, reset := 0x100 },
  { base := 0x60004, ro := 0xF030F07 },
  { base := 0x60008, wo := 0xFFFF0007 },
  { base := 0x6000C, rwt := 0xFFFFFF, reset := 0x100040 },
  { base := 0x60010, ro := 0xFF000007 },
  { base := 0x60014, ro := 0xFFFFFFFF },
  { base := 0x60018, ro := 0xFFFFFFFF },
  { base := 0x6001C, ro := 0xFFFFFFFF },
  { base := 0x60020, ro := 0xFFFFFFFF },
  { base := 0x60024, ro := 0xFFFFFFFF },
  { base := 0x60028, ro := 0xFFFFFFFF },
  { base := 0x6002C, wo := 0x1 }]

/-- The registers of OLC. -/
def rowsOLC : List RegRow := [
  { base := 0xA0000, rw := 0xFFFFFFF8 },
  { base := 0xA0004, rw := 0xFF },
  { base := 0xA0008, rw := 0xFFFFFFFF },
  { base := 0xA000C, wo := 0xFFFF0003 },
  { base := 0xA0010, rwt := 0x1 },
  { base := 0xA0014, ro := 0xFF030077 },
  { base := 0xA0018, ro := 0xFFFFFFFF },
  { base := 0xA001C, ro := 0xFFFFFF },
  { base := 0xA0020, ro := 0xFFFFFFFF },
  { base := 0xA0024, ro := 0xFFFFFFFF },
  { base := 0xA0028, ro := 0xFFFFFFFF },
  { base := 0xA002C, ro := 0x1FFF1FFF },
  { base := 0xA0030, wo := 0xFFFF0001 }]

/-- The registers of MEM. -/
def rowsMEM : List RegRow := [
  { base := 0x70000, ro := 0x1 },
  { base := 0x70004, ro := 0xFFFFFFFF },
  { base := 0x70008, ro := 0xFFFFFFFF },
  { base := 0x7000C, ro := 0xFFFFFFF8 },
  { base := 0x70010, ro := 0x800000FF },
  { base := 0x70014, ro := 0xFFFFFFFF },
  { base := 0x70018, rwt := 0xFC000000, reset := 0xF8000000 },
  { base := 0x7001C, rwt := 0x1, reset := 0x1 },
  { base := 0x70020, ro := 0x7FFFFF },
  { base := 0x70024, ro := 0x7FFFFF },
  { base := 0x70028, wo := 0xFFFF01BF },
  { base := 0x7002C, wo := 0x1 }]

/-- The registers of RET. -/
def rowsRET : List RegRow := [
  { base := 0x80000, rwt := 0x7FFFFFF, reset := 0x1000064 },
  { base := 0x80004, ro := 0xF0000007 },
  { base := 0x80008, ro := 0xFFFFFFFF, reset := 0x400000 },
  { base := 0x8000C, ro := 0xFFFFFFFF },
  { base := 0x80010, ro := 0xFFFFFFFF },
  { base := 0x80014, ro := 0xFFFFFFFF },
  { base := 0x80018, ro := 0xFFFFFFFF },
  { base := 0x8001C, ro := 0x8000FFFF },
  { base := 0x80020, ro := 0xFF },
  { base := 0x80024, ro := 0xFFFFFFFF },
  { base := 0x80028, ro := 0xFFFFFFFF },
  { base := 0x8002C, wo := 0x1 }]

/-- The registers of LANE, part 0. -/
def rowsLANE0 : List RegRow := [
  { base := 0x100000, dims := [(12, 0x10000)], rwt := 0xFFFC0000, reset := 0x21F00000 },
  { base := 0x100004, dims := [(12, 0x10000)], ro := 0x10307 },
  { base := 0x100008, dims := [(12, 0x10000)], wo := 0xFFFF0003 },
  { base := 0x10000C, dims := [(12, 0x10000)], rwt := 0xFFFF7F7F, reset := 0x17F2020 },
  { base := 0x100010, dims := [(12, 0x10000)], rwt := 0xFF1F0F0F, reset := 0x11D0A0A },
  { base := 0x100014, dims := [(12, 0x10000)], rwt := 0xFF1F0F0F, reset := 0x1050202 },
  { base := 0x100018, dims := [(12, 0x10000)], rwt := 0x3F3F3F00, reset := 0x60200 },
  { base := 0x10001C, dims := [(12, 0x10000)], ro := 0x7F0000, rwt := 0x8000007F, reset := 0x80000000 },
  { base := 0x100020, dims := [(12, 0x10000)], ro := 0xC1FF00FF },
  { base := 0x100024, dims := [(12, 0x10000)], rwt := 0xFFFC0000 },
  { base := 0x100028, dims := [(12, 0x10000)], rwt := 0x1 },
  { base := 0x10002C, dims := [(12, 0x10000)], ro := 0x3FF007F },
  { base := 0x100030, dims := [(12, 0x10000)], ro := 0xFFFFFFFF },
  { base := 0x100034, dims := [(12, 0x10000)], ro := 0xFFFFFFFF },
  { base := 0x100038, dims := [(12, 0x10000)], ro := 0xFFFFFFFF },
  { base := 0x10003C, dims := [(12, 0x10000)], ro := 0xFFFFFFFF },
  { base := 0x100040, dims := [(12, 0x10000)], wo := 0x1 },
  { base := 0x100080, dims := [(12, 0x10000), (2, 0x20)], rwt := 0xFFFFFFC0 },
  { base := 0x100084, dims := [(12, 0x10000), (2, 0x20)], rwt := 0x1 },
  { base := 0x100088, dims := [(12, 0x10000), (2, 0x20)], rwt := 0xCF03FFFF, reset := 0x4000000 },
  { base := 0x10008C, dims := [(12, 0x10000), (2, 0x20)], rwt := 0xFFFFFFFC },
  { base := 0x100090, dims := [(12, 0x10000), (2, 0x20)], rwt := 0x1 },
  { base := 0x100094, dims := [(12, 0x10000), (2, 0x20)], ro := 0x1FFF1FFF },
  { base := 0x100100, dims := [(12, 0x10000), (8, 0x10)], rwt := 0x3FFFFFFF }]

/-- The registers of LANE, part 1. -/
def rowsLANE1 : List RegRow := [
  { base := 0x100104, dims := [(12, 0x10000), (8, 0x10)], rwt := 0x1FFFFFFF },
  { base := 0x100108, dims := [(12, 0x10000), (8, 0x10)], rwt := 0xC0000000 },
  { base := 0x10010C, dims := [(12, 0x10000), (8, 0x10)], ro := 0xFFFFFFFF },
  { base := 0x100400, dims := [(12, 0x10000), (128, 0x10)], rwt := 0x3FFFFFFF },
  { base := 0x100404, dims := [(12, 0x10000), (128, 0x10)], rwt := 0x1FFFFFFF },
  { base := 0x100408, dims := [(12, 0x10000), (128, 0x10)], rwt := 0xC3000000, reset := 0x2000000 },
  { base := 0x10040C, dims := [(12, 0x10000), (128, 0x10)], ro := 0xFFFFFFFF }]

/-- The registers of LANENODE. -/
def rowsLANENODE : List RegRow := [
  { base := 0x108000, dims := [(1024, 0x10)], rwt := 0xCF3F3F00, reset := 0x3F3F00 },
  { base := 0x108004, dims := [(1024, 0x10)], rwt := 0x3FFFFFFF },
  { base := 0x108008, dims := [(1024, 0x10)], rwt := 0x1FFFFFFF },
  { base := 0x10800C, dims := [(1024, 0x10)], ro := 0xFFFFFFFF }]

/-- The registers of TIME, part 0. -/
def rowsTIME0 : List RegRow := [
  { base := 0x200000, rwt := 0xFF00F7, reset := 0xA0000 },
  { base := 0x200004, ro := 0xF0107 },
  { base := 0x200008, wo := 0xFFFF0003 },
  { base := 0x20000C, ro := 0xFFFFFFFF },
  { base := 0x200010, ro := 0xFFFFFFFF },
  { base := 0x200014, ro := 0xFFFFFFFF },
  { base := 0x200018, ro := 0xFFFFFFFF },
  { base := 0x20001C, ro := 0xFFFFFFFF },
  { base := 0x200020, dims := [(2, 0x20)], ro := 0xFFFFFFFF },
  { base := 0x200024, dims := [(2, 0x20)], ro := 0xFFFFFFFF },
  { base := 0x200028, dims := [(2, 0x20)], ro := 0xFFFFFFFF },
  { base := 0x20002C, dims := [(2, 0x20)], ro := 0xFFFFFFFF },
  { base := 0x200030, dims := [(2, 0x20)], ro := 0xFFFFFFFF },
  { base := 0x200060, rw := 0xFFFFFFFF },
  { base := 0x200064, rw := 0xFFFFFFFF },
  { base := 0x200068, rwt := 0xFFFFFFFF },
  { base := 0x20006C, rwt := 0xFFFF },
  { base := 0x200070, rwt := 0xC00000FF, reset := 0x64 },
  { base := 0x200074, ro := 0xFFFFFFFF },
  { base := 0x200078, ro := 0xFFFFFFFF },
  { base := 0x20007C, ro := 0x3FFFF },
  { base := 0x200080, ro := 0xFFFFFFFF },
  { base := 0x200084, wo := 0x1 },
  { base := 0x200400, dims := [(16, 0x10)], rw := 0xFFFFFFFF }]

/-- The registers of TIME, part 1. -/
def rowsTIME1 : List RegRow := [
  { base := 0x200404, dims := [(16, 0x10)], rw := 0xFFFFFFFF },
  { base := 0x200408, dims := [(16, 0x10)], rw := 0xFFFFFFFF },
  { base := 0x20040C, dims := [(16, 0x10)], rw := 0x80000000, ro := 0xFFFF },
  { base := 0x201000, dims := [(12, 0x400)], rwt := 0x80000007 },
  { base := 0x201004, dims := [(12, 0x400)], rwt := 0xB00007FF },
  { base := 0x201008, dims := [(12, 0x400)], rwt := 0xFFFFF },
  { base := 0x20100C, dims := [(12, 0x400)], rwt := 0xFFFFF, reset := 0x1388 },
  { base := 0x201010, dims := [(12, 0x400)], rwt := 0x87FFFFFF },
  { base := 0x201014, dims := [(12, 0x400)], rwt := 0x3FF },
  { base := 0x201018, dims := [(12, 0x400)], ro := 0x3F07 },
  { base := 0x20101C, dims := [(12, 0x400)], ro := 0xFFFFFFFF },
  { base := 0x201020, dims := [(12, 0x400)], ro := 0xFFFF },
  { base := 0x201024, dims := [(12, 0x400)], ro := 0xFFFFFFFF },
  { base := 0x201100, dims := [(12, 0x400), (48, 0x10)], rwt := 0xFFFFF },
  { base := 0x201104, dims := [(12, 0x400), (48, 0x10)], rwt := 0xFFFFF },
  { base := 0x201108, dims := [(12, 0x400), (48, 0x10)], rwt := 0x83303F07 },
  { base := 0x20110C, dims := [(12, 0x400), (48, 0x10)], ro := 0xFFFFFFFF },
  { base := 0x208000, dims := [(1024, 0x4)], ro := 0xFFFFFFFF }]

/-- The registers of DIO. -/
def rowsDIO : List RegRow := [
  { base := 0x300000, dims := [(12, 0x1000)], ro := 0xFFFFCFFF },
  { base := 0x300004, dims := [(12, 0x1000)], ro := 0xFFFFFF0F },
  { base := 0x300100, dims := [(12, 0x1000), (16, 0x40)], rwt := 0x1F0F3F77, reset := 0xA060000 },
  { base := 0x300104, dims := [(12, 0x1000), (16, 0x40)], rwt := 0x7FFFF, reset := 0x1 },
  { base := 0x300108, dims := [(12, 0x1000), (16, 0x40)], rwt := 0xFFFFFFFF },
  { base := 0x30010C, dims := [(12, 0x1000), (16, 0x40)], rwt := 0xFFFF, reset := 0x64 },
  { base := 0x300110, dims := [(12, 0x1000), (16, 0x40)], rwt := 0x3FFFFF },
  { base := 0x300114, dims := [(12, 0x1000), (16, 0x40)], ro := 0xFFFF3D8F, w1c := 0x4200 },
  { base := 0x300118, dims := [(12, 0x1000), (16, 0x40)], ro := 0xFFFFFFFF },
  { base := 0x30011C, dims := [(12, 0x1000), (16, 0x40)], ro := 0xFFFFFFFF },
  { base := 0x300120, dims := [(12, 0x1000), (16, 0x40)], ro := 0xFFFFFFFF },
  { base := 0x300124, dims := [(12, 0x1000), (16, 0x40)], ro := 0xFFFFFFFF },
  { base := 0x300128, dims := [(12, 0x1000), (16, 0x40)], ro := 0xFFFFFFFF },
  { base := 0x30012C, dims := [(12, 0x1000), (16, 0x40)], ro := 0xFFFFFF00 }]

/-- The registers of AO. -/
def rowsAO : List RegRow := [
  { base := 0x310000, dims := [(48, 0x400)], rwt := 0x1F77 },
  { base := 0x310004, dims := [(48, 0x400)], rwt := 0x3FFFFFF, reset := 0x28F5C },
  { base := 0x310008, dims := [(48, 0x400)], rwt := 0xFFF01FF, reset := 0x8340168 },
  { base := 0x31000C, dims := [(48, 0x400)], rwt := 0xFFFFFFFF },
  { base := 0x310010, dims := [(48, 0x400)], rwt := 0x3FFFFF },
  { base := 0x310014, dims := [(48, 0x400)], rwt := 0xFFFF, reset := 0x50 },
  { base := 0x310018, dims := [(48, 0x400)], ro := 0x2FF, w1c := 0x100 },
  { base := 0x31001C, dims := [(48, 0x400)], ro := 0xFFFFF },
  { base := 0x310020, dims := [(48, 0x400)], ro := 0x1FFFFFF },
  { base := 0x310024, dims := [(48, 0x400)], ro := 0xFFFFFF00 },
  { base := 0x310028, dims := [(48, 0x400)], ro := 0xFFFFFFFF },
  { base := 0x310100, dims := [(48, 0x400), (33, 0x4)], rwt := 0xFFFFFFFF, rstep := 0x80000 },
  { base := 0x31C000, dims := [(6, 0x10)], ro := 0xFFFF0001 },
  { base := 0x31C004, dims := [(6, 0x10)], ro := 0xFFFFFF07 }]

/-- The registers of RTC. -/
def rowsRTC : List RegRow := [
  { base := 0x210000, rw := 0x3, reset := 0x1 },
  { base := 0x210004, ro := 0x72, w1c := 0xD, reset := 0x1 },
  { base := 0x210008, ro := 0x7FFF },
  { base := 0x21000C, rw := 0xFFFFFFFF, ro := 0x7000000 },
  { base := 0x210010, rw := 0xFFFFFFFF },
  { base := 0x210014, rw := 0xFFFFFFFF },
  { base := 0x210018, rw := 0x8000FFFF },
  { base := 0x21001C, rw := 0xFFFF },
  { base := 0x210020, ro := 0xFFFFFFFF }]

/-- The registers of WARD. -/
def rowsWARD : List RegRow := [
  { base := 0x400000, ro := 0xFFFFFF77, reset := 0x2 },
  { base := 0x400004, rw := 0x1D },
  { base := 0x400008, rw := 0xFFFFFFFF, reset := 0x1 },
  { base := 0x40000C, rw := 0xFFFFFF, reset := 0xF4240 },
  { base := 0x400010, rw := 0xFFFFFF },
  { base := 0x400014, rw := 0xFFFFFF },
  { base := 0x400018, wo := 0x1FFF },
  { base := 0x40001C, ro := 0xFFFFFFFF },
  { base := 0x400020, ro := 0xFFFFFFFF },
  { base := 0x400024, ro := 0xFFFFFFFF },
  { base := 0x400028, wo := 0xFF },
  { base := 0x40002C, wo := 0x7 },
  { base := 0x400030, w1s := 0x1 },
  { base := 0x400034, ro := 0xFFFFFFFF },
  { base := 0x400038, wo := 0x1 }]

/-- The registers of FLT. -/
def rowsFLT : List RegRow := [
  { base := 0x10000, ro := 0x7F0003 },
  { base := 0x10004, rw := 0x1F, reset := 0x1E },
  { base := 0x10008, wo := 0xFFFF0003 },
  { base := 0x10010, ro := 0xFFFFFFFF },
  { base := 0x10014, ro := 0xFFFFFFFF },
  { base := 0x10018, ro := 0xFFFFFFFF },
  { base := 0x1001C, ro := 0xFFFFFFFF },
  { base := 0x10020, ro := 0xFFFF0001 },
  { base := 0x10024, ro := 0xFFFF0003 },
  { base := 0x10030, dims := [(4, 0x4)], ro := 0xFFFFFFFF },
  { base := 0x10040, ro := 0xFFFFFFFF }]

/-- The registers of PST. -/
def rowsPST : List RegRow := [
  { base := 0x410000, ro := 0x7 },
  { base := 0x410004, rwo := 0x3 },
  { base := 0x410008, wo := 0xFFFF0001 },
  { base := 0x41000C, ro := 0xFFFFFFFF },
  { base := 0x410010, ro := 0x8003FFF8 },
  { base := 0x410014, wo := 0xFFFF0F03 },
  { base := 0x410018, rw := 0xFFFF },
  { base := 0x41001C, ro := 0xF00FD },
  { base := 0x410020, ro := 0xFFFFFFFF },
  { base := 0x410024, wo := 0x1 },
  { base := 0x410100, dims := [(16, 0x8)], rwt := 0xFFF3FFF8 },
  { base := 0x410104, dims := [(16, 0x8)], rwt := 0x3FFF8 }]

/-- The registers of EVR. -/
def rowsEVR : List RegRow := [
  { base := 0x420000, ro := 0x1F },
  { base := 0x420004, wo := 0xFFFF0003 },
  { base := 0x420008, wo := 0x1F },
  { base := 0x42000C, ro := 0xFFFFFFFF },
  { base := 0x420010, rwt := 0xFC000000, reset := 0xF4000000 },
  { base := 0x420014, rwt := 0x1, reset := 0x1 },
  { base := 0x420018, ro := 0xFFFFFFFF, reset := 0x1 },
  { base := 0x42001C, ro := 0xFFFFFFFF },
  { base := 0x420020, ro := 0xFFFFFFFF, reset := 0x1 },
  { base := 0x420024, ro := 0xFFFFFFFF },
  { base := 0x420028, rw := 0xFFFFFFFF },
  { base := 0x42002C, rw := 0xFFFFFFFF },
  { base := 0x420030, ro := 0xFFFFFFFF },
  { base := 0x420034, ro := 0xFFFF },
  { base := 0x420038, ro := 0xFFFFFFFF },
  { base := 0x420100, dims := [(32, 0x8)], rwt := 0xC01F0000 },
  { base := 0x420104, dims := [(32, 0x8)], rwt := 0xFFFFFFFF, reset := 0xFFFF },
  { base := 0x422000, dims := [(32, 0x80), (16, 0x8)], rwt := 0xFFFFFFFF },
  { base := 0x422004, dims := [(32, 0x80), (16, 0x8)], rwt := 0x800000FF }]

/-- The registers of PNL. -/
def rowsPNL : List RegRow := [
  { base := 0x430000, rwt := 0xE1FF00FF, reset := 0x14000F0 },
  { base := 0x430004, ro := 0xFF070307 },
  { base := 0x430008, wo := 0xFFFF0003 },
  { base := 0x43000C, rw := 0xFF00FF },
  { base := 0x430010, rw := 0xFFFFFFFF },
  { base := 0x430014, ro := 0xFFFFFFFF },
  { base := 0x430018, rw := 0xFFFF, ro := 0xFFFF0000, reset := 0xFA },
  { base := 0x43001C, rwt := 0xFFF80000, reset := 0xFF000000 },
  { base := 0x430020, rwt := 0x1, reset := 0x1 },
  { base := 0x430024, ro := 0xFFFFFFFF },
  { base := 0x430028, ro := 0xFFFFFFFF },
  { base := 0x430040, dims := [(8, 0x4)], rwt := 0xFFFFF, reset := 0xF0064 },
  { base := 0x430060, dims := [(7, 0x4)], rwt := 0xFFFF, rstep := 100 },
  { base := 0x431000, dims := [(3, 0x80), (32, 0x4)], rwt := 0x77777777 },
  { base := 0x438000, dims := [(3, 0x1000), (8, 0x200), (65, 0x4)], rwt := 0xFFFFFFFF, reset := 0xFFFFFFFF }]

/-- The registers of BOOT. -/
def rowsBOOT : List RegRow := [
  { base := 0x510000, ro := 0xFFF },
  { base := 0x510004, rw := 0x1 },
  { base := 0x510008, ro := 0xFFFFFFFF },
  { base := 0x51000C, ro := 0xFFFFFFFF },
  { base := 0x510010, ro := 0xFFFFFFFF },
  { base := 0x510014, ro := 0xFF800000 },
  { base := 0x510018, ro := 0xFFFFFFFF },
  { base := 0x510020, rw := 0x1FFFFFFF },
  { base := 0x510024, wo := 0xFFFF0003 },
  { base := 0x510028, ro := 0xF07 },
  { base := 0x510100, dims := [(64, 0x4)], rw := 0xFFFFFFFF }]

/-- The registers of HOST. -/
def rowsHOST : List RegRow := [
  { base := 0x500000, ro := 0xFD },
  { base := 0x500004, rw := 0x1 },
  { base := 0x500008, rw := 0xF0000000 },
  { base := 0x50000C, rw := 0xFF },
  { base := 0x500010, wo := 0xFFFF },
  { base := 0x500014, wo := 0xFFFF },
  { base := 0x500018, w1c := 0xFFFFFFFF },
  { base := 0x50001C, w1c := 0xFFFFFFFF },
  { base := 0x500020, wo := 0xFFFF0001 },
  { base := 0x500024, ro := 0xFFFFFFFF, reset := 0x91920000 },
  { base := 0x500028, ro := 0xFFFFFFFF },
  { base := 0x502000, ro := 0xFFFFFFFF },
  { base := 0x502004, ro := 0xFFFFFFFF },
  { base := 0x501000, dims := [(64, 0x10)], rw := 0xFFFFFFFC },
  { base := 0x501004, dims := [(64, 0x10)], rw := 0xFFFFFFFF },
  { base := 0x501008, dims := [(64, 0x10)], rw := 0xFFFFFFFF },
  { base := 0x50100C, dims := [(64, 0x10)], rw := 0x1, reset := 0x1 }]

/-- The registers of DBG. -/
def rowsDBG : List RegRow := [
  { base := 0x520000, wo := 0xFFFF0003 },
  { base := 0x520004, ro := 0x1FF3F },
  { base := 0x520008, rw := 0xF1 },
  { base := 0x520010, dims := [(4, 0x4)], rw := 0xFFFFFF }]

/-- The rows of the unit that owns the 64 KiB block `u` of the register range (R25). -/
def rowsOfBlock (u : Nat) : List RegRow :=
  match u with
  | 0x0 => rowsSYS
  | 0x1 => rowsFLT
  | 0x2 => rowsTXN
  | 0x3 => rowsFRM0 ++ rowsFRM1
  | 0x4 => rowsSPEC
  | 0x5 => rowsLEAF
  | 0x6 => rowsHASP
  | 0x7 => rowsMEM
  | 0x8 => rowsRET
  | 0xA => rowsOLC
  | 0x20 => rowsTIME0 ++ rowsTIME1
  | 0x21 => rowsRTC
  | 0x30 => rowsDIO
  | 0x31 => rowsAO
  | 0x40 => rowsWARD
  | 0x41 => rowsPST
  | 0x42 => rowsEVR
  | 0x43 => rowsPNL
  | 0x50 => rowsHOST
  | 0x51 => rowsBOOT
  | 0x52 => rowsDBG
  | 0x10 => rowsLANE0 ++ rowsLANE1 ++ rowsLANENODE
  | _ => if 0x11 ≤ u ∧ u ≤ 0x1B then rowsLANE0 ++ rowsLANE1 else []

/-- The block of the register range belongs to a unit (R25). -/
def blockAssigned (u : Nat) : Bool := !(rowsOfBlock u).isEmpty

/-- The indices that the offset `r` past a row's base stands for, if it is one of the row's elements. -/
def matchDims (r : Nat) : List (Nat × Nat) → Option (List Nat)
  | [] => if r = 0 then some [] else none
  | (c, st) :: rest =>
    if r / st < c then (matchDims (r % st) rest).map (r / st :: ·) else none

/-- The row and the indices of the register at offset `off`, if the unit assigns that offset (R5). -/
def findRow (off : Nat) : List RegRow → Option (RegRow × List Nat)
  | [] => none
  | r :: rest =>
    if r.base ≤ off then
      match matchDims (off - r.base) r.dims with
      | some ix => some (r, ix)
      | none => findRow off rest
    else findRow off rest

/-- The register at an offset from 0x08_0000_0000. -/
def regRow? (off : Nat) : Option (RegRow × List Nat) := findRow off (rowsOfBlock (off / 0x10000))

/-- The reset values that are set in manufacture (R9, R11): constants of the module. -/
def factoryReset (off : Nat) : Option Word :=
  if off = Reg.SYS_LOT_LO then some Config.lotLo
  else if off = Reg.SYS_LOT_HI then some Config.lotHi
  else if off = Reg.SYS_WAFER then some (Config.waferNum.zeroExtend 32)
  else if off = Reg.SYS_DIEPOS then some Config.diePos
  else if off = Reg.SYS_SERIAL_LO then some Config.serialLo
  else if off = Reg.SYS_SERIAL_HI then some Config.serialHi
  else if off = Reg.RET_SPARE then some (Config.sparePercent.zeroExtend 32)
  else if off = Reg.HOST_PCIID then some (0x9192#16 ++ Config.pciVendor)
  else none

/-- The reset value of a register of the map (R9). PNL.GAMMA[l][i] holds floor(i / 4) for each of its eight values
(R419). -/
def rowReset (r : RegRow) (ix : List Nat) : Word :=
  if r.base = 0x431000 then BitVec.ofNat 32 (ix.getLast?.getD 0 / 4 * 0x11111111)
  else BitVec.ofNat 32 (r.reset + ix.getLast?.getD 0 * r.rstep)

/-- What every register holds after POR, before the image is applied (R9). -/
def regReset (off : Nat) : Word :=
  match factoryReset off with
  | some w => w
  | none =>
    match regRow? off with
    | some (r, ix) => rowReset r ix
    | none => 0

end Sys2Proof
end

