-- ==== Sys2Proof/Machine/Factory.lean ====
section
/-! DEFINITION. Page 0 of the parameter store as a module leaves manufacture (R13, R351, R390, R391). -/

namespace Sys2Proof.Machine

/-- The `n` little-endian bytes of a number. -/
def leBytes : Nat → Nat → List Byte
  | 0, _ => []
  | n + 1, v => BitVec.ofNat 8 v :: leBytes n (v / 256)

/-- Bytes with their CRC-32C behind them. -/
def withCrc (b : List Byte) : List Byte := b ++ leBytes 4 (crc32c b).toNat

/-- The registers that the identity mirror repeats, in order (R13). -/
def identRegs : List Nat :=
  [Reg.SYS_PART, Reg.SYS_REV, Reg.SYS_LOT_LO, Reg.SYS_LOT_HI, Reg.SYS_WAFER, Reg.SYS_DIEPOS, Reg.SYS_SERIAL_LO,
    Reg.SYS_SERIAL_HI]

/-- The identity mirror. -/
def identBlock : List Byte := identRegs.flatMap fun o => leBytes 4 (regReset o).toNat

/-- The factory curve of the calendar clock, and its CRC (R351). -/
def curveBlock : List Byte := withCrc ((List.range 26).flatMap fun i => leBytes 2 (BitVec.ofInt 16 (Config.curve i)).toNat)

/-- The block of 16 bytes that holds the powered time (R390). -/
def countBlock (optime pwrcyc : Nat) : List Byte := withCrc (leBytes 6 optime ++ [0, 0] ++ leBytes 4 pwrcyc)

/-- The byte at an offset of page 0; the factory calibration has no published layout. -/
def pageZero (i : Nat) : Byte :=
  if i < 0x20 then identBlock.getD i 0
  else if 0x40 ≤ i ∧ i < 0x78 then curveBlock.getD (i - 0x40) 0
  else if 0x80 ≤ i ∧ i < 0x90 then (countBlock Config.optime Config.pwrcyc).getD (i - 0x80) 0
  else if 0x90 ≤ i ∧ i < 0x100 then Config.calibration i
  else 0

end Sys2Proof.Machine
end

