-- ==== Sys2Proof/Machine/State.lean ====
section
/-! DEFINITION. The state of the OLX9192 as plain data. The register file `regs` is the home of every unit register; a field
beside it holds only what no register of the manual holds. Memory of every address range of R21 but the unit registers
is one sparse map of bytes. -/

namespace Sys2Proof.Machine

/-- Why the machine stops. -/
inductive Fault where
  /-- A low pulse on RST_B between 200 ns and 1 µs, whose outcome R30 does not define. Raised by RST_B_PULSE. Safe:
  the machine stops where the manual gives no effect. -/
  | rstPulseUndefined
  deriving DecidableEq, Repr

/-- Why a command has no meaning in the model. -/
inductive Refusal where
  /-- An instruction that the model has not reached. Safe. -/
  | notModelled (mnemonic : String)
  deriving DecidableEq, Repr

/-- The repeat state of R87: what remains, the iteration number, and whether the repeat is an RPTU. -/
structure Rep where
  remaining : Nat
  iter : Nat
  unint : Bool
  deriving DecidableEq, Repr

/-- The architectural state of a task instance (R87). `ls` and `rs` have their top first; X0 is never stored. -/
structure Ctx where
  x : SMap DWord := []
  la : Bool := false
  ls : List Bool := []
  rs : List Nat := []
  pc : Nat := 0
  rep : Option Rep := none
  relFrame : Nat := 0
  emits : Nat := 0
  deriving DecidableEq, Repr

/-- The states of an instance that exists (FRM.TASKSTAT.STATE, R84); IDLE is the absence of an instance. -/
inductive TState where
  | ready | running | suspended | ended | halted
  deriving DecidableEq, Repr

/-- A task instance (R61 to R71): its context, its state, its deadline frame, its release instant in ns, the tick count
and the time of its release frame's tick, the buffer of its QX and QW writes and of its EMITs (R71), the input image of
its release frame (R69), the committed image as it stood at IC of that frame (R70), whether it has started, whether it
ended by a trap (R118), in HOLD the frames that remained (R76), the instructions executed since its release (R175), and
whether a CC has found it ended (R76). -/
structure Inst where
  ctx : Ctx
  st : TState := .ready
  deadline : Nat
  relTime : Nat
  relT0 : Nat
  qw : List (Nat × Word) := []
  emits : List (List Byte) := []
  img : SMap Word := []
  outImg : SMap Word := []
  frozen : Bool := false
  started : Bool := false
  trapped : Bool := false
  remain : Nat := 0
  count : Nat := 0
  seen : Bool := false
  deriving DecidableEq, Repr

/-- An entry of the I/O map (R425). -/
structure IoEntry where
  key : Nat
  w1 : Word
  w2 : Word
  w3 : Word
  w4 : Word
  w5 : Word
  deriving DecidableEq, Repr

/-- A commit that waits for its checkpoint (R154): the frame, the output image, the transmit requests with the lane
order of R72, whether it is a fail-state image, whether it was committed in RUN, and the points forced at its CC (R293). -/
structure Commit where
  frame : Nat
  img : SMap Word
  reqs : List (List Byte)
  fail : Bool
  run : Bool := false
  forced : List Nat
  /-- A debug halt held the outputs: the CC committed nothing, and AP changes no local channel (R77). -/
  hold : Bool := false
  /-- The timed edges that the commit carries, by kind (true a loop output) and channel: the offset as it stood at the CC, or
  none where the channel's TEDGE asks for an edge and the offset cannot be used (R308, R323). -/
  edges : List (Bool × Nat × Option Nat) := []
  deriving DecidableEq, Repr

/-- What FRM marks beside the checkpoint of a bank (R471): the images and buffers of the instances that existed, and the
committed image and the last RUN image as they stood. -/
structure Mark where
  insts : List (Nat × Inst) := []
  last : SMap Word := []
  runImg : SMap Word := []
  lastFail : Bool := true
  deriving DecidableEq, Repr

/-- FRM (chapter "The frame"). Tasks are numbered cyclic n as n and event e as 32 + e. -/
structure FrmState where
  /-- The instances that exist. -/
  insts : List (Nat × Inst) := []
  /-- The instance that executes non-speculatively. -/
  running : Option Nat := none
  /-- The event tasks whose pending flag is set (R63). -/
  pend : List Nat := []
  /-- The trigger latches of R79: the event task and the triggers since the latest CC. -/
  latch : List (Nat × Nat) := []
  /-- The triggers that the latches hold from before the latest CC, while its checkpoint is incomplete (R79). -/
  latchCc : List (Nat × Nat) := []
  /-- Triggers that fall in the next frame (R62): the event task and the frame. -/
  later : List (Nat × Nat) := []
  /-- The unforced input values (R59). -/
  unforced : SMap Word := []
  /-- The input image of the current frame (R59). -/
  inImg : SMap Word := []
  /-- The output image committed at the latest CC (R72). -/
  last : SMap Word := []
  /-- The last image committed in RUN (R74). -/
  runImg : SMap Word := []
  /-- The image committed at the latest CC is a fail-state image, which HOLD goes on holding (R76). -/
  lastFail : Bool := true
  /-- The commit that the current frame's AP applies (R60), and the latest one released, which the next frame takes. -/
  released : Option Commit := none
  nextOut : Option Commit := none
  /-- The commit whose checkpoint is not yet complete (R154). -/
  pendingCommit : Option Commit := none
  /-- The task table: the entry index of every task that has one (R424). -/
  tasks : List (Nat × Nat) := []
  /-- The I/O map (R425). -/
  iomap : List IoEntry := []
  /-- The tasks that have raised NO_ENTRY since the task table last changed (R470). -/
  noEntry : List Nat := []
  /-- FRM ticks: a start has reached its first tick (R434). -/
  ticking : Bool := false
  /-- The next tick is the first of its start, and falls at or after this device time (R271). -/
  first : Bool := false
  firstAt : Nat := 0
  /-- The mode that the first frame of a start, or the frame at which a CDR completes, takes (R78, R431, R435). -/
  resumeMode : Nat := 0
  /-- The part of the frame: 0 from the tick to IC, 1 from IC to CC, 2 from CC on. -/
  phase : Nat := 2
  /-- The leaves execute: between IC and CC (R65). -/
  compute : Bool := false
  /-- The latches of R79 count as triggers at the next IC. -/
  latchDue : Bool := false
  /-- The first skip since entry to HOLD has raised HOLD_SKIP (R76). -/
  holdSkipped : Bool := false
  /-- A timing failure has been reported since the bits became set (R57). -/
  timFailed : Bool := false
  /-- A trap with POLICY = STOP since the latest CC (R118). -/
  trapStop : Bool := false
  /-- The mode request due at the next tick, and one whose write came after that tick's cut-off (R75). -/
  reqDue : Option Nat := none
  reqLate : Option Nat := none
  /-- A mode request held through a CDR (R78). -/
  reqHeld : Option Nat := none
  /-- The K of a change of period that waits for its switch tick (R55). -/
  switchTo : Option Nat := none
  /-- The marks of the two checkpoint banks (R471). -/
  marks : List (Nat × Mark) := []
  /-- The tick's frame belongs to a CDR: it has no CC (R31, R375). -/
  discarded : Bool := false
  deriving DecidableEq, Repr

/-- The state of a transaction slot that no register holds (R37, R40): the staged writes in staging order. -/
structure TxnState where
  staged : List (Nat × List (Nat × Word)) := []
  /-- The PENDING commits in arrival order: the slot and the raw count of the COMMIT's arrival, none where it came before
  the latest reset (R44, R47). -/
  order : List (Nat × Option Nat) := []
  /-- For every register that an applied commit has written: the sequence number of the last such commit (R43). -/
  lastSeq : SMap Nat := []
  /-- For every such register, its last committed value, as the journal keeps it (R49). -/
  jregs : List (Nat × Word) := []
  /-- The journal entries whose bytes a master's write has changed since TXN wrote them (R49). -/
  damaged : List Nat := []
  /-- How often TXN has written each journal entry, and the addresses of the region whose bytes a master has written since
  (R49). -/
  stamp : SMap Nat := []
  written : List Nat := []
  deriving DecidableEq, Repr

/-- A segment of run-ahead work (R127, R128): `budget` is the sum of the R120 figures of its `instrs` instructions, and
`bitRun` counts the bit operations that it ends with.
Locations: a point key, or 2^21 plus the number of a 64-byte line. -/
structure Seg where
  entry : Ctx
  exitCtx : Ctx
  reads : List (Nat × Word) := []
  writes : List (Nat × DWord × Nat) := []
  budget : Nat := 0
  instrs : Nat := 0
  bitRun : Nat := 0
  ended : Bool := false
  overflow : Bool := false
  hitInput : Bool := false
  hitWrite : Bool := false
  /-- The 64-byte lines that its instructions were fetched from (R98). -/
  code : List Nat := []
  deriving DecidableEq, Repr

/-- The run-ahead work of one instance (R122, R127): its closed segments, the open one, and whether its run-ahead has
stopped (R129). -/
structure Work where
  tid : Nat
  suspended : Bool
  segs : List Seg := []
  cur : Option Seg := none
  stopped : Bool := false
  prevReplayed : Bool := false
  deriving DecidableEq, Repr

/-- SPEC (chapter "Run-ahead"). -/
structure SpecState where
  /-- The frame the work is for, once a prediction is built (R126). -/
  frame : Option Nat := none
  /-- The predicted input image (R126). -/
  pred : SMap Word := []
  work : List Work := []
  /-- The instance whose replay executes now (R135). -/
  replaying : Option Nat := none
  /-- Raw count of the latest change of a point or write by M1 to M4 that is checked against the ledgers (R132). -/
  lastChange : Option Nat := none
  /-- Raw count of the latest write by the leaves that is checked against the ledgers (R132). -/
  lastWrite : Option Nat := none
  /-- The latest frame whose work was discarded under R130 (R139). -/
  discarded : Option Nat := none
  /-- A full write buffer has stopped run-ahead until IC (R129). -/
  full : Bool := false
  /-- Run-ahead for this frame is forbidden (R158, R210). -/
  barred : Option Nat := none
  /-- The SPEC faults raised in this frame (R141). -/
  raised : List Nat := []
  /-- For the frame in progress: segments retired, segments replayed or discarded, cycles saved, and per cyclic task the
  segments run ahead and those replayed or discarded (R139). -/
  retired : Nat := 0
  replayed : Nat := 0
  saved : Nat := 0
  perTask : List (Nat × Nat × Nat) := []
  deriving DecidableEq, Repr

/-- LEAF (chapter "Leaves"). Leaves are numbered A 0, B 1, C 2. -/
structure LeafState where
  /-- Device time of each leaf's latest failure (R160). -/
  lastFail : List (Nat × Nat) := []
  /-- The leaves whose LFR is complete and that wait for CC(M) (R157); with the frame that CC belongs to once taken. -/
  loadFrom : List (Nat × Nat) := []
  /-- The output the knuckle issued last (R146). -/
  issued : Option Nat := none
  /-- The leaves stand halted by an F2 or F3 action (R375, R376). -/
  actHalt : Bool := false
  /-- The leaves stand halted by debug (R77). -/
  dbgHalt : Bool := false
  /-- A RESUME waits for the tick at which its mode request takes effect (R446). -/
  resuming : Bool := false
  /-- The instance that was running when the debug halt fell (R446). -/
  haltedInst : Option Nat := none
  /-- The instance whose next instruction a resume passes although a breakpoint stands there (R447). -/
  passBp : Option Nat := none
  /-- A DBG.CTL STEP waits to be executed (R446). -/
  stepReq : Bool := false
  /-- The base a CDR restores from until the first checkpoint at a new LEAF.CKBASE is complete (R156). -/
  oldBase : Option Nat := none
  deriving DecidableEq, Repr

/-- A fault queue entry (R374, R380). -/
structure FltEntry where
  code : BitVec 16
  cls : Fin 4
  esc : Bool
  master : BitVec 4
  rep : Nat
  fnum : Nat
  time : Nat
  deriving DecidableEq, Repr

/-- A fault that has reached FLT in this fabric cycle and is not entered yet (R378): its class as it was raised, and whether it
is entered as an escalated F3 (R377). -/
structure Arrival where
  code : BitVec 16
  cls : Fin 4
  esc : Bool
  master : BitVec 4
  deriving DecidableEq, Repr

/-- The course of an F2 action, a CDR or an F3 release (R375, R376, R377). -/
structure FltState where
  queue : List FltEntry := []
  arrived : List Arrival := []
  /-- A CDR is in progress: `none` is no CDR; the Bool says that it handed over (R188). -/
  cdr : Option Bool := none
  /-- Raw count of the fault or the request that the CDR follows, and what requested it: 0 an F2 fault, 1 a release, and
  2 + m a write of SYS.RESET by master m (R35, R375). -/
  since : Nat := 0
  why : Nat := 0
  /-- The restore of the CDR has completed (R375). -/
  restored : Bool := false
  /-- The CDR resumes in STOP whatever CDRMODE holds (R376). -/
  toStop : Bool := false
  /-- The bolt must be taken again at T0(R) after an F3 release (R375). -/
  retake : Bool := false
  /-- The partner tries the bolt together with this module at that attempt (R181). -/
  contest : Bool := false
  /-- A start is held by a fault (R435), and the code that holds it. -/
  held : Option (BitVec 16) := none
  /-- A clock loss has stopped the device (R28). -/
  clkLoss : Bool := false
  /-- The lost clock is REFCLK or the fabric clock, from which every unit outside the leaves runs (R26). -/
  fabDead : Bool := false
  deriving DecidableEq, Repr

/-- What the standby holds of one frame (R172 to R177). -/
structure ShadowFrame where
  frame : Nat
  sample : Option (List (Nat × Word)) := none
  accepts : List AcceptRec := []
  taken : List (Nat × BusFrame) := []
  missing : List AcceptRec := []
  close : Option Nat := none
  cc : Option CcRec := none
  deriving DecidableEq, Repr

/-- What the standby has been told to do at a program position (R174, R182). -/
inductive PosItem where
  | pos (q : PosRec)
  | write (q : WriteRec)
  deriving DecidableEq, Repr

/-- A reception of a standby's own lane that no ACCEPT has taken (R173): the lane, the raw count of the reception, the node
that declared the frame then (R247), and the frame. -/
structure Reception where
  lane : Nat
  at' : Nat
  node : Option Nat
  frame : BusFrame
  deriving DecidableEq, Repr

/-- HASP (chapter "The hot-standby pair"). -/
structure HaspState where
  /-- Raw count of the last partner heartbeat, and the HASP state it carried. -/
  lastHb : Option (Nat × Nat) := none
  /-- Raw count of the last partner heartbeat whose state was not SHADOW (R177). -/
  hbOther : Option Nat := none
  /-- Records that wait for their program position, and ACCEPT records not yet applied, in order (R173, R174). -/
  posQ : List PosItem := []
  accQ : List AcceptRec := []
  /-- The frame whose input image the standby builds, once its SAMPLE has come. -/
  imgFrame : Option Nat := none
  /-- The frame in which this module took over, whose CC is its shadow close (R185). -/
  takeoverFrame : Option Nat := none
  /-- HASP.CFG.SIDE in effect since the last POR or DRST (R167). -/
  side : Bool := false
  /-- The records this module has sent on the link, newest first, as their names. -/
  sent : List String := []
  /-- The standby's own lane receptions that no ACCEPT has taken yet (R173). -/
  rx : List Reception := []
  /-- Raw count at which HASP.STAT.STATE took its value (R168, R191). -/
  since : Nat := 0
  /-- The standby's own local sample of the current frame (R185). -/
  ownSample : List (Nat × Word) := []
  /-- COMMITS records whose boundary has not come (R178). -/
  commitsDue : List CommitsRec := []
  shadow : List ShadowFrame := []
  /-- The frames released while the partner stood in SHADOW whose DIGEST has not arrived, with this module's own digest of
  each, and those among them whose DIGEST is overdue (R177). -/
  undigested : List (Nat × Word) := []
  overdue : List Nat := []
  /-- A mismatching DIGEST has arrived since the partner entered SHADOW (R177). -/
  digestBad : Bool := false
  /-- A LEAVE suspended AUTOJOIN (R192). -/
  autoSuspended : Bool := false
  /-- A contested bolt try waits for its retry: the raw count at which it falls due (R181). -/
  retry : Option Nat := none
  /-- A takeover waits for BOLT_IN to be released (R184): raw count of the loss. -/
  watch : Option Nat := none
  /-- A YIELD by F2 or CDR awaits the partner's bolt: raw count of the YIELD (R188). -/
  yielded : Option Nat := none
  /-- A join was abandoned: raw count of the abandonment, 1 s after which it restarts (R190). -/
  rejoin : Option Nat := none
  /-- Pages of working memory dirty since their last copy (R190), on a primary whose partner joins. -/
  copyDirty : List Nat := []
  /-- The pages that a joining standby has received in the current pass (R190, R195). -/
  copied : List Nat := []
  /-- The MIRROR phase sends every write to the standby (R190). -/
  mirroring : Bool := false
  /-- The last pass has ended, so the next CC is the FINAL one (R190). -/
  finalDue : Bool := false
  /-- The standby holds the FINAL checkpoint and enters SHADOW at the next IC (R190). -/
  finalHeld : Bool := false
  /-- Bytes in the primary's mirror queue (R190). -/
  mirrorQ : Nat := 0
  /-- Heartbeats have stopped: a LEAVE, or a hand-over of the bolt (R170, R192). -/
  hbStopped : Bool := false
  deriving DecidableEq, Repr

/-- OLC (chapter "Online change"). -/
structure OlcState where
  /-- The slot whose online change waits, and the boundary B of R208. -/
  waiting : Option (Nat × Nat) := none
  /-- An installation in progress for T0(N) (R210): the slot, N, and TOID. -/
  installing : Option (Nat × Nat × Nat) := none
  /-- The task table, I/O map and PROGID that take effect at T0(N). -/
  newTasks : List (Nat × Nat) := []
  newMap : List IoEntry := []
  /-- A refusal that takes effect at T0(N) (R209): slot, result, conflicting address. -/
  refusing : Option (Nat × Nat × Nat) := none
  /-- The force table is held (R213). -/
  tableHeld : Bool := false
  /-- The installation journal entry holds an installation that a reset interrupted (R211). -/
  redo : Bool := false
  /-- The delta as it was verified, kept in the journal (R208): base, length, ITIME. -/
  kept : Option (Nat × Nat × Nat) := none
  /-- Raw counts at which the latest verification and the latest installation began (R205, R210). -/
  verAt : Nat := 0
  instAt : Nat := 0
  deriving DecidableEq, Repr

/-- What is wrong with an 8-byte word's code (R216). -/
inductive Ecc where
  | good
  | single (bit : Nat)
  | double
  deriving DecidableEq, Repr

/-- An entry of the frame undo log (R220): the word's address and its old bytes, or that it was uncorrectable. -/
structure UndoEntry where
  addr : Nat
  old : Option (List Byte)
  deriving DecidableEq, Repr

/-- The dump record in retention flash (R227, R229). -/
inductive Dump where
  | absent | unsealed | sealed
  deriving DecidableEq, Repr

/-- MEM and RET (chapter "Working memory"). -/
structure MemState where
  undo : List UndoEntry := []
  /-- The uncorrectable words found since POR and not rewritten (R217). -/
  known : List Nat := []
  /-- Injections armed by MEM.INJECT: the master and the value written (R237). -/
  inject : List (Nat × Word) := []
  /-- Dirty pages, the one written longest ago first (R224), each with the instant of its latest write. -/
  dirty : List (Nat × Nat) := []
  /-- The copy in retention flash, and the bad words it carries. -/
  flash : SMap Byte := []
  flashEcc : SMap Ecc := []
  dump : Dump := .absent
  written : Nat := Config.retWritten
  ptime : Nat := Config.retPtime
  /-- Cleaning is forced (R224). -/
  forced : Bool := false
  /-- DIRTY_STALL was raised in this frame (R225). -/
  stalled : Bool := false
  /-- The instant of the latest CORRECTED fault (R239). -/
  corrAt : Option Nat := none
  /-- covered of R230 in bytes, from the last measurement. -/
  covered : Nat := 0
  /-- The raw counts before the last reset: the stamps of `dirty` and `corrAt` count from the first start. -/
  base : Nat := 0
  /-- HOLDUP_LOW is in an episode (R230). -/
  holdLow : Bool := false
  deriving DecidableEq, Repr

/-- A frame on the wire (R259): the lane's window, the queue it came from with its slot, or a mapped frame's
identifier, or a reference or echo frame. -/
inductive WireSrc where
  | queue (lane slot : Nat)
  | mapped (xtd : Bool) (id : Nat)
  | reference
  | echo (j : Nat)
  deriving DecidableEq, Repr

/-- A mapped frame waiting to go (R425). -/
structure MappedFrame where
  xtd : Bool
  id : Nat
  desc : List Byte
  win : Nat
  deriving DecidableEq, Repr

/-- One lane (chapter "Bus lanes"). -/
structure LaneState where
  /-- Arrival counts, and the read counts as last read, of FIFO 0 and 1 (R251, R252). -/
  arr0 : Nat := 0
  arr1 : Nat := 0
  rd0 : Nat := 0
  rd1 : Nat := 0
  /-- The lane reception number of the latest frame placed in a FIFO (R250). -/
  recNo : Nat := 0
  /-- The device time at which the lane was last integrated to its bus: its windows begin after it (R263). -/
  upAt : Nat := 0
  /-- The next transmit and receive buffer (R266). -/
  txBuf : Bool := false
  rxBuf : Bool := false
  /-- The window occurrence that is open, and the frame on the wire with its transmit buffer contents. -/
  win : Option Nat := none
  wire : Option WireSrc := none
  /-- The addresses of the queue's entries that are not FREE: memory that the lane never queued in is no entry. -/
  entries : List Nat := []
  /-- The next commit order number (R257). -/
  order : Nat := 0
  mapped : List MappedFrame := []
  /-- In service at some time since POR or DRST (R264), and out of service now. -/
  served : Bool := false
  wasOut : Bool := true
  /-- The lane leaves the bus after the frame on the wire (R263). -/
  leaving : Bool := false
  /-- Faults raised at most once per frame: UNDECLARED and RX_FULL. -/
  undecl : Bool := false
  rxFull : Bool := false
  /-- Echo: the exchange in progress (node, t1), per node the previous exchange (t1, t2, t4), failures in a row, and the sequence. -/
  echoNow : Option (Nat × Nat) := none
  echoNext : Nat := 0
  echoPrev : List (Nat × Nat × Nat × Nat) := []
  echoFails : List (Nat × Nat) := []
  echoFailAt : List (Nat × Nat) := []
  echoSeq : Byte := 0
  /-- Responder: the t3 of the previous RSP; follower: the delay of the last RES. -/
  echoT3 : Nat := 0
  echoDelay : Option Nat := none
  /-- Reference: the device time of the previous one received and of the previous one sent, and DISC is due. -/
  refStamp : Option Nat := none
  sentStamp : Option Nat := none
  disc : Bool := false
  cycAt : Option Nat := none
  deriving DecidableEq, Repr

/-- TIME beside its registers (chapter "Schedule matrices and device time"). -/
structure TimeState where
  ratei : Int := 0
  /-- The rate the next mapping piece takes (R270). -/
  rate : Int := 0
  /-- The device time of the latest sample. -/
  lastSample : Option Nat := none
  /-- Samples in a row within 10 ns, and beyond 20 ns (R277). -/
  good : Nat := 0
  bad : Nat := 0
  /-- A forward step due at the next tick (R274), and a STEP command due (R295). -/
  stepBy : Option Nat := none
  stepCmd : Bool := false
  /-- TIME_FAR is in an episode (R274). -/
  far : Bool := false
  ppsBadAt : Option Nat := none
  ppsOut : Bool := false
  /-- Ticks since the latest sample or the selection of the source (R277), and that instant in device time. -/
  ticksNoSample : Nat := 0
  since : Nat := 0
  deriving DecidableEq, Repr

/-- A timed output edge that waits (R293): its instant in device time ns times 2 (units of 0.5 ns), and the value. -/
structure Edge where
  at2 : Nat
  v : Word
  /-- The commit that it comes from was made in RUN (R307, R324). -/
  run : Bool := false
  deriving DecidableEq, Repr

/-- A digital channel beside its registers (chapter "Digital field channels"). -/
structure DioCh where
  /-- The instant, in device time ns, up to which the filter count has been advanced (R303). -/
  filtAt : Nat := 0
  /-- The level at the pad, which the environment drives. -/
  level : Bool := false
  /-- Raw transitions in the chatter window, and the device time at which that window begins (R306, R317). -/
  chat : Nat := 0
  chatAt : Nat := 0
  /-- RAWT of the latest raw transition (R305), as device time. -/
  rawAt : Nat := 0
  edge : Option Edge := none
  /-- The command last taken from an image committed in RUN while a QX point was mapped (R307). -/
  lastRun : Bool := false
  /-- OFS_RANGE was raised in this frame (R308). -/
  ofsRaised : Bool := false
  /-- A current-limit episode is in progress (R311). -/
  limiting : Bool := false
  /-- The chatter window is not whole: device time has been stepped in it (R306). -/
  part : Bool := false
  /-- The raw count of the latest change of the switch (R315). -/
  swAt : Option Nat := none
  deriving DecidableEq, Repr

/-- A loop output channel beside its registers (chapter "Loop outputs"). -/
structure AoCh where
  /-- The command point's value in force. -/
  point : Word := 0
  edge : Option Edge := none
  /-- The frame's image is the fail-state image, and the point is forced in it (R324). -/
  fail : Bool := true
  forcedNow : Bool := false
  /-- CFG.FAIL, and bit 2 CFG.FAILHIGH, as the latest fail-state frame took them (R339). -/
  failSel : Nat := 0
  /-- The code it last took from an image committed in RUN (R324). -/
  lastRun : Nat := 0
  /-- The ceiling of the fold-back in nA (R327). -/
  ceiling : Option Nat := none
  /-- The 10 µs slot of raw counts in which the latest readback conversion was made (R332). -/
  convAt : Option Nat := none
  /-- The raw count of the latest change of the regulated current (R333). -/
  curAt : Option Nat := none
  ofsRaised : Bool := false
  deriving DecidableEq, Repr

/-- The calendar clock (chapter "Calendar clock") beside its registers. -/
structure RtcState where
  /-- The count of seconds, and the subsecond as far as the model knows it. -/
  sec : Nat := 0
  sub : Nat := 0
  /-- The BCD fields of a held time that is no date (R347), as CLK0 and CLK1. -/
  raw : Option (Word × Word) := none
  /-- The snapshot that each master's latest read of SNAP latched (R348). -/
  snaps : List (Nat × Nat × Option (Word × Word)) := []
  /-- The fractional accumulator of R352, in units of 10^-8 crystal cycles, and the trim in force since the last second. -/
  acc : Int := 0
  trim : Int := 0
  /-- The module's own copy of the factory curve (R351). -/
  curve : List Int := []
  /-- The crystal shows no edge (R349). -/
  stopped : Bool := false
  /-- OSC_STOP waits for the next start (R349). -/
  stopPending : Bool := false
  /-- HALT = 1 was written while the crystal stood still: it takes effect at the next edge (R346). -/
  haltDue : Bool := false
  deriving DecidableEq, Repr

/-- The ward beside its registers (R358 to R369). -/
structure WardState where
  /-- The settings in force in the current period (R358). -/
  enrol : Word := 1
  period : Nat := 1000000
  wopen : Nat := 0
  prewarn : Nat := 0
  /-- The period has been served; the next begins at the next ward tick (R359). -/
  served : Bool := false
  warned : Bool := false
  /-- The state held while FROZEN, with its reason (R367). -/
  heldState : Nat := 2
  heldBegin : Bool := false
  /-- The disable sequence of R369: the step reached, the master, and the raw count of its write. -/
  key : Option (Nat × Master × Nat) := none
  /-- The ward counts: BOOT has ended (R434). -/
  counting : Bool := false
  deriving DecidableEq, Repr

/-- PST beside its registers and its array (R382 to R396). -/
structure PstState where
  /-- The copy that the latest SELECT of each record returned: 0 A, 1 B, 2 none (LOST), and its SEQ. -/
  selected : List (Nat × Nat × Word) := []
  /-- The record command in progress: record, OP, and the master. -/
  busy : Option (Nat × Nat × Master) := none
  corrAt : Option Nat := none
  known : List Nat := []
  /-- EVR.OPTIME and EVR.PWRCYC, as manufactured before anything counts (R391, R405). (Log 7, DEDUCED.) -/
  optime : Nat := Config.optime
  pwrcyc : Nat := Config.pwrcyc
  deriving DecidableEq, Repr

/-- A firing that waits in EVR's queue (R399): source, matching fault code, firing master (7 for a fault match), the
device time and the frame number. -/
structure Firing where
  src : Nat
  code : BitVec 16
  master : Nat
  time : Nat
  fnum : Nat
  deriving DecidableEq, Repr

/-- EVR beside its registers (R398 to R405). -/
structure EvrState where
  queue : List Firing := []
  cursors : List (Nat × Nat) := []
  gone : List Nat := []
  deriving DecidableEq, Repr

/-- An update or a repaint that PNL drives (R409 to R412, R417): the commons, the latched waveform entries of each layer,
the raw count at which driving begins, the raw counts that one common takes, and how many commons are done. -/
structure PnlJob where
  repaint : Bool
  first : Nat
  last : Nat
  wave : List (List Word)
  startAt : Nat
  per : Nat
  done : Nat := 0
  deriving DecidableEq, Repr

/-- PNL beside its registers (R407 to R418). -/
structure PnlState where
  /-- The level of PNL_HVEN, and the raw count at which it falls. -/
  hven : Bool := false
  hvenOff : Option Nat := none
  job : Option PnlJob := none
  /-- A repaint waits for a valid temperature (R413). -/
  waiting : Bool := false
  /-- The latest valid thermistor reading in 0.1 °C, and its raw count. -/
  validAt : Option Nat := none
  valid : Int := 0
  deriving DecidableEq, Repr

/-- BOOT beside its registers (R421 to R437). -/
structure BootState where
  /-- The configuration flash: its contents, density in MiB, whether it answers SFDP and in octal, log2 of the erase
  sector in KiB. -/
  flash : SMap Byte := []
  density : Nat := 256
  answers : Bool := true
  octal : Bool := true
  sector : Nat := 6
  /-- BOOT runs: M4 is active (R16). -/
  running : Bool := false
  /-- The start follows a POR (not a DRST), and what it still waits for. -/
  afterPor : Bool := true
  waitMem : Bool := false
  waitRestore : Bool := false
  imageOk : Bool := false
  modeDecided : Bool := false
  /-- A refused SETTINGS write (R431). -/
  refused : Bool := false
  /-- The slot that BOOT reads, and that the current start ran from. -/
  slot : Nat := 0
  /-- The flash command in progress: OP and address. -/
  cmd : Option (Nat × Nat) := none
  /-- A restore failed and the release continues as COLD (R435). -/
  forceCold : Bool := false
  /-- Working memory and the journal are those from before the reset: kept, or restored from flash (R430). -/
  retained : Bool := false
  /-- The installation entry of an interrupted installation is damaged (R469). -/
  instLost : Bool := false
  /-- The reset is held in POR, VIN outside its range (R227, R454). -/
  por : Bool := true
  releaseAt : Nat := 0
  deriving DecidableEq, Repr

/-- The JTAG port (R444, R445): the instruction selected by its code, and what Capture-DR of DBGACC returns. -/
structure TapState where
  ir : Nat := 1
  status : Nat := 0
  rdata : Word := 0
  deriving DecidableEq, Repr

/-- The host port beside its registers: the MSI-X messages sent, by vector, newest first (R442). -/
structure HostPort where
  msgs : List Nat := []
  /-- The completion of the latest read request: whether it was successful, and its data (R440). -/
  cpl : Option (Bool × List Byte) := none
  deriving DecidableEq, Repr

/-- What the fabric answered to the access that a command made last: the data of a read, an accepted write, or an error
response (R4, R5). -/
inductive Answer where
  | idle
  | data (v : Nat)
  | done
  | error
  deriving DecidableEq, Repr

/-- The pads and the supplies as the model needs them. -/
structure PadState where
  boltIn : Bool := false
  boltOut : Bool := false
  /-- The hardware enable lines of R28 are up. -/
  hwEnable : Bool := true
  pfailB : Bool := true
  timeOut : Bool := false
  bleeder : Bool := false
  lidHot : Bool := false
  /-- Device raw count since which every lid reading has been below 100 °C (R460). -/
  coolAt : Option Nat := none
  vinLow : Bool := false
  vinHigh : Bool := false
  /-- The 1 ms slot of the raw count whose voltage SYS.VIN shows (R454). -/
  vinAt : Nat := 0
  deriving DecidableEq, Repr

/-- The OLX9192. -/
structure State where
  /-- The commands that wait, first in, first out. -/
  pending : List Instr
  /-- The model's own counter of free values (see Config.freeBits). -/
  free : Nat
  /-- The raw stamp counter (R268). -/
  raw : Nat
  /-- The unit registers, by offset from 0x08_0000_0000. -/
  regs : SMap Word
  /-- The latches of R6 and their kin: key is master × 2^24 + offset. -/
  latch : List (Nat × Word)
  /-- Staged low halves of RW pairs (R6): key is master × 2^24 + offset. -/
  low : List (Nat × Word)
  /-- RWO registers written since POR or DRST (R7). -/
  once : List Nat
  mem : SMap Byte
  ecc : SMap Ecc
  frm : FrmState
  txn : TxnState
  spec : SpecState
  leaf : LeafState
  flt : FltState
  hasp : HaspState
  olc : OlcState
  mm : MemState
  lanes : SMap LaneState
  time : TimeState
  dio : SMap DioCh
  ao : SMap AoCh
  rtc : RtcState
  ward : WardState
  pst : PstState
  evr : EvrState
  pnl : PnlState
  boot : BootState
  host : HostPort
  tap : TapState
  pads : PadState
  /-- The answer to the latest access of a command. -/
  answer : Answer
  deriving DecidableEq, Repr

/-- What an unlisted byte of memory reads as: page 0 of the parameter store as manufactured, and 0 elsewhere. (Log 6, DESIGN
CHOICE.) -/
def memDefault (a : Nat) : Byte :=
  if 0xC_0000_0000 ≤ a ∧ a < 0xC_0000_0100 then pageZero (a - 0xC_0000_0000) else 0

/-- The canonical form of memory: addresses strictly rising, no entry equal to what an unlisted address reads as. -/
def Memory.wf (m : SMap Byte) : Bool := smWf memDefault m

/-- The machine right after a power-on reset, before POR is released (R29, R434). (Log 2, DESIGN CHOICE; Log 9, DESIGN CHOICE; Log 139, DEDUCED; Log 145, DESIGN CHOICE.) -/
def State.reset : State where
  pending := []
  free := 0
  raw := 0
  regs := []
  latch := []
  low := []
  once := []
  mem := []
  ecc := []
  frm := {}
  txn := {}
  spec := {}
  leaf := {}
  flt := {}
  hasp := {}
  olc := {}
  mm := {}
  lanes := []
  time := {}
  dio := []
  ao := []
  rtc := {}
  ward := {}
  pst := {}
  evr := {}
  pnl := {}
  boot := {}
  host := {}
  tap := {}
  pads := { pfailB := false }
  answer := .idle

end Sys2Proof.Machine
end

