-- ==== Sys2Proof/Machine/Ops.lean ====
section
/-! DEFINITION. The named operations over registers, memory bytes, time and the frame that every unit uses. -/

namespace Sys2Proof.Machine

/-- What a command answers. -/
abbrev Out := Host.Outcome State Fault Refusal

/-! Registers (R4, R7). -/

/-- A register's value. -/
def getReg (s : State) (o : Nat) : Word := smGet regReset s.regs o

/-- Writes a register, whatever its access type: the hardware's own write. -/
def putReg (s : State) (o : Nat) (v : Word) : State := { s with regs := smSet regReset s.regs o v }

/-- Bits [hi:lo] of a number. -/
def bits (v hi lo : Nat) : Nat := v / 2 ^ lo % 2 ^ (hi - lo + 1)

/-- A number with its bits [hi:lo] replaced. -/
def withBits (v hi lo x : Nat) : Nat :=
  v - bits v hi lo * 2 ^ lo + x % 2 ^ (hi - lo + 1) * 2 ^ lo

/-- A field of a register. -/
def fld (s : State) (o hi lo : Nat) : Nat := bits (getReg s o).toNat hi lo

/-- Writes a field of a register. -/
def putFld (s : State) (o hi lo x : Nat) : State :=
  putReg s o (BitVec.ofNat 32 (withBits (getReg s o).toNat hi lo x))

/-- A one-bit field. -/
def flag (s : State) (o i : Nat) : Bool := (getReg s o).getLsbD i

/-- A Bool as the bit that stands for it. -/
def b2n (b : Bool) : Nat := if b then 1 else 0

/-- Writes a one-bit field. -/
def putFlag (s : State) (o i : Nat) (b : Bool) : State := putFld s o i i (b2n b)

/-- Adds to a counter field, saturating at its largest value. -/
def bumpBy (s : State) (o hi lo n : Nat) : State :=
  putFld s o hi lo (min (fld s o hi lo + n) (2 ^ (hi - lo + 1) - 1))

/-- Adds one to a saturating counter field. -/
def bump (s : State) (o hi lo : Nat) : State := bumpBy s o hi lo 1

/-- A register's value as a number. -/
def regNat (s : State) (o : Nat) : Nat := (getReg s o).toNat

/-- Writes a number to a register. -/
def putNat (s : State) (o v : Nat) : State := putReg s o (BitVec.ofNat 32 v)

/-- The 64-bit value of a pair whose low half is at `o` and whose high half follows it (R6). -/
def pair (s : State) (o : Nat) : Nat := regNat s o + regNat s (o + 4) * 2 ^ 32

/-- Writes both halves of a pair. -/
def putPair (s : State) (o v : Nat) : State := putNat (putNat s o v) (o + 4) (v / 2 ^ 32)

/-- A register's value as a signed number. -/
def regInt (s : State) (o : Nat) : Int := (getReg s o).toInt

/-- Applies a function to the state for every element, in order. -/
def forAll {α : Type} (l : List α) (f : State → α → State) (s : State) : State := l.foldl f s

/-- Does something only where a condition holds. -/
def when (c : Bool) (f : State → State) (s : State) : State := if c then f s else s

/-- Takes a free value: nothing constrains it (Config.freeBits). -/
def takeFree (s : State) : DWord × State := (Config.freeBits s.free, { s with free := s.free + 1 })

/-- Takes `n` free bytes. -/
def freeBytes (n : Nat) (s : State) : List Byte × State :=
  ((List.range n).map fun i => (Config.freeBits (s.free + i)).truncate 8, { s with free := s.free + n })

/-! Association lists. -/

/-- The value listed at a key. -/
def alGet {α : Type} (l : List (Nat × α)) (k : Nat) : Option α := (l.find? fun p => p.1 = k).map (·.2)

/-- The list without a key. -/
def alDel {α : Type} (l : List (Nat × α)) (k : Nat) : List (Nat × α) := l.filter fun p => p.1 ≠ k

/-- The list with a value at a key. -/
def alPut {α : Type} (l : List (Nat × α)) (k : Nat) (v : α) : List (Nat × α) := (k, v) :: alDel l k

/-- The list with a key inserted in ascending order of keys. -/
def alInsert {α : Type} (l : List (Nat × α)) (k : Nat) (v : α) : List (Nat × α) :=
  l.filter (fun p => p.1 < k) ++ (k, v) :: l.filter (fun p => k < p.1)

/-! Bytes. -/

/-- The number that little-endian bytes spell. -/
def leNat : List Byte → Nat
  | [] => 0
  | b :: r => b.toNat + 256 * leNat r

/-- A byte of memory, as it is stored. -/
def memByte (s : State) (a : Nat) : Byte := smGet memDefault s.mem a

/-- `n` bytes of memory from an address. -/
def memBytes (s : State) (a : Nat) : Nat → List Byte
  | 0 => []
  | n + 1 => memByte s a :: memBytes s (a + 1) n

/-- A little-endian number of `n` bytes in memory. -/
def memNat (s : State) (a n : Nat) : Nat := leNat (memBytes s a n)

/-- Stores one byte. -/
def putByte (s : State) (a : Nat) (b : Byte) : State := { s with mem := smSet memDefault s.mem a b }

/-- Stores bytes at ascending addresses. -/
def putBytes (s : State) (a : Nat) : List Byte → State
  | [] => s
  | b :: r => putBytes (putByte s a b) (a + 1) r

/-- The default of the code map: every word's code is right. -/
def eccGood (_ : Nat) : Ecc := .good

/-- What is wrong with the code of the 8-byte word that holds an address. -/
def eccAt (s : State) (a : Nat) : Ecc := smGet eccGood s.ecc (a / 8 * 8)

/-- Marks the code of the word that holds an address. -/
def putEcc (s : State) (a : Nat) (e : Ecc) : State := { s with ecc := smSet eccGood s.ecc (a / 8 * 8) e }

/-! Address ranges (R21, R23). -/

def imageBase : Nat := 0x4_0000_0000
def forceBase : Nat := imageBase + 0x200_0000
def predBase : Nat := imageBase + 0x280_0000
def regBase : Nat := 0x8_0000_0000
def pstBase : Nat := 0xC_0000_0000
def pnlBase : Nat := 0xC_1000_0000
def lmmBase : Nat := 0xC_2000_0000
/-- The image copy of R429. -/
def imageCopy : Nat := 0x1_E000_0000
/-- The TXN journal of R49. -/
def journalBase : Nat := 0x1_F000_0000

/-- The address lies in working memory. -/
def inWorking (a : Nat) : Bool := a < 0x2_0000_0000

/-- The address lies in one of the six point regions of the image window (R23). -/
def inPoints (a : Nat) : Bool :=
  let o := a - imageBase
  imageBase ≤ a && (o < 0x8000 || (0x10_0000 ≤ o && o < 0x10_8000) || (0x20_0000 ≤ o && o < 0x20_8000) ||
    (0x100_0000 ≤ o && o < 0x110_0000) || (0x140_0000 ≤ o && o < 0x150_0000) || (0x180_0000 ≤ o && o < 0x190_0000))

/-- The address lies in the MX or MW region. -/
def inMarkers (a : Nat) : Bool :=
  let o := a - imageBase
  imageBase ≤ a && ((0x20_0000 ≤ o && o < 0x20_8000) || (0x180_0000 ≤ o && o < 0x190_0000))

/-- The force table holds 8 bytes for each of 4,096 entries (R197). -/
def inForce (a : Nat) : Bool := forceBase ≤ a && a < forceBase + 0x8000

/-- The memory that carries SECDED and is retained (R216, R219). -/
def inRetained (a : Nat) : Bool := inWorking a || inPoints a || inForce a

/-! Points (R24, R92). A point key is CLS × 2^18 + IDX. -/

def clsIX : Nat := 0
def clsQX : Nat := 1
def clsMX : Nat := 2
def clsIW : Nat := 4
def clsQW : Nat := 5
def clsMW : Nat := 6

def pkey (cls idx : Nat) : Nat := cls * 2 ^ 18 + idx
def pcls (k : Nat) : Nat := k / 2 ^ 18
def pidx (k : Nat) : Nat := k % 2 ^ 18

/-- The class holds bits. -/
def isBitCls (c : Nat) : Bool := c = 0 || c = 1 || c = 2

/-- The class holds words. -/
def isWordCls (c : Nat) : Bool := c = 4 || c = 5 || c = 6

/-- The address of a class's region (R23). -/
def clsBase (c : Nat) : Nat :=
  imageBase + (if c = 0 then 0 else if c = 1 then 0x10_0000 else if c = 2 then 0x20_0000
    else if c = 4 then 0x100_0000 else if c = 5 then 0x140_0000 else 0x180_0000)

/-- The address of the byte, or of the first byte of the word, that holds a point (R24). -/
def pointAddr (k : Nat) : Nat :=
  if isBitCls (pcls k) then clsBase (pcls k) + pidx k / 8 else clsBase (pcls k) + 4 * pidx k

/-- A point as the image window holds it. -/
def windowPoint (s : State) (k : Nat) : Word :=
  if isBitCls (pcls k) then BitVec.ofNat 32 (bits (memByte s (pointAddr k)).toNat (pidx k % 8) (pidx k % 8))
  else BitVec.ofNat 32 (memNat s (pointAddr k) 4)

/-- The bytes of a point's write into the window: the address and the bytes. -/
def pointBytes (s : State) (k : Nat) (v : Word) : Nat × List Byte :=
  let a := pointAddr k
  if isBitCls (pcls k) then
    let i := pidx k % 8
    (a, [BitVec.ofNat 8 (withBits (memByte s a).toNat i i v.toNat)])
  else (a, leBytes 4 v.toNat)

/-- What an unlisted point of an image holds. -/
def pointZero (_ : Nat) : Word := 0

/-- A point of an image. -/
def imgGet (m : SMap Word) (k : Nat) : Word := smGet pointZero m k

/-- Writes a point of an image; a bit point takes bit 0. -/
def imgPut (m : SMap Word) (k : Nat) (v : Word) : SMap Word :=
  smSet pointZero m k (if isBitCls (pcls k) then v &&& 1 else v)

/-! Masters. -/

/-- The number of a master (R16). -/
def Master.num : Master → Nat
  | .m0 => 0
  | .m1 => 1
  | .m2 => 2
  | .m3 => 3
  | .m4 => 4

/-! Time (R268 to R270). Device time is in ns; R269's 2.5 × (1 + rate × 2^-40) is 5 × (2^40 + rate) / 2^41. -/

/-- Device time at a raw count, through one mapping piece. -/
def pieceTime (raw0 t0 : Nat) (rate : Int) (r : Nat) : Nat :=
  ((t0 : Int) + ((r : Int) - raw0) * 5 * (2 ^ 40 + rate) / 2 ^ 41).toNat % 2 ^ 64

def mapRaw (s : State) (p : Nat) : Nat := pair s (Reg.TIME_MAP_RAW_LO p)
def mapTime (s : State) (p : Nat) : Nat := pair s (Reg.TIME_MAP_TIME_LO p)
def mapRate (s : State) (p : Nat) : Int := regInt s (Reg.TIME_MAP_RATE p)

/-- Device time at a raw count (R270). -/
def timeAt (s : State) (r : Nat) : Nat :=
  let p := if mapRaw s 0 ≤ r then 0 else 1
  pieceTime (mapRaw s p) (mapTime s p) (mapRate s p) r

/-- Device time now. -/
def now (s : State) : Nat := timeAt s s.raw

/-- The first raw count, not before the piece in force, at which device time is at or above `t` (R54). -/
def rawAt (s : State) (t : Nat) : Nat :=
  let den : Int := 5 * (2 ^ 40 + mapRate s 0)
  let d : Int := (t : Int) - mapTime s 0
  if d ≤ 0 then mapRaw s 0 else mapRaw s 0 + ((d * 2 ^ 41 + den - 1) / den).toNat

/-- How many multiples of `n` lie above `a` and at or below `b`. -/
def crossings (n a b : Nat) : Nat := b / n - a / n

/-! The frame (R53 to R56). -/

/-- The frame period in force, in ns (R53, FRM.KNOW). -/
def frameNs (s : State) : Nat := fld s Reg.FRM_KNOW 7 0 * 62500

/-- The number of the current frame. -/
def fnum (s : State) : Nat := pair s Reg.FRM_FNUM_LO

/-- T0(n) in ns of device time (R54). -/
def tickAt (s : State) (n : Nat) : Nat :=
  ((pair s Reg.FRM_FBASET_LO : Int) + ((n : Int) - pair s Reg.FRM_FBASEN_LO) * frameNs s).toNat

/-- The tick count Q(n) (R54). -/
def tickCount (s : State) (n : Nat) : Nat := tickAt s n / 62500

def winNs (s : State) : Nat := fld s Reg.FRM_WIN 19 0 * 10
def ccNs (s : State) : Nat := fld s Reg.FRM_CCOFF 19 0 * 10
def apNs (s : State) : Nat := fld s Reg.FRM_APOFF 19 0 * 10

/-- IC(n), CC(n) and AP(n) (R56). -/
def icAt (s : State) (n : Nat) : Nat := tickAt s n + winNs s
def ccAt (s : State) (n : Nat) : Nat := tickAt s n + ccNs s
def apAt (s : State) (n : Nat) : Nat := tickAt s n + apNs s

/-- FRM.MODE.CUR: 0 STOP, 1 RUN, 2 HOLD (R73). -/
def curMode (s : State) : Nat := fld s Reg.FRM_MODE 1 0

def modeStop : Nat := 0
def modeRun : Nat := 1
def modeHold : Nat := 2

/-- HASP.STAT.STATE: 0 SOLO, 1 ARBITRATING, 2 PRIMARY, 3 JOINING, 4 SHADOW, 5 UNSYNC (R195). -/
def haspState (s : State) : Nat := fld s Reg.HASP_STAT 2 0

/-- The device runs on its clock and is not held in POR: commands act on it. (Log 4, DEDUCED.) -/
def alive (s : State) : Bool := !s.boot.por && !s.flt.fabDead

end Sys2Proof.Machine
end

