-- ==== Sys2Proof/Machine/Image.lean ====
section
/-! DEFINITION. The image: forces, the I/O map, the regions of the image window and the fail-state image (R59, R72, R74,
R198, R425). -/

namespace Sys2Proof.Machine

/-! The force table (R197, R198). -/

/-- The 8 bytes of entry `f` as a number. -/
def forceEntry (s : State) (f : Nat) : Nat := memNat s (forceBase + 8 * f) 8

/-- VALID of an entry's value. -/
def forceValid (e : Nat) : Bool := bits e 31 31 = 1

/-- The point key of an entry's value. -/
def forceKey (e : Nat) : Nat := bits e 20 0

/-- The value of an entry's value. -/
def forceValue (e : Nat) : Word := BitVec.ofNat 32 (bits e 63 32)

/-- The indices of the entries with VALID = 1: those whose byte 3 is listed and has bit 7. -/
def validForces (s : State) : List Nat :=
  (s.mem.filter fun p => inForce p.1 && p.1 % 8 = 3 && 128 ≤ p.2.toNat).map fun p => (p.1 - forceBase) / 8

/-- The valid forces of the points that `c` admits, as keys and values. -/
def forcesOf (s : State) (c : Nat → Bool) : List (Nat × Word) :=
  ((validForces s).map (forceEntry s)).filterMap fun e =>
    if c (pcls (forceKey e)) then some (forceKey e, forceValue e) else none

/-- The input forces. -/
def inputForces (s : State) : List (Nat × Word) := forcesOf s fun c => c = clsIX || c = clsIW

/-- The output forces. -/
def outputForces (s : State) : List (Nat × Word) := forcesOf s fun c => c = clsQX || c = clsQW

/-- An image with values applied over it. -/
def applyOver (m : SMap Word) (l : List (Nat × Word)) : SMap Word := l.foldl (fun m p => imgPut m p.1 p.2) m

/-! The I/O map (R425). -/

def IoEntry.kind (e : IoEntry) : Nat := bits e.w1.toNat 3 0
def IoEntry.func (e : IoEntry) : Nat := bits e.w1.toNat 7 4
def IoEntry.chan (e : IoEntry) : Nat := bits e.w1.toNat 23 16
def IoEntry.xtd (e : IoEntry) : Bool := e.w2.getLsbD 29
def IoEntry.ident (e : IoEntry) : Nat := bits e.w2.toNat 28 0
def IoEntry.byteOff (e : IoEntry) : Nat := bits e.w3.toNat 10 0
def IoEntry.bitNo (e : IoEntry) : Nat := bits e.w3.toNat 13 11
def IoEntry.failState (e : IoEntry) : Nat := bits e.w4.toNat 1 0
def IoEntry.fmt (e : IoEntry) : Nat := bits e.w4.toNat 5 4
def IoEntry.brs (e : IoEntry) : Bool := e.w4.getLsbD 6
def IoEntry.dlen (e : IoEntry) : Nat := bits e.w4.toNat 27 16

def kindDio : Nat := 1
def kindAo : Nat := 2
def kindRecv : Nat := 3
def kindSend : Nat := 4

/-- The point that the map gives to a function of a local channel. -/
def mapPoint (s : State) (kind func ch : Nat) (c : Nat) : Option Nat :=
  (s.frm.iomap.find? fun e => e.kind = kind && e.func = func && e.chan = ch && pcls e.key = c).map (·.key)

/-- The point is in the I/O map. -/
def isMapped (s : State) (k : Nat) : Bool :=
  s.frm.iomap.any fun e => e.key = k || (e.kind = kindDio && e.func = 2 && e.key + 1 = k)

/-! The regions of the window. -/

/-- Memory without the listed bytes of [lo, hi). -/
def clearRange (s : State) (lo hi : Nat) : State :=
  { s with mem := s.mem.filter fun p => p.1 < lo || hi ≤ p.1 }

/-- The size of a class's region in bytes. -/
def clsSize (c : Nat) : Nat := if isBitCls c then 0x8000 else 0x10_0000

/-- The codes of the words of [lo, hi) are right again: the device has rewritten them whole. -/
def clearEcc (s : State) (lo hi : Nat) : State :=
  { s with ecc := s.ecc.filter fun p => p.1 < lo || hi ≤ p.1 }

/-- Puts a point of an image at its place in a region that begins at `base` (R24). -/
def putRegionPoint (base : Nat) (s : State) (k : Nat) (v : Word) : State :=
  if isBitCls (pcls k) then
    let a := base + pidx k / 8
    let i := pidx k % 8
    putByte s a (BitVec.ofNat 8 (withBits (memByte s a).toNat i i v.toNat))
  else putBytes s (base + 4 * pidx k) (leBytes 4 v.toNat)

/-- Rewrites the region that begins at `base` from the points of class `c` of an image. -/
def rewriteRegion (s : State) (base c : Nat) (m : SMap Word) : State :=
  let s := clearEcc (clearRange s base (base + clsSize c)) base (base + clsSize c)
  (m.filter fun p => pcls p.1 = c).foldl (fun s p => putRegionPoint base s p.1 p.2) s

/-- The pages that a rewritten region occupies, as pages of 4 KiB. -/
def regionPages (c : Nat) : List Nat := (List.range (clsSize c / 4096)).map (· + clsBase c / 4096)

/-! The fail-state image (R74). -/

/-- The fail value of an output point that fail code `f` governs: OFF 0, HOLD the last RUN image, VALUE a value. (Log 79, DESIGN CHOICE.) -/
def failValue (s : State) (k f : Nat) (v : Word) : Word :=
  if f = 1 then imgGet s.frm.runImg k else if f = 2 then v else 0

def dioCfg (n : Nat) : Nat := Reg.DIO_CH_CFG (n / 16) (n % 16)
def dioStat (n : Nat) : Nat := Reg.DIO_CH_STAT (n / 16) (n % 16)

/-- The fail value that the map's entry gives its output point. -/
def entryFail (s : State) (e : IoEntry) : Word :=
  if e.kind = kindDio && e.func = 0 then
    failValue s e.key (fld s (dioCfg e.chan) 9 8) (BitVec.ofNat 32 (fld s (dioCfg e.chan) 10 10))
  else if e.kind = kindAo && e.func = 0 then
    failValue s e.key (fld s (Reg.AO_CH_CFG e.chan) 5 4) (getReg s (Reg.AO_CH_FAILVAL e.chan))
  else if e.kind = kindSend then failValue s e.key e.failState e.w5
  else 0

/-- failstate(): an output point that no entry maps has no fail state of its own and takes OFF. -/
def failImage (s : State) : SMap Word :=
  s.frm.iomap.foldl (fun m e =>
    if pcls e.key = clsQX || pcls e.key = clsQW then imgPut m e.key (entryFail s e) else m) []

end Sys2Proof.Machine
end

