-- ==== Sys2Proof/Machine/Store.lean ====
section
/-! DEFINITION. The memory devices: what storing bytes does to the code, the retained pages and the join's mirror (R190, R217,
R224). -/

namespace Sys2Proof.Machine

/-- Records that the module sends on the hasp link. (Log 140, DEDUCED.) -/
def sendRec (r : String) (s : State) : State := { s with hasp := { s.hasp with sent := r :: s.hasp.sent } }

/-! Dirty pages (R224, R225). -/

/-- DIRTYMAX in bytes (R238). -/
def dirtyMax (s : State) : Nat := fld s Reg.RET_CFG 26 16 * 2 ^ 20

/-- LIMIT in bytes (R224). -/
def limitBytes (s : State) : Nat := max (2 ^ 26) (min (dirtyMax s) s.mm.covered)

/-- LIMIT in whole pages. -/
def limitPages (s : State) : Nat := limitBytes s / 4096

/-- The page's copy in flash differs from its contents. -/
def isDirty (s : State) (p : Nat) : Bool := s.mm.dirty.any fun q => q.1 = p

/-- The page lies in the image copy, which RET neither cleans nor restores (R219). -/
def inImageCopy (p : Nat) : Bool := imageCopy / 4096 ≤ p && p < imageCopy / 4096 + 0x1_0000

/-- Forced cleaning begins at 7/8 of LIMIT and ends below 3/4 of it (R224). -/
def judgeForced (s : State) : State :=
  let d := 4096 * s.mm.dirty.length
  { s with mm := { s.mm with forced := 7 * limitBytes s ≤ 8 * d || (s.mm.forced && 3 * limitBytes s ≤ 4 * d) } }

/-- The raw counts since the device was first powered, which no reset starts again: the age of a page that survives a reset. -/
def powered (s : State) : Nat := s.mm.base + s.raw

/-- While a join copies working memory, the primary tracks the pages written since their last copy (R190). -/
def touchCopy (p : Nat) (s : State) : State :=
  if haspState s = 2 && (fld s Reg.HASP_XFERSTAT 2 0 = 1 || fld s Reg.HASP_XFERSTAT 2 0 = 2) && p < 0x20_0000 && !s.hasp.copyDirty.contains p then
    { s with hasp := { s.hasp with copyDirty := p :: s.hasp.copyDirty } }
  else s

/-- Marks a page written now; it becomes the one written latest. -/
def touchPage (p : Nat) (s : State) : State :=
  let s := touchCopy p s
  if inImageCopy p then s
  else judgeForced { s with mm := { s.mm with dirty := alDel s.mm.dirty p ++ [(p, powered s)] } }

/-- The parts of the state that FRM keeps in the memory devices outside every address range (R471). -/
def frmUnforced : Nat := 0
def frmImages : Nat := 1
def frmBuffers : Nat := 2
def frmMarks (bank : Nat) : Nat := 3 + bank

/-- FRM writes a part of what it keeps: its pages, which lie above those of the address space, become dirty and count against
LIMIT (R219, R471). (Log 33, DEDUCED.) -/
def touchFrm (part : Nat) (s : State) : State := forAll (Config.frmPages part) (fun s p => touchPage (2 ^ 28 + p) s) s

/-! Codes. -/

/-- A fault of class F0 or F1 reaches FLT, which takes it at the end of the command (R374, R378). -/
def arrive (code cls : Nat) (mas : BitVec 4) (s : State) : State :=
  let e : Arrival := { code := BitVec.ofNat 16 code, cls := Fin.ofNat 4 cls, esc := false, master := mas }
  bump { s with flt := { s.flt with arrived := s.flt.arrived ++ [e] } } (Reg.FLT_CNT cls) 31 0

/-- MEM.STAT.UEKNOWN follows the list of known words (R217). -/
def refreshKnown (s : State) : State := putFlag s Reg.MEM_STAT 0 (!s.mm.known.isEmpty)

/-- MEM.ERRADDR names the latest error. -/
def errAddr (a : Nat) (unc : Bool) (s : State) : State :=
  putNat (putNat s Reg.MEM_ERRADDR_LO (a / 8 * 8)) Reg.MEM_ERRADDR_HI (b2n unc * 2 ^ 31 + a / 2 ^ 32 % 256)

/-- An uncorrectable word is found: it is recorded, and reported with the code given (R216, R218). (Log 32, DEDUCED.) -/
def foundBad (a code : Nat) (mas : BitVec 4) (s : State) : State :=
  let w := a / 8 * 8
  let s := if s.mm.known.contains w then s
    else bump { s with mm := { s.mm with known := w :: s.mm.known } } Reg.MEM_UECNT 31 0
  arrive code 1 mas (refreshKnown (errAddr w true s))

/-- The mirror queue of 4 MiB has overflowed: the join is abandoned, and JOIN_RETRY, a notice, reaches FLT (R190). -/
def abandonJoin (s : State) : State :=
  let s := { s with hasp := { s.hasp with mirroring := false, finalDue := false, mirrorQ := 0, copyDirty := [], rejoin := some s.raw } }
  putFld (arrive 0x0608 0 0xF s) Reg.HASP_XFERSTAT 2 0 0

/-- Sends a write to the standby while the join mirrors (R190). (Log 72, DESIGN CHOICE.) -/
def mirrorWrite (a : Nat) (b : List Byte) (s : State) : State :=
  if s.hasp.mirroring && inWorking a then
    let s := sendRec "MIRROR" { s with hasp := { s.hasp with mirrorQ := s.hasp.mirrorQ + b.length } }
    if 0x40_0000 < s.hasp.mirrorQ then abandonJoin s else s
  else s

/-- The words wholly written from `a` carry a good code again (R217). -/
def healWords (a n : Nat) (s : State) : State :=
  let ws := s.ecc.filter fun p => a ≤ p.1 && p.1 + 8 ≤ a + n
  if ws.isEmpty then s
  else
    refreshKnown { s with ecc := s.ecc.filter fun p => !(a ≤ p.1 && p.1 + 8 ≤ a + n),
                          mm := { s.mm with known := s.mm.known.filter fun w => !(a ≤ w && w + 8 ≤ a + n) } }

/-- Stores bytes as the memory devices do: the bytes, the code, the dirty page, the mirror. (Log 31, DEDUCED.) -/
def storeRaw (a : Nat) (b : List Byte) (s : State) : State :=
  let s := healWords a b.length (mirrorWrite a b (putBytes s a b))
  if b.isEmpty then s
  else
    let p := a / 4096
    let q := (a + b.length - 1) / 4096
    forAll (List.range (q - p + 1)) (fun s i => touchPage (p + i) s) s

/-- The uncorrectable words that a write of `n` bytes from `a` covers in part. -/
def partBad (a n : Nat) (s : State) : List Nat :=
  (s.ecc.filter fun p => p.2 = .double && p.1 < a + n && a < p.1 + 8 && !(a ≤ p.1 && p.1 + 8 ≤ a + n)).map (·.1)

/-- A write of a whole structure: a part of it inside an uncorrectable word that it does not cover whole changes nothing and
is reported (R217). -/
def storeWhole (mas : BitVec 4) (a : Nat) (b : List Byte) (s : State) : State :=
  let bad := partBad a b.length s
  if bad.isEmpty then storeRaw a b s
  else
    let e := a + b.length
    let lo := if bad.contains (a / 8 * 8) then min e (a / 8 * 8 + 8) else a
    let hi := if bad.contains (e / 8 * 8) then max lo (e / 8 * 8) else e
    forAll bad (fun s w => foundBad w 0x0702 mas s) (storeRaw lo ((b.drop (lo - a)).take (hi - lo)) s)

/-- A write by a unit: not logged, and it drops no entry (R220, R401). -/
def unitStore (a : Nat) (b : List Byte) (s : State) : State := storeWhole 0xF a b s

end Sys2Proof.Machine
end

