-- ==== Sys2Proof/Machine/Field.lean ====
section
/-! DEFINITION. What the field channels drive: the switch of a digital channel (R307, R310), the code of a loop output (R322,
R324, R334), the output enable (R179) and the fail states that a fault brings at once (R375). -/

namespace Sys2Proof.Machine

def dioDefault (_ : Nat) : DioCh := {}
def aoDefault (_ : Nat) : AoCh := {}

def dioCh (s : State) (n : Nat) : DioCh := smGet dioDefault s.dio n
def putDio (s : State) (n : Nat) (c : DioCh) : State := { s with dio := smSet dioDefault s.dio n c }
def aoCh (s : State) (n : Nat) : AoCh := smGet aoDefault s.ao n
def putAo (s : State) (n : Nat) (c : AoCh) : State := { s with ao := smSet aoDefault s.ao n c }

/-- The output enable of R179 is on (HASP.STAT.ENABLED). -/
def enabled (s : State) : Bool := flag s Reg.HASP_STAT 10

/-! Digital outputs. -/

def dioMode (s : State) (n : Nat) : Nat := fld s (dioCfg n) 2 0

/-- The channel's mode is DO or DO with readback. -/
def isDo (s : State) (n : Nat) : Bool := dioMode s n = 3 || dioMode s n = 4

/-- STAT.OUT by the table of R310; a change of the switch is noted (R315). -/
def refreshDio (s : State) (n : Nat) : State :=
  let st := dioStat n
  let on := enabled s && !flag s st 8 && !flag s st 9 && isDo s n && flag s st 3
  if flag s st 2 = on then s else putFlag (putDio s n { dioCh s n with swAt := some s.raw }) st 2 on

/-- Gives a DO channel its command. -/
def dioCommand (s : State) (n : Nat) (v : Bool) : State := refreshDio (putFlag s (dioStat n) 3 v) n

/-- The fail state of a channel as a command (R74, R307). -/
def dioFail (s : State) (n : Nat) : Bool :=
  match fld s (dioCfg n) 9 8, mapPoint s kindDio 0 n clsQX with
  | 1, some k => (imgGet s.frm.runImg k).getLsbD 0
  | 1, none => (dioCh s n).lastRun
  | 2, _ => flag s (dioCfg n) 10
  | _, _ => false

/-! Loop outputs. -/

/-- The integer square root, by bisection over `f` bits. -/
def isqrt : Nat → Nat → Nat → Nat
  | 0, _, r => r
  | f + 1, n, r => isqrt f n (if (r + 2 ^ f) * (r + 2 ^ f) ≤ n then r + 2 ^ f else r)

/-- One milliampere in the model's exact unit of current. -/
def mA : Int := 5 * 2 ^ 43

/-- The fraction y of R322, in units of 2^-43, for a point value x in units of 2^-24. -/
def aoY (s : State) (n : Nat) (x : Int) : Int :=
  let tbl (k : Nat) : Int := regInt s (Reg.AO_CH_TBL n k)
  match fld s (Reg.AO_CH_CHAR n) 25 24 with
  | 1 => if x < fld s (Reg.AO_CH_CHAR n) 23 0 ∨ x < 0 then 0 else (isqrt 48 (x.toNat * 2 ^ 62) 0 : Nat)
  | 2 =>
    if x ≤ 0 then tbl 0 * 2 ^ 19
    else if 2 ^ 24 ≤ x then tbl 32 * 2 ^ 19
    else
      let k := x.toNat / 2 ^ 19
      tbl k * 2 ^ 19 + (tbl (k + 1) - tbl k) * (x.toNat % 2 ^ 19 : Nat)
  | _ => x * 2 ^ 19

/-- The target current before the clamp. -/
def aoRaw (s : State) (n : Nat) (x : Int) : Int := 4 * mA + 16 * 5 * aoY s n x

/-- The target current of R322, clamped. -/
def aoCurrent (s : State) (n : Nat) (x : Int) : Int :=
  let i := aoRaw s n x
  if flag s (Reg.AO_CH_CFG n) 10 then min (205 * mA / 10) (max (38 * mA / 10) i) else min (24 * mA) (max 0 i)

/-- The exact code of a current: floor(i × 2^20 / 24 mA + 0.5), at most 1,048,575. (Log 100, DESIGN CHOICE.) -/
def aoCode (i : Int) : Nat := (min 1048575 ((i * 2 ^ 21 + 24 * mA) / (48 * mA))).toNat

/-- The code D, within 1 of the exact one and inside its 20 bits. -/
def aoD (s : State) (n : Nat) (x : Word) : Nat :=
  min 1048575 (aoCode (aoCurrent s n x.toInt) + Config.codeError n x.toNat % 3 - 1)

/-- A current in units of 10 µA. -/
def tenMicro (k : Nat) : Int := k * mA / 100

/-- What decides the current at a loop output (R334): nothing, a code kept from RUN, a point value through R322, a level in
units of 10 µA that may be an alarm's. -/
inductive AoRow where
  | highZ
  | held (d : Nat)
  | value (x : Word)
  | level (ua10 : Nat) (alarm : Bool)
  deriving DecidableEq, Repr

/-- The command point that the map gives a channel. -/
def aoPoint (s : State) (n : Nat) : Option Nat := mapPoint s kindAo 0 n clsQW

/-- The alarm levels of a channel, in units of 10 µA. -/
def lowAlarm (s : State) (n : Nat) : Nat := fld s (Reg.AO_CH_ALARM n) 8 0
def highAlarm (s : State) (n : Nat) : Nat := fld s (Reg.AO_CH_ALARM n) 27 16

/-- The fail state of R324, by the setting that the latest fail-state frame took. -/
def aoFailRow (s : State) (n : Nat) : AoRow :=
  let c := aoCh s n
  match c.failSel % 4 with
  | 1 => .held c.lastRun
  | 2 => .value c.point
  | 3 => .level (if c.failSel < 4 then lowAlarm s n else highAlarm s n) true
  | _ => .level 0 false

/-- The first row of R334 whose condition holds. -/
def aoRow (s : State) (n : Nat) : AoRow :=
  let c := aoCh s n
  let st := Reg.AO_CH_STAT n
  let cfg := Reg.AO_CH_CFG n
  if !enabled s || flag s st 9 || fld s cfg 2 0 = 0 then .highZ
  else if (aoPoint s n).isNone || (c.fail && !c.forcedNow) then aoFailRow s n
  else if !c.fail && flag s st 5 && flag s cfg 11 then .level (lowAlarm s n) true
  else .value c.point

/-- The target current of a row. -/
def aoTarget (s : State) (n : Nat) : Int :=
  match aoRow s n with
  | .highZ => 0
  | .held d => d * (24 * mA) / 2 ^ 20
  | .value x => aoCurrent s n x.toInt
  | .level k _ => tenMicro k

/-- The code of a row, before the ceiling. A channel that is high-impedance shows 0. (Log 168, DEDUCED.) -/
def aoRowCode (s : State) (n : Nat) : Nat :=
  match aoRow s n with
  | .highZ => 0
  | .held d => d
  | .value x => aoD s n x
  | .level k _ => aoCode (tenMicro k)

/-- The flags ALARMDRV, CUTOFF and CLAMPED of a row. -/
def aoRowFlags (s : State) (n : Nat) : Bool × Bool × Bool :=
  match aoRow s n with
  | .value x => (false, fld s (Reg.AO_CH_CHAR n) 25 24 = 1 && decide (x.toInt < fld s (Reg.AO_CH_CHAR n) 23 0),
      decide (aoCurrent s n x.toInt ≠ aoRaw s n x.toInt))
  | .level _ a => (a, false, false)
  | _ => (false, false, false)

/-- The code that a channel regulates to: its target's, or its ceiling's if that is lower (R327). -/
def aoCeiled (s : State) (n : Nat) : Nat :=
  match (aoCh s n).ceiling with
  | some na => min (aoRowCode s n) (aoCode (na * mA / 1000000))
  | none => aoRowCode s n

/-- Puts the code in force, and notes its change (R333). -/
def aoPut (n d : Nat) (s : State) : State :=
  let s := if fld s (Reg.AO_CH_CUR n) 19 0 = d then s else putAo s n { aoCh s n with curAt := some s.raw }
  putFld s (Reg.AO_CH_CUR n) 19 0 d

/-- The channel drives what the row of R334 that holds asks for. -/
def refreshAo (s : State) (n : Nat) : State :=
  let st := Reg.AO_CH_STAT n
  let (alarm, cut, clamp) := aoRowFlags s n
  putFlag (putFlag (putFlag (putFlag (aoPut n (aoCeiled s n) s) st 3 alarm) st 2 cut) st 1 clamp) st 0 (enabled s)

/-- A fail-state frame takes the setting of FAIL, with FAILVAL where it is VALUE, as it stands (R324, R339). -/
def captureFail (n : Nat) (s : State) : State :=
  let cfg := Reg.AO_CH_CFG n
  let c := aoCh s n
  putAo s n { c with failSel := fld s cfg 5 4 + 4 * fld s cfg 6 6,
                     point := if fld s cfg 5 4 = 2 then getReg s (Reg.AO_CH_FAILVAL n) else c.point }

/-! The output enable and the fail states. -/

def laneDefault (_ : Nat) : LaneState := {}
def lane (s : State) (n : Nat) : LaneState := smGet laneDefault s.lanes n
def putLane (n : Nat) (l : LaneState) (s : State) : State := { s with lanes := smSet laneDefault s.lanes n l }

def qBase (s : State) (n : Nat) : Nat :=
  fld s (Reg.LANE_QBASE_LO n) 31 18 * 2 ^ 18 + fld s (Reg.LANE_QBASE_HI n) 0 0 * 2 ^ 32

def qEntry (s : State) (n i : Nat) : Nat := qBase s n + i * 0x840

/-- Writes the state word of an entry. -/
def putQState (n i v : Nat) (s : State) : State :=
  let a := qEntry s n i
  let es := (lane s n).entries.filter fun e => e ≠ a
  putLane n { lane s n with entries := if v % 4 = 0 then es else a :: es } (unitStore a (leBytes 4 v) s)

/-- The frame on the wire leaves it without being sent: a queued request is QUEUED again (R259). -/
def requeue (n : Nat) (s : State) : State :=
  let s := match (lane s n).wire with
    | some (.queue q i) => putQState q i 1 s
    | _ => s
  putLane n { lane s n with wire := none } s

/-- Recomputes HASP.STAT.BOLTOUT, BOLTIN and ENABLED and what every channel drives; while the enable is off, no frame
stays on a wire (R179, R28, R259). -/
def refreshEnable (s : State) : State :=
  let on := s.pads.boltOut && !s.pads.boltIn && s.pads.hwEnable
  let was := enabled s
  let s := putFlag (putFlag (putFlag s Reg.HASP_STAT 8 s.pads.boltOut) Reg.HASP_STAT 9 s.pads.boltIn) Reg.HASP_STAT 10 on
  if on = was then s
  else
    let s := if on then s else forAll ((List.range 12).filter fun n => (lane s n).wire.isSome) (fun s n => requeue n s) s
    forAll (List.range 48) refreshAo (forAll ((List.range 192).filter (isDo s)) refreshDio s)

/-- Sets BOLT_OUT. -/
def setBolt (b : Bool) (s : State) : State := refreshEnable { s with pads := { s.pads with boltOut := b } }

/-- Sets the hardware enable lines of R28. -/
def setHwEnable (b : Bool) (s : State) : State := refreshEnable { s with pads := { s.pads with hwEnable := b } }

/-- Every local channel takes its fail state at once and without a timed edge (R375). -/
def failNow (s : State) : State :=
  let s := forAll ((List.range 192).filter (isDo s)) (fun s n =>
    dioCommand (putDio s n { dioCh s n with edge := none }) n (dioFail s n)) s
  forAll (List.range 48) (fun s n =>
    refreshAo (captureFail n (putAo s n { aoCh s n with edge := none, fail := true, forcedNow := false })) n) s

/-- Frames without a CC carry the fail-state image without forces (R73). -/
def releaseFail (s : State) : State :=
  let c : Commit := { frame := fnum s, img := failImage s, reqs := [], fail := true, forced := [] }
  { s with frm := { s.frm with released := some c, nextOut := some c, pendingCommit := none } }

end Sys2Proof.Machine
end

