-- ==== Sys2Proof/Machine/Fault.lean ====
section
/-! DEFINITION. Reporting a fault: the queue of FLT, the event recorder's match, the host's interrupt causes, and the F2 and
F3 actions (R373 to R380, R399, R435, R442). -/

namespace Sys2Proof.Machine

/-- Sets cause bit `v`; the bit going from 0 to 1 sends the message, or leaves it pending while masked (R442). -/
def cause (v : Nat) (s : State) : State :=
  let o := if v < 32 then Reg.HOST_CAUSE_LO else Reg.HOST_CAUSE_HI
  let p := if v < 32 then Reg.HOST_PBA_LO else Reg.HOST_PBA_HI
  if flag s o (v % 32) then s
  else
    let s := putFlag s o (v % 32) true
    if !flag s Reg.HOST_STAT 7 then s
    else if flag s (Reg.HOST_MSIX v + 0xC) 0 || !flag s Reg.HOST_STAT 6 then putFlag s p (v % 32) true
    else { s with host := { s.host with msgs := v :: s.host.msgs } }

/-- HASP.STAT.PARTNER and its change cause. (Log 62, DEDUCED.) -/
def setPartner (p : Nat) (s : State) : State :=
  if fld s Reg.HASP_STAT 27 25 = p then s else cause 9 (putFld s Reg.HASP_STAT 27 25 p)

/-- HASP.STAT.STATE and its change cause (R442). A module that stops being primary has no partner's status to show. -/
def setHaspState (st : Nat) (s : State) : State :=
  if haspState s = st then s
  else
    let s := if haspState s = 2 then setPartner 0 s else s
    cause 9 (putFld { s with hasp := { s.hasp with since := s.raw } } Reg.HASP_STAT 2 0 st)

def partnerNone : Nat := 0
def partnerInstep : Nat := 1
def partnerJoining : Nat := 2
def partnerUnsync : Nat := 3
def partnerUnreachable : Nat := 4

/-- The module is a primary whose partner is in step (R177). -/
def instep (s : State) : Bool := haspState s = 2 && fld s Reg.HASP_STAT 27 25 = partnerInstep

/-- The module sends heartbeats no more, after a YIELD record if its fabric clock still runs (R170). -/
def stopHb (s : State) : State :=
  if (haspState s = 2 || haspState s = 3 || haspState s = 4) && !s.hasp.hbStopped then
    let s := if s.flt.fabDead then s else sendRec "YIELD" s
    { s with hasp := { s.hasp with hbStopped := true } }
  else s

/-- Nothing of R180 keeps BOLT_OUT released: no F3 action, which a clock loss is too, and no PFAIL. -/
def mayBolt (s : State) : Bool := !flag s Reg.FLT_STAT 1 && s.pads.pfailB

/-- The bolt is neither tried again nor taken back: what kept it released has ended the hand-over and the contest (R180,
R188). -/
def dropBolt (s : State) : State := { s with hasp := { s.hasp with yielded := none, retry := none } }

/-- WARD.STAT.STATE: 0 OFF, 1 NORMAL, 2 WINDOW, 3 FROZEN, 4 HALTED (R371). -/
def wardState (s : State) : Nat := fld s Reg.WARD_STAT 2 0

/-- The ward is HALTED by an action; a disabled ward stays OFF (R363, R370). (Log 108, DEDUCED.) -/
def haltWard (s : State) : State := if wardState s = 0 then s else putFld s Reg.WARD_STAT 2 0 4

/-- The codes of the faults that the model names in more than one place. -/
def codeQueueFull : Nat := 0x0120
def codeClkLoss : Nat := 0x0110
def codeLidLimit : Nat := 0x0133
def codeCkptBad : Nat := 0x0534
def codeRestoreFail : Nat := 0x0722
def codeScan : Nat := 0x5201
def codeDrop : Nat := 0x4201

/-- An F3 fault that a release can end at once (R376, R444, R460). -/
def releasable (code : Nat) : Bool :=
  code ≠ codeClkLoss && code ≠ codeCkptBad && code ≠ codeLidLimit && code ≠ codeScan

/-- SPEC.STAT.STATE and LASTSTOP (R139, R140). (Log 59, DEDUCED.) -/
def specStop (st cause : Nat) (s : State) : State := putFld (putFld s Reg.SPEC_STAT 2 0 st) Reg.SPEC_STAT 7 4 cause

/-- The instance whose replay executes; SPEC.STAT.STATE is PROCESSING while one does. (Log 59, DEDUCED.) -/
def setReplaying (o : Option Nat) (s : State) : State :=
  let s := { s with spec := { s.spec with replaying := o } }
  if o.isSome then putFld s Reg.SPEC_STAT 2 0 4
  else if fld s Reg.SPEC_STAT 2 0 = 4 then putFld s Reg.SPEC_STAT 2 0 1
  else s

/-- The leaves halt under an action: nothing runs, and the commit whose checkpoint is incomplete is cancelled (R154). -/
def haltLeaves (s : State) : State :=
  let s := setReplaying none s
  { s with leaf := { s.leaf with actHalt := true },
           frm := { s.frm with running := none, compute := false, pendingCommit := none } }

/-- FLT.CUR3 shows the fault that the F3 state stands for. -/
def showCur3 (code : Nat) (s : State) : State :=
  putNat s Reg.FLT_CUR3 (code * 2 ^ 16 + b2n (releasable code) * 2 + 1)

/-- BOOT.STAT.STATE (R448). -/
def bootState (s : State) : Nat := fld s Reg.BOOT_STAT 3 0

/-- The F3 action of R376; before the first tick it holds the start (R435). -/
def f3Action (code : Nat) (s : State) : State :=
  let s := putFlag (putFlag s Reg.FLT_STAT 1 true) Reg.FLT_STAT 0 false
  let s := putFlag (showCur3 code s) Reg.FLT_CUR2 0 false
  let s := dropBolt (stopHb (haltWard (haltLeaves s)))
  let s := setHwEnable false (setBolt false s)
  let s := releaseFail { s with flt := { s.flt with cdr := none, restored := false, toStop := true } }
  if s.frm.ticking || bootState s = 5 then s
  else
    let s := putFld s Reg.BOOT_STAT 3 0 6
    { s with flt := { s.flt with held := some (BitVec.ofNat 16 code) } }

/-- The course of a CDR up to its start: the leaves and the ward halt, and the module hands over to a partner in step, or its
channels take their fail states (R375). `why` says what requested it. -/
def cdrCourse (why : Nat) (s : State) : State :=
  let s := haltWard (haltLeaves s)
  let h := instep s
  let s := { s with flt := { s.flt with cdr := some h, restored := false, since := s.raw, why := why } }
  if h then
    let s := stopHb s
    releaseFail (setBolt false { s with hasp := { s.hasp with yielded := some s.raw } })
  else releaseFail (failNow s)

/-- The F2 action of R375 up to the start of its CDR. -/
def f2Action (code : Nat) (s : State) : State :=
  cdrCourse 0 (putNat (putFlag s Reg.FLT_STAT 0 true) Reg.FLT_CUR2 (code * 2 ^ 16 + 1))

/-- An entry of the queue for a fault that arrives now. (Log 15, DEDUCED.) -/
def fltEntry (code : Nat) (cls : Nat) (esc : Bool) (mas : BitVec 4) (s : State) : FltEntry :=
  { code := BitVec.ofNat 16 code, cls := Fin.ofNat 4 cls, esc := esc, master := mas, rep := 0,
    fnum := fnum s, time := now s }

/-- The queue with its oldest F0 entry removed, if it has one. -/
def dropF0 : List FltEntry → Option (List FltEntry)
  | [] => none
  | e :: r => if e.cls = 0 then some r else (dropF0 r).map (e :: ·)

/-- Whether a fault was entered, merged into the newest entry, or lost. -/
inductive Entered where
  | entered | merged | lost
  deriving DecidableEq, Repr

/-- Adds one to FLT.LOST. -/
def bumpLost (s : State) : State := bump s Reg.FLT_LOST 31 0

/-- Enters a fault in the queue (R374). (Log 13, DEDUCED.) -/
def enqueue (e : FltEntry) (s : State) : State × Entered :=
  let q := s.flt.queue
  match q.getLast? with
  | some n =>
    if n.code = e.code ∧ n.cls = e.cls then
      ({ s with flt := { s.flt with queue := q.dropLast ++ [{ n with rep := min 255 (n.rep + 1) }] } }, .merged)
    else if q.length < 64 then ({ s with flt := { s.flt with queue := q ++ [e] } }, .entered)
    else
      match (if flag s Reg.FLT_CFG 4 then dropF0 q else none) with
      | some r => (bumpLost { s with flt := { s.flt with queue := r ++ [e] } }, .entered)
      | none => (bumpLost s, .lost)
  | none => ({ s with flt := { s.flt with queue := [e] } }, .entered)

/-- The action of a fault's class (R373, R377, R435). -/
def classAction (code cls : Nat) (s : State) : State :=
  if flag s Reg.FLT_STAT 1 then s
  else if cls = 3 then f3Action code s
  else if cls = 2 then
    if s.frm.ticking then (if flag s Reg.FLT_STAT 0 then f3Action code s else f2Action code s)
    else f3Action code s
  else s

/-- An F2 that arrives while another is handled is entered as an F3 with ESC = 1 (R377). -/
def escalates (cls : Nat) (s : State) : Bool :=
  cls = 2 && s.frm.ticking && flag s Reg.FLT_STAT 0 && !flag s Reg.FLT_STAT 1

/-- Puts a firing of source `src` in EVR's queue of 16; false when the queue is full (R399). -/
def queueFiring (src : Nat) (code : BitVec 16) (mas : Nat) (s : State) : State × Bool :=
  if s.evr.queue.length < 16 then
    ({ s with evr := { s.evr with queue := s.evr.queue ++
        [{ src := src, code := code, master := mas, time := now s, fnum := fnum s }] } }, true)
  else (bump s Reg.EVR_DROPCNT 31 0, false)

/-- The sources that a fault code fires, in ascending order (R399). -/
def matchSources (code : Nat) (s : State) : List Nat :=
  (List.range 32).filter fun n =>
    flag s (Reg.EVR_SRC_CFG n) 31 && flag s (Reg.EVR_SRC_CFG n) 30 &&
      (code ^^^ fld s (Reg.EVR_SRC_MATCH n) 31 16) &&& fld s (Reg.EVR_SRC_MATCH n) 15 0 = 0

/-- Reports a fault to FLT: the counter and the class's action. It waits to be entered until every fault of the same fabric
cycle has arrived. -/
def report (code cls : Nat) (mas : BitVec 4) (s : State) : State :=
  let esc := escalates cls s
  let s := bump s (Reg.FLT_CNT (if esc then 3 else cls)) 31 0
  classAction code cls
    { s with flt := { s.flt with arrived := s.flt.arrived ++
        [{ code := BitVec.ofNat 16 code, cls := Fin.ofNat 4 cls, esc := esc, master := mas }] } }

/-- A fault that no access caused. -/
def raise (code cls : Nat) (s : State) : State := report code cls 0xF s

/-- A fault that an access by a master caused (R380). -/
def raiseBy (m : Master) (code cls : Nat) (s : State) : State := report code cls (BitVec.ofNat 4 (Master.num m)) s

/-- A source fires if it is enabled; a full queue raises DROP (R399). (Log 14, DEDUCED.) -/
def fireSource (src mas : Nat) (s : State) : State :=
  if src < 32 && flag s (Reg.EVR_SRC_CFG src) 31 then
    let (s, ok) := queueFiring src 0 mas s
    if ok then s else raise codeDrop 0 s
  else s

/-! The faults of one fabric cycle (R378). A command's faults reach FLT in the cycle in which it is done. -/

/-- FLT takes `a` before `b`: the higher class first, then the lower code. -/
def takenBefore (a b : Arrival) : Bool :=
  decide (b.cls < a.cls) || (decide (a.cls = b.cls) && decide (a.code.toNat ≤ b.code.toNat))

def insertArrival (a : Arrival) : List Arrival → List Arrival
  | [] => [a]
  | b :: r => if takenBefore b a then b :: insertArrival a r else a :: b :: r

/-- The arrivals in the order in which FLT takes them; equal ones keep theirs. -/
def sortArrivals (l : List Arrival) : List Arrival := l.foldl (fun m a => insertArrival a m) []

/-- Takes one fault: the entry, the interrupt cause and the recorder's firings. QUEUE_FULL is never entered (R374, R399). -/
def takeArrival (s : State) (a : Arrival) : State :=
  let code := a.code.toNat
  let c := if a.esc then 3 else a.cls.val
  let (s, r) := if code = codeQueueFull then (s, Entered.merged) else enqueue (fltEntry code c a.esc a.master s) s
  let s := if r = .entered && flag s Reg.FLT_CFG c then cause c s else s
  let s := (matchSources code s).foldl (fun s n =>
    let (s, ok) := queueFiring n a.code 7 s
    if ok then s else raise codeDrop 0 s) s
  if r = .lost then raise codeQueueFull 2 s else s

/-- Takes what has arrived, and then what that raises in its turn, in `fuel` rounds at most. (Log 12, DEDUCED.) -/
def takeArrivals : Nat → State → State
  | 0, s => { s with flt := { s.flt with arrived := [] } }
  | fuel + 1, s =>
    if s.flt.arrived.isEmpty then s
    else takeArrivals fuel
      ((sortArrivals s.flt.arrived).foldl takeArrival { s with flt := { s.flt with arrived := [] } })

/-- The end of a command: FLT takes its faults. (Log 11, DESIGN CHOICE.) -/
def settleFaults (s : State) : State := takeArrivals 4 s

/-- A command that acts in every state of the device. -/
def run (f : State → State) (s : State) : Out := .next (settleFaults (f s))

/-- A command that acts only while the device runs; a device in POR, or without its fabric clock, is left as it is. (Log 5, DEDUCED.) -/
def act (s : State) (f : State → State) : Out := .next (if alive s then settleFaults (f s) else s)

/-- Records a bank's latest fault (R318). -/
def dioFault (n : Nat) (code cls : Nat) (s : State) : State :=
  let s := putNat s (Reg.DIO_BANK_LASTEV (n / 16)) (fnum s % 2 ^ 16 * 2 ^ 16 + code % 256 * 2 ^ 8 + n % 16)
  raise code cls s

/-- Records a group's latest fault (R340). -/
def aoFault (n : Nat) (code cls : Nat) (s : State) : State :=
  let s := putNat s (Reg.AO_GRP_LASTEV (n / 8)) (fnum s % 2 ^ 16 * 2 ^ 16 + code % 256 * 2 ^ 8 + n % 8)
  raise code cls s

/-- An access that completes with an error response raises the notice of its unit, or the fault named in its place
(R5, R18). -/
def accessNotice (m : Master) (code : Nat) (s : State) : State := raiseBy m code 0 s

end Sys2Proof.Machine
end

