-- ==== Sys2Proof/Machine/Memory.lean ====
section
/-! DEFINITION. Working memory and the retained image regions: SECDED (R216 to R219), the frame undo log (R220 to R223), the
dirty pages (R224, R225), and what a write does to the units that watch memory (R49, R130, R131, R190, R206). -/

namespace Sys2Proof.Machine

/-! Run-ahead work that a write or a change touches (R130, R131). A ledger location is a point key, or 2^21 plus the number
of a 64-byte line of working memory. -/

/-- The ledger locations that `n` bytes from an address hold: the points of a marker region, or the line of working
memory. (Log 77, DEDUCED.) -/
def locsOf (a n : Nat) : List Nat :=
  if inWorking a then [2 ^ 21 + a / 64]
  else if clsBase clsMX ≤ a ∧ a < clsBase clsMX + 0x8000 then
    (List.range (8 * n)).map fun i => pkey clsMX (8 * (a - clsBase clsMX) + i)
  else if clsBase clsMW ≤ a ∧ a < clsBase clsMW + 0x10_0000 then
    (List.range ((a % 4 + n + 3) / 4)).map fun i => pkey clsMW ((a - clsBase clsMW) / 4 + i)
  else []

/-- Marks the segments that have read a location as hit. -/
def hitSeg (loc : Nat) (input : Bool) (g : Seg) : Seg :=
  if g.reads.any fun p => p.1 = loc then
    { g with hitInput := g.hitInput || input, hitWrite := g.hitWrite || !input }
  else g

/-- Applies a function to every segment of run-ahead work. -/
def onSegs (f : Seg → Seg) (s : State) : State :=
  let w (k : Work) : Work := { k with segs := k.segs.map f, cur := k.cur.map f }
  { s with spec := { s.spec with work := s.spec.work.map w } }

/-- A change or write of a location is checked against every segment (R131). -/
def specHit (loc : Nat) (input : Bool) (s : State) : State := onSegs (hitSeg loc input) s

/-- The check of a change or of a write begins now: one by the leaves is complete within 8 leaf cycles, any other within 2 µs
(R132). -/
def noteCheck (leaf : Bool) (s : State) : State :=
  { s with spec := if leaf then { s.spec with lastWrite := some s.raw } else { s.spec with lastChange := some s.raw } }

/-- The leaves store into a line of the code region: the segments that fetched from it executed old words (R98, R136). An
instruction fetch takes no ledger entry. (Log 156, DEDUCED.) -/
def codeHit (line : Nat) (s : State) : State :=
  onSegs (fun g => if g.code.contains line then { g with hitWrite := true } else g) s

/-- The location holds a buffered write of a segment that falls inside one word of memory and not over all of it. -/
def writesPart (w : Nat) (g : Seg) : Bool :=
  g.writes.any fun p =>
    if p.2.2 = 0 then (locsOf w 8).contains p.1 else p.2.2 < 8 && w ≤ p.1 && p.1 < w + 8

/-- A word has become uncorrectable: a segment that read it, or that would write a part of it, is executed again, so that the
error response reaches the instruction that meets it (R118, R136). (Log 159, DEDUCED.) -/
def wordLost (w : Nat) (s : State) : State :=
  forAll (locsOf w 8) (fun s l => specHit l false s)
    (onSegs (fun g => if writesPart w g then { g with hitWrite := true } else g) s)

/-- All run-ahead work for frame `n` is dropped, and no more is done for it (R130); its segments count as neither retired nor
replayed. (Log 161, DEDUCED.) -/
def specDrop (n : Nat) (s : State) : State :=
  let s := { s with spec := { s.spec with work := [], barred := some n, full := false, discarded := some n } }
  let s := bump s Reg.SPEC_DISCARDS 31 0
  if n = fnum s then putFlag s Reg.SPEC_STAT 8 true else s

/-- SPEC discards all run-ahead work of the frame it works for, before that frame's IC (R130). -/
def specDiscard (s : State) : State :=
  match s.spec.frame with
  | none => s
  | some n =>
    if s.spec.barred = some n || n < fnum s || (n = fnum s && s.frm.phase ≠ 0) then s else specDrop n s

/-- A CDR drops every buffer and ledger, also those of a frame whose IC has passed (R15, R130). -/
def dropAhead (s : State) : State :=
  let s := specDiscard s
  { s with spec := { s.spec with work := [] } }

/-- LEAF.CODEBASE (R95, R163). -/
def codeBase (s : State) : Nat :=
  fld s Reg.LEAF_CODEBASE_LO 31 26 * 2 ^ 26 + fld s Reg.LEAF_CODEBASE_HI 0 0 * 2 ^ 32

/-- OLC.STAT.VSTATE: 0 NONE, 1 VERIFYING, 2 VERIFIED, 3 BAD. -/
def vstate (s : State) : Nat := fld s Reg.OLC_STAT 2 0

/-- The address of the delta (R203). -/
def dbase (s : State) : Nat := fld s Reg.OLC_DBASE_LO 31 3 * 8 + fld s Reg.OLC_DBASE_HI 7 0 * 2 ^ 32

/-- VSTATE leaves VERIFIED, and a verification in progress ends (R206). (Log 73, DEDUCED.) -/
def unverify (s : State) : State :=
  if vstate s = 1 ∨ vstate s = 2 then putFld s Reg.OLC_STAT 2 0 0 else s

/-- A master writes `n` bytes from `a`, perhaps into the delta (R206). -/
def watchDelta (a n : Nat) (s : State) : State :=
  when (decide (a < dbase s + regNat s Reg.OLC_DLEN ∧ dbase s < a + n)) unverify s

/-! The TXN journal (R49). -/

/-- The address lies in the journal region. -/
def inJournal (a : Nat) : Bool := journalBase ≤ a && a < journalBase + 0x100_0000

/-- The entry that a byte of the journal region belongs to. -/
def entryAt (a : Nat) : Nat := Config.journalEntry (a - journalBase)

/-- The byte that a read of the journal region finds: what a master has written since TXN last wrote the byte's entry, or
what TXN wrote. (Log 34, DEDUCED.) -/
def journalSeen (s : State) (a : Nat) : Byte :=
  if s.txn.written.contains a then memByte s a
  else Config.journalByte (smGet (fun _ => 0) s.txn.stamp (entryAt a)) (a - journalBase)

/-- A master's write into the journal region damages the entries whose bytes it changes. -/
def journalWrite (a : Nat) (b : List Byte) (s : State) : State :=
  let at' := (List.range b.length).map (a + ·)
  let hit := at'.filterMap fun x => if journalSeen s x = b.getD (x - a) 0 then none else some (entryAt x)
  let t := s.txn
  { s with txn := { t with damaged := t.damaged ++ hit.filter (fun e => !t.damaged.contains e),
                           written := t.written ++ at'.filter (fun x => !t.written.contains x) } }

/-- The number that a master reads: what memory holds, or what the journal region shows. -/
def seenNat (s : State) (a n : Nat) : Nat :=
  if inJournal a then leNat ((List.range n).map fun i => journalSeen s (a + i)) else memNat s a n

/-- The byte that a reader of memory sees. -/
def seenByte (s : State) (a : Nat) : Byte := if inJournal a then journalSeen s a else memByte s a

/-- The bytes that a reader of memory sees. -/
def seenBytes (s : State) (a n : Nat) : List Byte :=
  if a + n ≤ journalBase ∨ journalBase + 0x100_0000 ≤ a then memBytes s a n
  else (List.range n).map fun i => seenByte s (a + i)

/-- What a write by a master does to the units that watch memory: the delta, the code region, the journal and the ledgers. -/
def watchWrite (m : Master) (a : Nat) (b : List Byte) (locs : List Nat) (s : State) : State :=
  let e := a + b.length
  let s := watchDelta a b.length s
  let code := decide (a < codeBase s + 2 ^ 26 ∧ codeBase s < e)
  let s := when (code && m ≠ .m0) specDiscard s
  let s := when (inJournal a) (journalWrite a b) s
  let s := when (code && !locs.isEmpty) (codeHit (a / 64)) s
  forAll locs (fun s l => specHit l false s) (when (!locs.isEmpty) (noteCheck (m = .m0)) s)

/-! Dirty pages (R224, R225). -/

/-- What 30 years of even wear allow at a powered second, times 946,728,000 (R224). -/
def enduranceNum (s : State) : Nat := 10 ^ 15 * s.mm.ptime + 2 ^ 36 * 946728000

/-- WRITTEN exceeds rate × PTIME + 64 GiB (RET.BUDGET.AHEAD). -/
def ahead (s : State) : Bool := decide (enduranceNum s < s.mm.written * 946728000)

/-- The governor lets RET clean a cold page: WRITTEN lies below what it allows (R224). -/
def governed (s : State) : Bool := decide (s.mm.written * 946728000 < enduranceNum s)

/-- ENDURANCE_AHEAD is raised when AHEAD becomes 1 (R239). -/
def judgeWear (was : Bool) (s : State) : State := if ahead s && !was then raise 0x0712 0 s else s

/-- Copies a page to retention flash and makes it clean. -/
def cleanPage (p : Nat) (s : State) : State :=
  let lo := p * 4096
  let inP (a : Nat) : Bool := lo ≤ a && a < lo + 4096
  let outP (a : Nat) : Bool := !inP a
  let fl := s.mm.flash.filter (fun q => q.1 < lo) ++ s.mem.filter (fun q => inP q.1) ++
    s.mm.flash.filter (fun q => lo + 4096 ≤ q.1)
  let fe := s.mm.flashEcc.filter (fun q => outP q.1 && q.1 < lo) ++ s.ecc.filter (fun q => inP q.1) ++
    s.mm.flashEcc.filter (fun q => lo + 4096 ≤ q.1)
  judgeWear (ahead s) (judgeForced { s with mm := { s.mm with flash := fl, flashEcc := fe, dirty := alDel s.mm.dirty p,
                                                                written := s.mm.written + 4096 } })

/-- A write to a clean page while dirty bytes equal LIMIT waits until the page written longest ago has been cleaned (R225). (Log 40, DEDUCED.) -/
def awaitPage (a : Nat) (s : State) : State :=
  if isDirty s (a / 4096) || inImageCopy (a / 4096) || s.mm.dirty.length < limitPages s then s
  else
    let s := bump s Reg.RET_STALLCNT 31 0
    let s := if s.mm.stalled then s else raise 0x0710 0 { s with mm := { s.mm with stalled := true } }
    match s.mm.dirty with
    | (p, _) :: _ => cleanPage p s
    | [] => s

/-! SECDED (R216, R217). -/

/-- A write of a whole structure by a master: it waits, page by page, while dirty bytes equal LIMIT (R225). `fuel` bounds the
number of its pages. -/
def storePages (m : Master) : Nat → Nat → List Byte → State → State
  | 0, _, _, s => s
  | fuel + 1, a, b, s =>
    let n := 4096 - a % 4096
    if b.isEmpty then s
    else storePages m fuel (a + n) (b.drop n) (storeWhole (BitVec.ofNat 4 (Master.num m)) a (b.take n) (awaitPage a s))

/-- A write of a whole structure by a master, which the undo log does not cover. -/
def masterStore (m : Master) (a : Nat) (b : List Byte) (s : State) : State := storePages m (b.length / 4096 + 2) a b s

/-- A single-bit error is corrected in the data and in the stored word (R216, R239). -/
def corrected (a : Nat) (mas : BitVec 4) (s : State) : State :=
  let s := errAddr a false (bump (putEcc s a .good) Reg.MEM_CECNT 31 0)
  let due := match s.mm.corrAt with
    | some r => decide (r + 400000000 ≤ powered s)
    | none => true
  if due then report 0x0701 0 mas { s with mm := { s.mm with corrAt := some (powered s) } } else s

/-- The master's number as FLT.HEAD_CODE.MASTER shows it. -/
def masNib (m : Master) : BitVec 4 := BitVec.ofNat 4 (Master.num m)

/-- A checked read of up to 8 bytes inside one 8-byte word; none when the word is uncorrectable. -/
def memLoad (mas : BitVec 4) (a n : Nat) (s : State) : Option Nat × State :=
  match eccAt s a with
  | .double => (none, foundBad a 0x0702 mas s)
  | .single _ => (some (seenNat s a n), corrected a mas s)
  | .good => (some (seenNat s a n), s)

/-! The undo log (R220 to R223). -/

/-- The words the log covers: working memory but the journal, and the MX and MW regions. -/
def logged (a : Nat) : Bool :=
  (inWorking a && !inJournal a) || inMarkers a

/-- How many entries the log holds. -/
def undoMax : Nat := 4194304

/-- MEM.UNDOBASE: the log lies in the 64 MiB of working memory that begin there (R222). -/
def undoBase (s : State) : Nat := fld s Reg.MEM_UNDOBASE_LO 31 26 * 2 ^ 26 + fld s Reg.MEM_UNDOBASE_HI 0 0 * 2 ^ 32

/-- The address lies in the region of the undo log. -/
def inUndo (s : State) (a : Nat) : Bool := undoBase s ≤ a && a < undoBase s + 2 ^ 26

/-- MEM writes an entry of 16 bytes into the log's region, where the manual gives it no layout. (Log 34, DEDUCED.) -/
def undoStore (s : State) : State :=
  let a := undoBase s + 16 * s.mm.undo.length
  let (f, s) := takeFree s
  let (g, s) := takeFree s
  storeRaw a (leBytes 8 f.toNat ++ leBytes 8 g.toNat) s

/-- A write by M0 that would need an entry beyond the last one (R222). -/
def undoFull (a : Nat) (s : State) : Bool :=
  logged a && !(s.mm.undo.any fun u => u.addr = a / 8 * 8) && undoMax ≤ s.mm.undo.length

/-- Logs the first write by M0 to a word, and drops the entry of a word that another master writes (R220, R221). (Log 34, DEDUCED.) -/
def undoLog (m : Master) (a : Nat) (s : State) : State :=
  let w := a / 8 * 8
  if !logged a then s
  else if m = .m0 then
    if s.mm.undo.any fun u => u.addr = w then s
    else
      let old := if eccAt s w = .double then none else some (memBytes s w 8)
      let s := undoStore s
      let s := { s with mm := { s.mm with undo := { addr := w, old := old } :: s.mm.undo } }
      putFld s Reg.MEM_UNDOPEAK 22 0 (max (fld s Reg.MEM_UNDOPEAK 22 0) s.mm.undo.length)
  else { s with mm := { s.mm with undo := s.mm.undo.filter fun u => u.addr ≠ w } }

/-- An armed injection corrupts the next 8-byte word that its master writes to working memory (R237). -/
def applyInject (m : Master) (a n : Nat) (s : State) : State :=
  match alGet s.mm.inject (Master.num m) with
  | some v =>
    if n = 8 ∧ inWorking a then
      let s := putEcc { s with mm := { s.mm with inject := alDel s.mm.inject (Master.num m) } } a
        (if v.getLsbD 8 then .double else .single (bits v.toNat 5 0))
      when (v.getLsbD 8) (wordLost a) s
    else s
  | none => s

/-- A write by a master of up to 8 bytes inside one word of memory that carries SECDED, with the ledger locations that it
writes. False: an error response. -/
def memStoreAt (m : Master) (a : Nat) (b : List Byte) (locs : List Nat) (s : State) : Bool × State :=
  if eccAt s a = .double ∧ b.length < 8 then (false, foundBad a 0x0702 (masNib m) s)
  else if m = .m0 ∧ undoFull a s then (true, raise 0x0714 2 s)
  else
    let s := watchWrite m a b locs (undoLog m a (awaitPage a s))
    (true, applyInject m a b.length (storeRaw a b s))

/-- A write by a master that names bytes. -/
def memStore (m : Master) (a : Nat) (b : List Byte) (s : State) : Bool × State := memStoreAt m a b (locsOf a b.length) s

/-- Writes back the log's old contents, newest first, and empties it (R223). -/
def rollback (s : State) : State :=
  let s := s.mm.undo.foldl (fun s u =>
    match u.old with
    | some b => storeRaw u.addr b s
    | none => refreshKnown (putEcc { s with mm := { s.mm with known := u.addr :: s.mm.known.filter (· ≠ u.addr) } } u.addr .double)) s
  { s with mm := { s.mm with undo := [] } }

/-- A read of a whole structure by a unit; none when a word of it is uncorrectable. -/
def unitLoad (a n : Nat) (s : State) : Option (List Byte) :=
  if s.ecc.any fun p => p.2 = .double && p.1 < a + n && a < p.1 + 8 then none else some (memBytes s a n)

end Sys2Proof.Machine
end

