-- ==== Sys2Proof/Machine/WardOps.lean ====
section
/-! DEFINITION. The ward's period, check-ins, freeze and writes (R358 to R370), and the advance of time. -/

namespace Sys2Proof.Machine

/-! Periods (R358, R359). -/

/-- c, the position in the current period. (Log 107, DEDUCED.) -/
def wardPos (s : State) : Nat := fld s Reg.WARD_STAT 31 8

def putPos (c : Nat) (s : State) : State := putFld s Reg.WARD_STAT 31 8 c

/-- The current period is an opening period. -/
def opening (s : State) : Bool := flag s Reg.WARD_STAT 6

/-- WARD.STAT.REASON: 0 START, 1 RECOVERY, 2 TEST, 3 STOP. -/
def wardReason (s : State) : Nat := fld s Reg.WARD_STAT 5 4

/-- Begins a period: the settings written since the last one take effect, and PCNT advances. -/
def newPeriod (op : Bool) (s : State) : State :=
  let s := putNat s Reg.WARD_PCNT (regNat s Reg.WARD_PCNT + 1)
  let s := putFlag (putPos 0 (putNat s Reg.WARD_DONE 0)) Reg.WARD_STAT 6 op
  { s with ward := { s.ward with enrol := getReg s Reg.WARD_ENROL, period := regNat s Reg.WARD_PERIOD,
                                 wopen := regNat s Reg.WARD_WOPEN, prewarn := regNat s Reg.WARD_PREWARN,
                                 served := false, warned := false } }

/-- Enters WINDOW with a reason and a new opening period. -/
def enterWindow (reason : Nat) (s : State) : State :=
  newPeriod true (putFld (putFld s Reg.WARD_STAT 2 0 2) Reg.WARD_STAT 5 4 reason)

/-- The ward counts: NORMAL or WINDOW, and BOOT has ended (R434). -/
def wardCounts (s : State) : Bool := s.ward.counting && (wardState s = 1 || wardState s = 2)

/-- `n` ward ticks pass; a served period gives way to the next one at the first of them, and c stops at PERIOD. -/
def wardTicks (n : Nat) (s : State) : State :=
  if n = 0 || !wardCounts s then s
  else if s.ward.served then
    let s := newPeriod false s
    putPos (min s.ward.period (n - 1)) s
  else putPos (min s.ward.period (wardPos s + n)) s

/-- The heartbeat slots of 12.5 µs that end between two raw counts without a heartbeat received in them, on a PAIR module
(R171). (Log 65, DEDUCED.) -/
def missedSlots (r : Nat) (s : State) : Nat :=
  let n := crossings 5000 s.raw r
  if haspState s = 0 then 0
  else match s.hasp.lastHb with
    | some (l, _) => if s.raw / 5000 * 5000 ≤ l then n - 1 else n
    | none => n

/-- Time advances to a raw count: the missed heartbeat slots, the counter, the ward's ticks of 400 cycles, the powered seconds, the operating time in
1/1024 s and the drain of the mirror queue over the hasp lanes that are up. -/
def advanceTo (r : Nat) (s : State) : State :=
  if r ≤ s.raw then s
  else
    let drain := (r - s.raw) * 5 * (fld s Reg.HASP_STAT 16 16 + fld s Reg.HASP_STAT 17 17) / 8
    let k := missedSlots r s
    let s' := wardTicks (crossings 400 s.raw r) (if k = 0 then s else bumpBy s Reg.HASP_HBMISS 15 0 k)
    { s' with raw := r,
              mm := { s'.mm with ptime := s'.mm.ptime + crossings 400000000 (powered s) (s.mm.base + r) },
              pst := { s'.pst with optime := s'.pst.optime + crossings 390625 s.raw r },
              hasp := { s'.hasp with mirrorQ := s'.hasp.mirrorQ - drain } }

/-- Time advances to the first raw count at which device time is at or above `t`. -/
def advanceToTime (t : Nat) (s : State) : State := advanceTo (rawAt s t) s

/-! Freeze and thaw (R367). -/

/-- The module's HASP state freezes the ward. -/
def haspFreezes (s : State) : Bool := haspState s = 3 || haspState s = 5

/-- A condition of R367 whose thaw begins a new period. -/
def freezeAnew (s : State) : Bool :=
  (curMode s = modeStop && !flag s Reg.WARD_CFG 4) || haspFreezes s

/-- A condition of R367 holds. -/
def freezes (s : State) : Bool := s.leaf.dbgHalt || curMode s = modeHold || freezeAnew s

/-- Freezes or thaws the ward as the conditions of R367 now stand. -/
def wardRefresh (s : State) : State :=
  let st := wardState s
  if st = 1 || st = 2 then
    if freezes s then
      putFld { s with ward := { s.ward with heldState := st, heldBegin := freezeAnew s } } Reg.WARD_STAT 2 0 3
    else s
  else if st = 3 then
    if freezes s then { s with ward := { s.ward with heldBegin := s.ward.heldBegin || freezeAnew s } }
    else if s.ward.heldBegin then enterWindow 0 s
    else putFld s Reg.WARD_STAT 2 0 s.ward.heldState
  else s

/-- What the ward does at a change of FRM.MODE.CUR, once the register shows the new mode (R363, R367). -/
def wardMode (s : State) : State :=
  let s := wardRefresh s
  if curMode s = modeStop && flag s Reg.WARD_CFG 4 then
    if wardState s = 1 then
      putFlag (putFld (putFld s Reg.WARD_STAT 2 0 2) Reg.WARD_STAT 5 4 3) Reg.WARD_STAT 6 true
    else if wardState s = 2 then putFld s Reg.WARD_STAT 5 4 3
    else s
  else if curMode s = modeRun && wardState s = 2 && wardReason s = 3 then putFld s Reg.WARD_STAT 5 4 0
  else s

/-! Check-ins (R360 to R365). -/

/-- The class of a failure (WARD.CFG.XCLASS). -/
def wardClass (s : State) : Nat := 2 + fld s Reg.WARD_CFG 0 0

/-- An accepted check-in; the last enrolled slot serves the period, and a windowed one served in RUN enters NORMAL. -/
def acceptCheckin (slot : Nat) (s : State) : State :=
  let s := putFlag s Reg.WARD_DONE slot true
  if getReg s Reg.WARD_DONE &&& s.ward.enrol = s.ward.enrol then
    let s := { s with ward := { s.ward with served := true } }
    if wardState s = 2 && !opening s && wardReason s < 2 && curMode s = modeRun then putFld s Reg.WARD_STAT 2 0 1 else s
  else s

/-- A check-in by a master, judged by the first row of R360 that holds. -/
def checkIn (m : Master) (slot count : Nat) (s : State) : State :=
  let st := wardState s
  if st = 0 || st = 3 || st = 4 then s
  else if st = 1 && m ≠ .m0 then raiseBy m 0x4005 1 (bump s Reg.WARD_DIAGCNT 23 16)
  else if !s.ward.enrol.getLsbD slot then raiseBy m 0x4007 0 s
  else if st = 2 && !opening s && wardPos s < s.ward.wopen then
    raiseBy m 0x4002 (wardClass s) (bump s Reg.WARD_DIAGCNT 7 0)
  else if s.ward.period ≤ wardPos s then s
  else if count ≠ regNat s Reg.WARD_PCNT % 256 then raiseBy m 0x4006 0 (bump s Reg.WARD_DIAGCNT 15 8)
  else if flag s Reg.WARD_DONE slot then
    let s := bump s Reg.WARD_DIAGCNT 31 24
    if flag s Reg.WARD_CFG 2 then raiseBy m 0x4004 1 s else s
  else acceptCheckin slot s

/-- The period expires: the missing slots are recorded, and the failure is raised (R359, R361). -/
def wardExpire (s : State) : State :=
  let s := putReg s Reg.WARD_MISSED (s.ward.enrol &&& ~~~ getReg s Reg.WARD_DONE)
  raise 0x4001 (wardClass s) (bump s Reg.WARD_DIAGCNT 7 0)

/-! Writes to the WARD registers (R368, R369). The Bool says whether the write is accepted. -/

/-- An action of F2 or F3 is in progress. -/
def inAction (s : State) : Bool := flag s Reg.FLT_STAT 0 || flag s Reg.FLT_STAT 1

/-- No step of the disable sequence stands. -/
def breakKey (s : State) : State := { s with ward := { s.ward with key := none } }

/-- A key byte written by a master (R369). -/
def wardKeyWrite (m : Master) (b : Nat) (s : State) : State :=
  let k := match s.ward.key with
    | some (1, m', r) => if b = 0xC3 ∧ m' = m ∧ s.raw ≤ r + 64 then some (2, m, s.raw) else none
    | _ => none
  let k := if k.isNone && b = 0x3C then some (1, m, s.raw) else k
  { s with ward := { s.ward with key := k } }

/-- The disable sequence is complete at this write (R369). -/
def keyComplete (m : Master) (s : State) : Bool :=
  match s.ward.key with
  | some (2, m', r) => m' = m && s.raw ≤ r + 64 && !flag s Reg.WARD_LOCK 0
  | _ => false

/-- WARD.CMD (R363, R369). -/
def wardCommand (m : Master) (op : Nat) (s : State) : Bool × State :=
  let s' := breakKey s
  match op with
  | 0 => (true, s')
  | 1 => if keyComplete m s then (true, raiseBy m 0x4008 0 (putFld s' Reg.WARD_STAT 2 0 0)) else (false, s')
  | 2 => if wardState s = 0 then (true, if inAction s then putFld s' Reg.WARD_STAT 2 0 4 else wardRefresh (enterWindow 0 s'))
    else (false, s')
  | 3 =>
    if wardState s = 1 then
      (true, putFlag (putFld (putFld s' Reg.WARD_STAT 2 0 2) Reg.WARD_STAT 5 4 2) Reg.WARD_STAT 6 true)
    else if wardState s = 2 then (true, putFld s' Reg.WARD_STAT 5 4 2)
    else (false, s')
  | 4 => if wardState s = 2 ∧ wardReason s = 2 then (true, newPeriod false (putFld s' Reg.WARD_STAT 2 0 1)) else (false, s')
  | _ => (false, s')

/-- A write of `v` to the WARD register at `o`. -/
def wardWrite (m : Master) (o v : Nat) (s : State) : Bool × State :=
  let s' := breakKey s
  let locked := flag s Reg.WARD_LOCK 0
  let t := v % 2 ^ 24
  if o = Reg.WARD_CFG then if locked then (false, s') else (true, wardRefresh (putNat s' o (v &&& 0x1D)))
  else if o = Reg.WARD_ENROL then if locked || v = 0 then (false, s') else (true, putNat s' o v)
  else if o = Reg.WARD_PERIOD then
    if t ≤ regNat s Reg.WARD_WOPEN || t ≤ regNat s Reg.WARD_PREWARN ||
        (flag s Reg.WARD_CFG 3 && wardPos s < s.ward.wopen) then (false, s')
    else (true, putNat s' o t)
  else if o = Reg.WARD_WOPEN || o = Reg.WARD_PREWARN then
    if regNat s Reg.WARD_PERIOD ≤ t then (false, s') else (true, putNat s' o t)
  else if o = Reg.WARD_CHECKIN then (true, checkIn m (bits v 12 8) (bits v 7 0) s')
  else if o = Reg.WARD_KEY then (true, wardKeyWrite m (v % 256) s)
  else if o = Reg.WARD_CMD then wardCommand m (v % 8) s
  else if o = Reg.WARD_LOCK then (true, if v % 2 = 1 then putFlag s' o 0 true else s')
  else if o = Reg.WARD_CTRCLR then (true, if v % 2 = 1 then putNat s' Reg.WARD_DIAGCNT 0 else s')
  else (false, s')

end Sys2Proof.Machine
end

