-- ==== Sys2Proof/Machine/Task.lean ====
section
/-! DEFINITION. Task instances: their points, their release, the order in which they run, the processing of run-ahead work
when one is taken up, and the triggers of event tasks (R61 to R71, R79, R133 to R135, R470). -/

namespace Sys2Proof.Machine

/-! Tasks: cyclic n is numbered n, event e is 32 + e. -/

def isEvent (t : Nat) : Bool := 32 ≤ t

/-- TASKCFG or EVTCFG of a task. -/
def taskCfg (t : Nat) : Nat := if isEvent t then Reg.FRM_EVTCFG (t - 32) else Reg.FRM_TASKCFG t

/-- TASKSTAT or EVTSTAT of a task. -/
def taskStat (t : Nat) : Nat := if isEvent t then Reg.FRM_EVTSTAT (t - 32) else Reg.FRM_TASKSTAT t

def taskPrio (s : State) (t : Nat) : Nat := fld s (taskCfg t) 28 24

/-- POLICY: true STOP, false ABANDON. -/
def taskStop (s : State) (t : Nat) : Bool := flag s (taskCfg t) 30

def taskEn (s : State) (t : Nat) : Bool := flag s (taskCfg t) 31

def getInst (s : State) (t : Nat) : Option Inst := alGet s.frm.insts t

def putInst (t : Nat) (i : Inst) (s : State) : State := { s with frm := { s.frm with insts := alPut s.frm.insts t i } }

def dropInst (t : Nat) (s : State) : State := { s with frm := { s.frm with insts := alDel s.frm.insts t } }

/-! Points of an instance (R69 to R71). -/

/-- A committed write of QX or QW in the instance's buffer: the latest write of each point, in first-write order. -/
def bufPut (q : List (Nat × Word)) (k : Nat) (v : Word) : List (Nat × Word) :=
  if q.any fun p => p.1 = k then q.map fun p => if p.1 = k then (k, v) else p else q ++ [(k, v)]

/-- A write of a point by a non-speculative instruction or a replay; false is an error response. -/
def pointWrite (t : Nat) (k : Nat) (v : Word) (locs : List Nat) (s : State) : Bool × State :=
  if pcls k = clsQX || pcls k = clsQW then
    match getInst s t with
    | some i => (true, putInst t { i with qw := bufPut i.qw k v } s)
    | none => (true, s)
  else
    let (a, b) := pointBytes s k v
    memStoreAt .m0 a b locs s

/-- A read of a point by an instance (R69, R70); none is an error response. -/
def pointRead (t : Nat) (k : Nat) (s : State) : Option Word × State :=
  match getInst s t with
  | none => (some 0, s)
  | some i =>
    let c := pcls k
    if c = clsIX || c = clsIW then (some (imgGet i.img k), s)
    else if c = clsQX || c = clsQW then (some ((alGet i.qw k).getD (imgGet i.outImg k)), s)
    else
      let (r, s') := memLoad 0 (pointAddr k) (if isBitCls c then 1 else 4) s
      (r.map fun v => BitVec.ofNat 32 (if isBitCls c then bits v (pidx k % 8) (pidx k % 8) else v), s')

/-! What an instance that stops executing leaves. -/

/-- The units of 10 ns that have passed since the tick of an instance's release frame, at most: no instance executed longer. -/
def runBound (s : State) (i : Inst) : Nat := min (2 ^ 32 - 1) ((fnum s + 1 - i.ctx.relFrame) * (frameNs s / 10))

/-- The time that an instance has executed, 0 for one that never started; the manual bounds it, and the value is free
(FRM.TASKRUN, R84). (Log 24, DESIGN CHOICE.) -/
def runTime (t : Nat) (s : State) : Nat × State :=
  match getInst s t with
  | some i =>
    if i.started then
      let (f, s) := takeFree s
      (f.toNat % (runBound s i + 1), s)
    else (0, s)
  | none => (0, s)

/-- TASKRUN and TASKMAX of a cyclic task whose instance has stopped executing (R84). -/
def noteRun (t : Nat) (s : State) : State :=
  let (v, s) := runTime t s
  if isEvent t then s
  else
    let s := putNat s (Reg.FRM_TASKRUN t) v
    putNat s (Reg.FRM_TASKMAX t) (max (regNat s (Reg.FRM_TASKMAX t)) v)

/-- A primary's POSITION record (R172). -/
def sendPos (s : State) : State := if haspState s = 2 then sendRec "POSITION" s else s

/-! Run-ahead work taken up (R133 to R135). -/

/-- The causes of SPEC.CAUSE. -/
def causeInput : Nat := 0
def causeWrite : Nat := 1
def causeEntry : Nat := 2
def causeOverflow : Nat := 3
def causeLate : Nat := 4
def causeCost : Nat := 5

/-- The retire cost of a segment in cycles. -/
def retireCost (g : Seg) : Nat := 8 + (g.writes.length + 3) / 4

/-- Counts `n` segments of a task replayed or discarded for a cause. -/
def countReplay (t c n : Nat) (s : State) : State :=
  let s := bumpBy s (Reg.SPEC_CAUSE c) 31 0 n
  let s := putPair s Reg.SPEC_REPLAYED_LO (pair s Reg.SPEC_REPLAYED_LO + n)
  let (a, b) := (alGet s.spec.perTask t).getD (0, 0)
  { s with spec := { s.spec with replayed := s.spec.replayed + n, perTask := alPut s.spec.perTask t (a, b + n) } }

/-- Lands a buffered write: a point by key with size 0, memory by address. No write ends in an error response here: a segment
that would write a part of an uncorrectable word is replayed. (Log 159, DEDUCED.) -/
def landWrite (t : Nat) (w : Nat × DWord × Nat) (s : State) : State :=
  if w.2.2 = 0 then (pointWrite t w.1 (w.2.1.truncate 32) [] s).2
  else (memStoreAt .m0 w.1 (leBytes w.2.2 w.2.1.toNat) [] s).2

/-- Lands the buffered writes of a segment in program order (R134), up to one that the undo log has no entry for (R222). -/
def landWrites (t : Nat) : List (Nat × DWord × Nat) → State → State
  | [], s => s
  | w :: r, s =>
    if undoFull (if w.2.2 = 0 then pointAddr w.1 else w.1) s then landWrite t w s else landWrites t r (landWrite t w s)

/-- The instance of task `t` has ended in a segment that retired. -/
def endRetired (t : Nat) (s : State) : State := noteRun t (sendPos s)

/-- Retires a segment (R134). -/
def retireSeg (t : Nat) (g : Seg) (s : State) : State :=
  let s := landWrites t g.writes s
  let s := match getInst s t with
    | some i => putInst t { i with ctx := { g.exitCtx with emits := i.ctx.emits }, started := true,
                                   st := if g.ended then .ended else i.st, count := i.count + g.instrs } s
    | none => s
  let s := when g.ended (endRetired t) s
  let s := putPair s Reg.SPEC_RETIRED_LO (pair s Reg.SPEC_RETIRED_LO + 1)
  { s with spec := { s.spec with retired := s.spec.retired + 1, saved := s.spec.saved + (g.budget - retireCost g) } }

/-- The registers of the instance and of the segment's entry agree. -/
def sameState (i : Inst) (g : Seg) : Bool := i.ctx = g.entry

/-- Whether the verdict of a hit-free segment is ready when the instance is taken up: R132 bounds the check by 2 µs after a
change and by 8 leaf cycles after a write, and does not say when inside the bound it completes. (Log 57, DESIGN CHOICE.) -/
def verdictReady (s : State) : Bool × State :=
  let (b, s) := takeFree s
  (b.getLsbD 0, s)

/-- A verdict may not be ready: a change or a write falls inside the last 2 µs, 800 raw counts, or one by the leaves inside the
last 8 leaf cycles, which end before the fourth raw count (R132). -/
def recentChange (s : State) : Bool :=
  let within (at' : Option Nat) (n : Nat) : Bool := match at' with
    | some r => s.raw < r + n
    | none => false
  within s.spec.lastChange 800 || within s.spec.lastWrite 4

/-- The buffered writes of segments are dropped: a segment that read one of them from the leaf's buffer has read what may never
be written (R133, R136). (Log 160, DEDUCED.) -/
def dropWrites (l : List Seg) (s : State) : State :=
  forAll (l.flatMap (·.writes)) (fun s w => specHit (if w.2.2 = 0 then w.1 else 2 ^ 21 + w.1 / 64) false s) s

/-- The work of an instance has been processed. -/
def endWork (t : Nat) (s : State) : State :=
  { s with spec := { s.spec with work := s.spec.work.filter fun w => w.tid ≠ t } }

/-- The position that an item names: the frame, the task and the count. -/
def itemAt : PosItem → Nat × Nat × Nat
  | .pos q => (q.frame, q.tid, q.count)
  | .write q => (q.frame, q.tid, q.count)

/-- A standby knows that no program position of task `t` lies inside the next `n` instructions after the first `c`: no item
that waits does, and the records, which come in order, have gone past them. It retires no segment before that. (Log 163,
DEDUCED.) -/
def pastPositions (s : State) (t c n : Nat) : Bool :=
  let mine := (s.hasp.posQ.map itemAt).filter fun p => p.1 ≤ fnum s && p.2.1 = t
  haspState s ≠ 4 ||
    (mine.all (fun p => c + n ≤ p.2.2) &&
      (!mine.isEmpty || s.hasp.shadow.any fun w => w.frame = fnum s && w.cc.isSome))

/-- Processes the closed segments of the instance from `l`, in program order; `prev` says that the one before was replayed.
A replay ends the processing here: SEG and END take it up again. -/
def processSegs (t : Nat) : List Seg → Bool → State → State
  | [], _, s => endWork t s
  | g :: r, prev, s =>
    match getInst s t with
    | none => endWork t s
    | some i =>
      if prev && (i.ctx.pc ≠ g.entry.pc || i.st = .ended) then
        dropWrites (g :: r) (endWork t (countReplay t causeEntry (r.length + 1) s))
      else
        let (ready, s) := if recentChange s then verdictReady s else (true, s)
        let c : Option Nat :=
          if g.overflow then some causeOverflow
          else if g.hitInput then some causeInput
          else if g.hitWrite then some causeWrite
          else if prev && !sameState i g then some causeEntry
          else if !ready || !pastPositions s t i.count g.instrs then some causeLate
          else if min g.budget 1024 < retireCost g then some causeCost
          else none
        match c with
        | none => processSegs t r false (retireSeg t g s)
        | some c =>
          let s := countReplay t c 1 s
          let upd (w : Work) : Work := if w.tid = t then { w with segs := r, prevReplayed := true } else w
          setReplaying (some t) (dropWrites [g] { s with spec := { s.spec with work := s.spec.work.map upd } })

/-- Takes up the run-ahead work of an instance that begins non-speculative execution, or whose replay has ended: the segments
that closed before IC of this frame (R133, R138). -/
def takeUp (t : Nat) (s : State) : State :=
  match s.spec.work.find? fun w => w.tid = t && s.spec.frame = some (fnum s) with
  | some w => processSegs t w.segs w.prevReplayed (setReplaying none s)
  | none => s

/-! The order of execution (R66, R67). -/

/-- The instance can execute. -/
def isReady (i : Inst) : Bool := i.st = .ready || i.st = .running

/-- Instance `a` comes before `b` in the order of R66. -/
def runsBefore (s : State) (a b : Nat × Inst) : Bool :=
  let pa := taskPrio s a.1
  let pb := taskPrio s b.1
  pa < pb || (pa = pb && (a.2.relTime < b.2.relTime || (a.2.relTime = b.2.relTime &&
    ((isEvent a.1 && !isEvent b.1) || (isEvent a.1 = isEvent b.1 && a.1 < b.1)))))

/-- The first of a list in an order. -/
def firstOf {α : Type} (lt : α → α → Bool) : List α → Option α
  | [] => none
  | a :: r =>
    match firstOf lt r with
    | some b => some (if lt b a then b else a)
    | none => some a

/-- The leaves execute now: the compute phase of a frame in RUN, with no halt. -/
def leavesRun (s : State) : Bool :=
  s.frm.compute && !s.leaf.actHalt && !s.leaf.dbgHalt && curMode s = modeRun

/-- The running instance finishes its RPTU before anything preempts it (R67). -/
def inRptu (i : Inst) : Bool :=
  match i.ctx.rep with
  | some r => r.unint
  | none => false

/-- Gives the leaves to an instance; a replay that was preempted or suspended goes on (R135). -/
def startInst (t : Nat) (i : Inst) (s : State) : State :=
  let s := if i.started then sendPos s else s
  let s := putInst t { i with st := .running, started := true } s
  let s := { s with frm := { s.frm with running := some t } }
  if s.spec.work.any fun w => w.tid = t && w.prevReplayed then setReplaying (some t) s
  else takeUp t s

/-- Chooses what the leaves execute: nothing preempts at equal priority, and nothing inside an RPTU. An instance that ends
while its run-ahead work is processed gives the leaves to the next; `fuel` counts the instances. -/
def scheduleN : Nat → State → State
  | 0, s => s
  | n + 1, s =>
    if !leavesRun s then s
    else
      match firstOf (runsBefore s) (s.frm.insts.filter fun p => isReady p.2) with
      | none => { s with frm := { s.frm with running := none } }
      | some (t, i) =>
        match s.frm.running.bind fun u => (getInst s u).map fun j => (u, j) with
        | some (u, j) =>
          if j.st = .running && (u = t || inRptu j || taskPrio s u ≤ taskPrio s t) then s
          else
            let s := if j.st = .running then sendPos (putInst u { j with st := .ready } s) else s
            scheduleN n (startInst t i (setReplaying none s))
        | none => scheduleN n (startInst t i s)

def schedule (s : State) : State := scheduleN 49 s

/-! Releases (R61, R88, R470). -/

/-- A release finds no entry in the task table: NO_ENTRY once since the table changed (R470). -/
def noEntry (t : Nat) (s : State) : State :=
  if s.frm.noEntry.contains t then s
  else raise 0x0331 0 { s with frm := { s.frm with noEntry := t :: s.frm.noEntry } }

/-- The instance that a release makes: the context of R88. -/
def newInst (s : State) (entry relFrame deadline relTime : Nat) (frozen : Bool) : Inst :=
  { ctx := { pc := entry, relFrame := relFrame }, deadline := deadline, relTime := relTime,
    relT0 := tickAt s relFrame, frozen := frozen,
    img := if frozen then s.frm.inImg else [], outImg := if frozen then s.frm.last else [] }

/-- Releases task `t` in frame `n` with a deadline frame. -/
def releaseTask (t n deadline relTime : Nat) (frozen : Bool) (s : State) : State :=
  match alGet s.frm.tasks t with
  | some e => sendPos (putInst t (newInst s e n deadline relTime frozen) s)
  | none => noEntry t s

/-- Adds one to a cyclic task's SKIP. -/
def bumpSkip (t : Nat) (s : State) : State := bump s (Reg.FRM_TASKSTAT t) 15 8

/-- A cyclic task is due in frame `n` (R61). -/
def cyclicDue (s : State) (t n : Nat) : Bool :=
  let per := fld s (Reg.FRM_TASKCFG t) 20 10
  taskEn s t && decide (((n : Int) - fld s (Reg.FRM_TASKCFG t) 9 0) % per = 0)

/-- The cyclic release of task `t` at T0(n) (R61, R76, R470). -/
def cyclicRelease (n : Nat) (s : State) (t : Nat) : State :=
  if !cyclicDue s t n then s
  else if curMode s = modeHold then
    let s := bumpSkip t s
    if s.frm.holdSkipped then s else raise 0x0330 0 { s with frm := { s.frm with holdSkipped := true } }
  else if curMode s = modeRun then
    if (alGet s.frm.tasks t).isNone then noEntry t (bumpSkip t s)
    else if (getInst s t).isSome then raise 0x0332 0 (bumpSkip t s)
    else releaseTask t n (n + fld s (Reg.FRM_TASKCFG t) 20 10 - 1) (tickAt s n) false s
  else s

/-! Triggers (R62, R63, R79). -/

/-- Adds to a task's MERGED. -/
def bumpMerged (t n : Nat) (s : State) : State := bumpBy s (Reg.FRM_EVTSTAT (t - 32)) 15 8 n

/-- A trigger merges into the pending flag, or sets it. -/
def setPend (t : Nat) (s : State) : State :=
  if s.frm.pend.contains t then bumpMerged t 1 s else { s with frm := { s.frm with pend := t :: s.frm.pend } }

/-- The frame that begins at the switch tick of a change of period that waits, and the new period in ns (R55). -/
def switchAhead (s : State) : Option (Nat × Nat) :=
  s.frm.switchTo.bind fun k =>
    (((List.range 161).map (fnum s + 1 + ·)).find? fun m => tickAt s m % (k * 62500) = 0).map fun m => (m, k * 62500)

/-- F of frame `f`, in ns: behind the switch tick of a change of period that waits, the new one (R55). -/
def periodOf (s : State) (f : Nat) : Nat :=
  match switchAhead s with
  | some (w, p) => if w ≤ f then p else frameNs s
  | none => frameNs s

/-- The frame that a trigger of event task `t` at instant `at'` falls in (R62); frames behind a switch tick have the new
period (R55). -/
def triggerFrame (s : State) (t at' : Nat) : Nat :=
  let x := at' + fld s (Reg.FRM_EVTRES (t - 32)) 19 0 * 10
  let n := fnum s
  if x < ccAt s n then n
  else
    let m := n + (x - ccAt s n) / frameNs s + 1
    match switchAhead s with
    | some (w, f) => if m < w then m else if x < ccAt s w then w else w + (x - ccAt s w) / f + 1
    | none => m

/-- Releases an event task in frame `n`: at once inside the compute phase, else at IC(n). -/
def eventRelease (t n at' : Nat) (s : State) : State :=
  if (alGet s.frm.tasks t).isNone then noEntry t s
  else if n = fnum s && s.frm.compute then
    schedule (releaseTask t n (n + fld s (Reg.FRM_EVTCFG (t - 32)) 20 10 - 1) (max at' (icAt s n)) true s)
  else { s with frm := { s.frm with later := alPut s.frm.later t n } }

/-- The trigger latch records a trigger (R79). (Log 22, DEDUCED.) -/
def latchTrigger (t : Nat) (s : State) : State :=
  { s with frm := { s.frm with latch := alPut s.frm.latch t ((alGet s.frm.latch t).getD 0 + 1) } }

/-- What a trigger does once it counts: it is discarded in STOP, sets the flag in HOLD or while an instance or another
trigger waits, and releases an instance otherwise. -/
def takeTrigger (t at' : Nat) (s : State) : State :=
  if curMode s = modeStop then s
  else if curMode s = modeHold then setPend t s
  else if (alGet s.frm.tasks t).isNone then noEntry t s
  else if (getInst s t).isSome || s.frm.pend.contains t then setPend t s
  else if (alGet s.frm.later t).isSome then bumpMerged t 1 s
  else eventRelease t (triggerFrame s t at') at' s

/-- A trigger of event task `t` at instant `at'`; during a CDR or an F3 action only the latch takes it. -/
def triggerTask (t at' : Nat) (s : State) : State :=
  if !taskEn s t || !s.frm.ticking then s
  else
    let s := if curMode s = modeStop then s else latchTrigger t s
    let s := if haspState s = 2 then sendRec "TRIGGER" s else s
    if s.leaf.actHalt then s else takeTrigger t at' s

/-- Every event task whose source satisfies `p` on its KIND and INDEX is triggered; on a standby in step the primary's
records trigger instead (R174). -/
def triggerWhere (p : Nat → Nat → Bool) (at' : Nat) (s : State) : State :=
  if haspState s = 3 || haspState s = 4 then s
  else
    forAll ((List.range 16).filter fun e =>
      p (fld s (Reg.FRM_EVTSRC e) 15 12) (fld s (Reg.FRM_EVTSRC e) 11 0)) (fun s e => triggerTask (32 + e) at' s) s

/-- A trigger of one KIND and INDEX (R64). -/
def trigger (kind idx at' : Nat) (s : State) : State := triggerWhere (fun k i => k = kind && i = idx) at' s

end Sys2Proof.Machine
end

