-- ==== Sys2Proof/Machine/FieldOps.lean ====
section
/-! DEFINITION. The events of the field channels: the input filter and its diagnostics (R302 to R306), output switches (R307
to R316), the local sample (R304, R332), the apply instant and timed edges (R293, R308, R323), and the diagnostics of the
loop outputs (R327 to R338). -/

namespace Sys2Proof.Machine

/-! The input filter (R303, R305). -/

def dioEdgeCnt (n : Nat) : Nat := Reg.DIO_CH_EDGECNT (n / 16) (n % 16)
def dioFilt (n : Nat) : Nat := Reg.DIO_CH_FILT (n / 16) (n % 16)
def dioRawT (n : Nat) : Nat := Reg.DIO_CH_RAWT_LO (n / 16) (n % 16)
def dioFiltT (n : Nat) : Nat := Reg.DIO_CH_FILTT_LO (n / 16) (n % 16)

/-- The sample period of the filter, in ns. (Log 97, DEDUCED.) -/
def filtPeriod (s : State) (n : Nat) : Nat :=
  match fld s (dioFilt n) 18 16 with
  | 1 => 500
  | 2 => 200
  | 3 => 100
  | 4 => 20
  | _ => 1000

def filtTop (s : State) (n : Nat) : Nat := fld s (dioFilt n) 15 0

/-- The filtered value changes at a device time: the count, the two times, the end of STUCK, and the triggers. -/
def filteredChange (n : Nat) (v : Bool) (t : Nat) (s : State) : State :=
  let st := dioStat n
  let sel := fld s (dioCfg n) 5 4
  let s := putFlag s st 1 v
  let s := if sel = 0 || (sel = 1 && v) || (sel = 2 && !v) then putNat s (dioEdgeCnt n) (regNat s (dioEdgeCnt n) + 1) else s
  let s := putPair (putPair s (dioFiltT n) t) (dioRawT n) (dioCh s n).rawAt
  let s := if v then s else putFlag s st 11 false
  triggerWhere (fun k i => i = n && ((k = 1 && v) || (k = 2 && !v) || k = 3)) t s

/-- The samples after which the value next changes while the level stays, if it would change. -/
def filtSteps (s : State) (n : Nat) : Option Nat :=
  let c := fld s (dioStat n) 31 16
  let v := flag s (dioStat n) 1
  match (dioCh s n).level, v with
  | true, false => some (max 1 (filtTop s n - c))
  | false, true => some (max 1 c)
  | _, _ => none

/-- Advances the filter to a device time: every sample up to and including it is taken. -/
def filterTo (n t : Nat) (s : State) : State :=
  let c := dioCh s n
  let p := filtPeriod s n
  let k := crossings p c.filtAt t
  if t ≤ c.filtAt || (k = 0) then s
  else
    let steps := filtSteps s n
    let cnt := fld s (dioStat n) 31 16
    let cnt' := if c.level then min (filtTop s n) (cnt + k) else cnt - k
    let s := putFlag (putFld s (dioStat n) 31 16 cnt') (dioStat n) 0 c.level
    let s := putDio s n { c with filtAt := t }
    match steps with
    | some m => if m ≤ k then filteredChange n c.level ((c.filtAt / p + m) * p) s else s
    | none => s

/-- The channels whose state is not the one of reset. -/
def busyDio (s : State) : List Nat := s.dio.map (·.1)

/-- Brings every filter up to now. -/
def filtersTo (s : State) : State := forAll (busyDio s) (fun s n => filterTo n (now s) s) s

/-! Chatter windows (R306). -/

def chatWin (s : State) (n : Nat) : Nat := fld s (Reg.DIO_CH_CHATWIN (n / 16) (n % 16)) 15 0 * 1000000
def dioDiag (n : Nat) : Nat := Reg.DIO_CH_DIAG (n / 16) (n % 16)

/-- Ends the chatter windows that have passed by `t`; a whole one with at most CHATMAX transitions clears CHATTER. -/
def chatRoll (n t : Nat) (s : State) : State :=
  let c := dioCh s n
  let w := t / chatWin s n * chatWin s n
  if c.chatAt < w then
    let quiet := (!c.part && c.chat ≤ fld s (dioDiag n) 31 16) || c.chatAt + chatWin s n < w
    let s := putDio s n { c with chat := 0, chatAt := w, part := false }
    if quiet then putFlag s (dioStat n) 12 false else s
  else s

/-- Device time has been stepped from `old` to `new`: no sample falls between them, and the chatter window in which a step
falls or ends is not whole. (Log 94, DEDUCED.) -/
def jumpFilters (old new : Nat) (s : State) : State :=
  forAll (busyDio s) (fun s n =>
    let s := chatRoll n old (filterTo n old s)
    let w := new / chatWin s n * chatWin s n
    let c := dioCh s n
    putDio s n { c with filtAt := new, chat := if c.chatAt = w then c.chat else 0, chatAt := w, part := true }) s

/-- A raw transition counts in its window; the one beyond CHATMAX sets CHATTER. -/
def chatCount (n : Nat) (s : State) : State :=
  let s := chatRoll n (now s) s
  let c := dioCh s n
  if now s < c.chatAt then s
  else
    let s := putDio s n { c with chat := c.chat + 1 }
    let m := fld s (dioDiag n) 31 16
    if m ≠ 0 && decide (m < c.chat + 1) && !flag s (dioStat n) 12 then dioFault n 0x3006 0 (putFlag s (dioStat n) 12 true) else s

/-- The level at a pad changes now. A sample in the 2.5 ns that follow may see either level (R303). (Log 96, DESIGN CHOICE.) -/
def rawTransition (n : Nat) (level : Bool) (s : State) : State :=
  if 192 ≤ n || (dioCh s n).level = level then s
  else
    let t := now s
    let p := filtPeriod s n
    let b := (t + p - 1) / p * p
    let (late, s) := if b ≤ t + 2 then
        let (f, s) := takeFree s
        (f.getLsbD 0, s)
      else (false, s)
    let s := if late then filterTo n b s else filterTo n (b - 1) s
    let c := dioCh s n
    let at' := if late then b else b - 1
    chatCount n (putDio s n { c with level := level, rawAt := t, filtAt := max c.filtAt (min at' (t + 2)) })

/-- A chatter window ends. -/
def chatterWindowEnd (n : Nat) (s : State) : State :=
  if n < 192 then
    let s := advanceToTime ((dioCh s n).chatAt + chatWin s n) s
    chatRoll n (now s) s
  else s

/-- The filtered value changes at the sample at which it next would. -/
def filteredEdge (n : Nat) (s : State) : State :=
  if n < 192 then
    match filtSteps s n with
    | some m =>
      let p := filtPeriod s n
      let t := ((dioCh s n).filtAt / p + m) * p
      let s := advanceToTime t s
      filterTo n (max t (now s)) s
    | none => s
  else s

/-- The value has been 1 for STUCKT × 0.1 s (R306). -/
def stuckActive (n : Nat) (s : State) : State :=
  let due := fld s (dioDiag n) 15 0 * 100000000
  if n < 192 && due ≠ 0 && flag s (dioStat n) 1 then
    let s := advanceToTime (pair s (dioFiltT n) + due) s
    let s := filterTo n (now s) s
    if flag s (dioStat n) 1 && !flag s (dioStat n) 11 then dioFault n 0x3005 0 (putFlag s (dioStat n) 11 true) else s
  else s

/-- The input current has stayed low (R302). -/
def wireBreak (n : Nat) (s : State) : State :=
  if n < 192 && flag s (dioCfg n) 6 && enabled s && !flag s (dioStat n) 1 && !flag s (dioStat n) 13 then
    dioFault n 0x3004 0 (putFlag s (dioStat n) 13 true)
  else s

/-- The input current has returned (R302). -/
def wireBreakClear (n : Nat) (s : State) : State :=
  if n < 192 && enabled s then putFlag s (dioStat n) 13 false else s

/-! Switches (R310 to R316). -/

/-- A fault of a bank as a whole names no channel: LASTEV.CH is free. (Log 98, DESIGN CHOICE.) -/
def bankFault (b code cls : Nat) (s : State) : State :=
  let (f, s) := takeFree s
  dioFault (b * 16 + f.toNat % 16) code cls s

def currentLimit (n ma : Nat) (s : State) : State :=
  if n < 192 && flag s (dioStat n) 2 then
    let s := putFld s (Reg.DIO_CH_MEAS (n / 16) (n % 16)) 31 16 ma
    let s := putFlag s (dioStat n) 7 true
    if (dioCh s n).limiting then s
    else dioFault n 0x3001 0 (putDio s n { dioCh s n with limiting := true })
  else s

def limitingEnd (n : Nat) (s : State) : State :=
  if n < 192 && (dioCh s n).limiting then
    putDio (putFlag s (dioStat n) 7 false) n { dioCh s n with limiting := false }
  else s

def bankStat (b : Nat) : Nat := Reg.DIO_BANK_STAT b

def bankOverload (b isum : Nat) (s : State) : State :=
  if b < 12 && decide (600 < isum) then
    let s := putFld s (bankStat b) 31 16 isum
    if flag s (bankStat b) 14 then s else bankFault b 0x3008 0 (putFlag s (bankStat b) 14 true)
  else s

def overloadClear (b isum : Nat) (s : State) : State :=
  if b < 12 && decide (isum < 600) then putFlag (putFld s (bankStat b) 31 16 isum) (bankStat b) 14 false else s

def lpLow (b lpv : Nat) (s : State) : State :=
  if b < 12 && decide (lpv < 1700) then
    let s := putFld s (bankStat b) 11 0 lpv
    if flag s (bankStat b) 15 then s else bankFault b 0x3007 1 (putFlag s (bankStat b) 15 true)
  else s

def lpLowClear (b lpv : Nat) (s : State) : State :=
  if b < 12 && decide (1800 < lpv) then putFlag (putFld s (bankStat b) 11 0 lpv) (bankStat b) 15 false else s

/-- The junction temperature field: °C plus 64. -/
def putTj (o c : Nat) (s : State) : State := putFld s o 15 8 (c + 64)

def thermalShutdown (n : Nat) (s : State) : State :=
  if n < 192 && !flag s (dioStat n) 8 then
    let s := putTj (Reg.DIO_CH_MEAS (n / 16) (n % 16)) 175 (putFlag s (dioStat n) 8 true)
    let s := if flag s (dioCfg n) 11 then putFlag s (dioStat n) 9 true else s
    dioFault n 0x3002 1 (refreshDio s n)
  else s

def thermalCool (n : Nat) (s : State) : State :=
  if n < 192 && flag s (dioStat n) 8 then
    refreshDio (putTj (Reg.DIO_CH_MEAS (n / 16) (n % 16)) 160 (putFlag s (dioStat n) 8 false)) n
  else s

/-- SLEW + 10 µs have passed since the latest change of the switch (R315). -/
def switchSettled (s : State) (n : Nat) : Bool :=
  (dioCh s n).swAt.all fun t => t + (fld s (dioCfg n) 28 24 + 10) * 400 ≤ s.raw

/-- The readback comparison runs (R315). -/
def rbCompares (s : State) (n : Nat) : Bool :=
  switchSettled s n && dioMode s n = 4 && enabled s && !flag s (bankStat (n / 16)) 15 && !flag s (dioStat n) 8 && !flag s (dioStat n) 7

def rbMismatch (n : Nat) (s : State) : State :=
  if n < 192 then
    let s := filterTo n (now s) s
    if rbCompares s n && flag s (dioStat n) 1 ≠ flag s (dioStat n) 2 && !flag s (dioStat n) 10 then
      dioFault n 0x3003 1 (putFlag s (dioStat n) 10 true)
    else s
  else s

def rbMisClear (n : Nat) (s : State) : State :=
  if n < 192 then
    let s := filterTo n (now s) s
    if rbCompares s n && flag s (dioStat n) 1 = flag s (dioStat n) 2 then putFlag s (dioStat n) 10 false else s
  else s

/-- What a read of a channel's MEAS measures now, which the environment decides: with the switch off ILOAD shows no more than
its tolerance, with it on no more than the limit allows, and TJ agrees with TSD (R311, R312, R318). (Log 169, DEDUCED.) -/
def dioMeasure (n : Nat) (s : State) : State :=
  let (f, s) := takeFree s
  let o := Reg.DIO_CH_MEAS (n / 16) (n % 16)
  let v := f.toNat
  let top := if flag s (dioStat n) 2 then 115 * fld s (dioCfg n) 19 16 + 11 else 11
  let tj := if flag s (dioStat n) 8 then 224 + v / 2 ^ 16 % 32 else v / 2 ^ 16 % 239
  putFld (putFld s o 31 16 (v % top)) o 15 8 tj

/-- What a read of a bank's STAT measures now: its current and its L+. (Log 169, DEDUCED.) -/
def bankMeasure (b : Nat) (s : State) : State :=
  let (f, s) := takeFree s
  putFld (putFld s (bankStat b) 31 16 (f.toNat % 2 ^ 16)) (bankStat b) 11 0 (f.toNat / 2 ^ 16 % 2 ^ 12)

/-- What a read of a group's STAT measures now: the sum of its loop currents, none while its converter has failed. (Log 169,
DEDUCED.) -/
def groupMeasure (g : Nat) (s : State) : State :=
  let (f, s) := takeFree s
  putFld s (Reg.AO_GRP_STAT g) 31 16 (if flag s (Reg.AO_GRP_STAT g) 0 then 0 else f.toNat % 2 ^ 16)

/-! Readback conversions of the loop outputs (R332). -/

/-- The adaptive supply in units of 10 mV: 2.0 V above the terminal, held between 3 V and 28 V (R325). -/
def adaptiveSupply (vp : Nat) : Nat := max 300 (min 2800 (vp + 200))

/-- The latest conversion of a channel: what it measures is the environment's, so the values are free; one conversion is
made in each 10 µs. (Log 99, DEDUCED.) -/
def convert (n : Nat) (s : State) : State :=
  let c := aoCh s n
  if c.convAt = some (s.raw / 4000) then s
  else
    let (f, s) := takeFree s
    let (g, s) := takeFree s
    let s := putAo s n { c with convAt := some (s.raw / 4000) }
    let v := f.toNat
    let w := g.toNat
    let na := if flag s (Reg.AO_CH_STAT n) 9 then 0 else v % 2 ^ 25
    let s := putFld s (Reg.AO_CH_RB n) 24 0 na
    let vp := v / 2 ^ 25 % 2 ^ 16
    let s := putFld (putFld s (Reg.AO_CH_MEAS n) 31 16 vp) (Reg.AO_CH_MEAS n) 15 8 (v / 2 ^ 41)
    let s := putFld s (Reg.AO_CH_VSUP n) 31 16 (if flag s (Reg.AO_CH_CFG n) 12 then w else 0)
    putFld s (Reg.AO_CH_VSUP n) 15 0 (if fld s (Reg.AO_CH_CFG n) 2 0 = 1 then adaptiveSupply vp else 0)

/-- The readback as a Q8.24 fraction of span, to the nearest unit: (i − 4 mA) / 16 mA. -/
def readbackPoint (s : State) (n : Nat) : Word :=
  BitVec.ofInt 32 (((fld s (Reg.AO_CH_RB n) 24 0 : Int) - 4000000) * 32768 + 15625 |>.fdiv 31250)

/-! The local sample of T0 (R304, R332). -/

/-- The value that the sample gives the point of an I/O map entry. -/
def sampleEntry (s : State) (e : IoEntry) : List (Nat × Word) :=
  let n := e.chan
  if e.kind = kindDio then
    match e.func with
    | 0 => if pcls e.key = clsIX then
        [(e.key, BitVec.ofNat 32 (if dioMode s n = 1 || dioMode s n = 2 || dioMode s n = 4 then b2n (flag s (dioStat n) 1) else 0))]
      else []
    | 1 => [(e.key, getReg s (dioEdgeCnt n))]
    | 2 => [(e.key, getReg s (dioFiltT n)), (e.key + 1, getReg s (dioFiltT n + 4))]
    | 3 => [(e.key, BitVec.ofNat 32 (fld s (dioStat n) 15 0))]
    | _ => []
  else if e.kind = kindAo then
    match e.func with
    | 1 => [(e.key, readbackPoint s n)]
    | 2 => [(e.key, BitVec.ofNat 32 (fld s (Reg.AO_CH_STAT n) 15 0))]
    | _ => []
  else []

/-- Samples the local inputs: the points and values of the sample. -/
def localSample (s : State) : List (Nat × Word) × State :=
  let s := filtersTo s
  let s := forAll ((s.frm.iomap.filter fun e => e.kind = kindAo && e.func = 1).map (·.chan)) (fun s n => convert n s) s
  (s.frm.iomap.flatMap (sampleEntry s), s)

/-! The apply instant and timed edges (R293, R307, R308, R323, R324). -/

/-- The timed-edge offset that a channel's TEDGE selects in an image, if one can be used in a frame of `f` ns: 1 the
channel's register, 2 the channel's offset point. -/
def edgeOffset (s : State) (tedge ofsReg : Nat) (pt : Option Nat) (img : SMap Word) (f : Nat) : Option Nat :=
  let o := match tedge with
    | 1 => some (fld s ofsReg 21 0)
    | 2 => pt.map fun k => (imgGet img k).toNat
    | _ => none
  o.bind fun o => if o * 5 < 2 * f then some o else none

/-- The entries of the map that give a local channel its command. -/
def commandEntries (s : State) (kind cls : Nat) : List IoEntry :=
  s.frm.iomap.filter fun e => e.kind = kind && e.func = 0 && pcls e.key = cls

def dioTedge (s : State) (n : Nat) : Nat := fld s (dioCfg n) 13 12
def dioOfs (n : Nat) : Nat := Reg.DIO_CH_OFS (n / 16) (n % 16)
def aoTedge (s : State) (n : Nat) : Nat := fld s (Reg.AO_CH_CFG n) 9 8

/-- The timed edges of the image of a CC, for a frame of `f` ns: the settings and offsets as they stand at the CC. A forced
command carries none (R293, R308, R323). (Log 95, DEDUCED.) -/
def commitEdges (f : Nat) (img : SMap Word) (forced : List Nat) (s : State) : List (Bool × Nat × Option Nat) :=
  let plain (e : IoEntry) : Bool := forced.contains e.key
  ((commandEntries s kindDio clsQX).filter fun e => !plain e && dioTedge s e.chan ≠ 0).map (fun e =>
    (false, e.chan, edgeOffset s (dioTedge s e.chan) (dioOfs e.chan) (mapPoint s kindDio 4 e.chan clsQW) img f)) ++
  ((commandEntries s kindAo clsQW).filter fun e => !plain e && aoTedge s e.chan ≠ 0).map (fun e =>
    (true, e.chan, edgeOffset s (aoTedge s e.chan) (Reg.AO_CH_OFS e.chan) (mapPoint s kindAo 3 e.chan clsQW) img f))

/-- The timed edge that a commit carries for a channel: none, one with an offset, or one whose offset cannot be used. -/
def Commit.edge (c : Commit) (ao : Bool) (n : Nat) : Option (Option Nat) :=
  (c.edges.find? fun e => e.1 = ao && e.2.1 = n).map (·.2.2)

/-- A released commit places the timed edges that it carries, from the tick of the frame that begins. -/
def placeEdges (c : Commit) (s : State) : State :=
  let edge (o : Nat) (e : IoEntry) : Edge := { at2 := 2 * tickAt s (fnum s) + 5 * o, v := imgGet c.img e.key, run := c.run }
  let s := forAll (commandEntries s kindDio clsQX) (fun s e =>
    match c.edge false e.chan with
    | some (some o) => putDio s e.chan { dioCh s e.chan with edge := some (edge o e) }
    | _ => s) s
  forAll (commandEntries s kindAo clsQW) (fun s e =>
    match c.edge true e.chan with
    | some (some o) => putAo s e.chan { aoCh s e.chan with edge := some (edge o e) }
    | _ => s) s

/-- A digital channel in a DO mode takes a command of a commit now. (Log 101, DEDUCED.) -/
def dioTake (n : Nat) (v : Word) (run : Bool) (s : State) : State :=
  let b := v.getLsbD 0
  if isDo s n then dioCommand (if run then putDio s n { dioCh s n with lastRun := b } else s) n b else s

/-- A loop output takes a point value of a commit now. -/
def aoTake (n : Nat) (v : Word) (run fail forced : Bool) (s : State) : State :=
  let c := aoCh s n
  let c := { c with point := v, fail := fail, forcedNow := forced, lastRun := if run then aoD s n v else c.lastRun }
  refreshAo (when (fail && !forced) (captureFail n) (putAo s n c)) n

/-- An offset could not be used: OFSBAD, and OFS_RANGE once per frame (R308, R323). (Log 95, DEDUCED.) -/
def dioOfsBad (n : Nat) (s : State) : State :=
  let s := putFlag s (dioStat n) 14 true
  if (dioCh s n).ofsRaised then s else dioFault n 0x3009 0 (putDio s n { dioCh s n with ofsRaised := true })

def aoOfsBad (n : Nat) (s : State) : State :=
  let s := putFlag s (Reg.AO_CH_STAT n) 8 true
  if (aoCh s n).ofsRaised then s else aoFault n 0x3106 0 (putAo s n { aoCh s n with ofsRaised := true })

/-- A channel without a timed edge takes its command at AP, and so does one whose offset cannot be used; one with an edge
waits for it. -/
def dioApply (c : Commit) (e : IoEntry) (s : State) : State :=
  match c.edge false e.chan with
  | some (some _) => s
  | bad =>
    let s := if bad.isSome then dioOfsBad e.chan s else s
    dioTake e.chan (imgGet c.img e.key) c.run (putDio s e.chan { dioCh s e.chan with edge := none })

def aoApply (c : Commit) (e : IoEntry) (s : State) : State :=
  match c.edge true e.chan with
  | some (some _) => s
  | bad =>
    let s := if bad.isSome then aoOfsBad e.chan s else s
    aoTake e.chan (imgGet c.img e.key) c.run c.fail (c.forced.contains e.key)
      (putAo s e.chan { aoCh s e.chan with edge := none })

/-- The released commit takes effect at AP (R60, R307, R321, R323): mapped channels take their points, and a channel
without a command point its fail state. -/
def applyCommit (c : Commit) (s : State) : State :=
  let des := commandEntries s kindDio clsQX
  let aes := commandEntries s kindAo clsQW
  let s := forAll des (fun s e => dioApply c e s) s
  let s := forAll aes (fun s e => aoApply c e s) s
  let s := forAll ((List.range 192).filter fun n => isDo s n && !(des.any fun e => e.chan = n)) (fun s n => dioCommand s n (dioFail s n)) s
  forAll ((List.range 48).filter fun n => !(aes.any fun e => e.chan = n)) (fun s n => refreshAo (captureFail n s) n) s

/-- A timed edge takes effect at its instant (R293). -/
def timedEdge (ao : Bool) (n : Nat) (s : State) : State :=
  if ao then
    match (aoCh s n).edge with
    | some e =>
      let s := advanceToTime ((e.at2 + 1) / 2) s
      aoTake n e.v e.run false false (putAo s n { aoCh s n with edge := none })
    | none => s
  else
    match (dioCh s n).edge with
    | some e =>
      let s := advanceToTime ((e.at2 + 1) / 2) s
      dioTake n e.v e.run (putDio s n { dioCh s n with edge := none })
    | none => s

/-- Every output edge that waits takes its value at once (R276). -/
def settleEdges (s : State) : State :=
  let ds := s.dio.filterMap fun p => p.2.edge.map fun e => (p.1, e)
  let s := forAll ds (fun s (n, e) => dioTake n e.v e.run (putDio s n { dioCh s n with edge := none })) s
  let as' := s.ao.filterMap fun p => p.2.edge.map fun e => (p.1, e)
  forAll as' (fun s (n, e) => aoTake n e.v e.run false false (putAo s n { aoCh s n with edge := none })) s

/-! What a commit of a channel's settings does at its boundary (R317, R339). -/

/-- A digital channel's registers at `r` past its block have been written. -/
def dioBoundary (n r : Nat) (s : State) : State :=
  if r = 0 then refreshDio (if isDo s n then s else putFlag s (dioStat n) 3 false) n
  else if r = 4 then putFld s (dioStat n) 31 16 (min (fld s (dioStat n) 31 16) (filtTop s n))
  else if r = 0xC then
    putDio s n { dioCh s n with chat := 0, part := false, chatAt := (now s + chatWin s n - 1) / chatWin s n * chatWin s n }
  else s

/-! Loop output diagnostics (R327 to R338). -/

def aoStat (n : Nat) : Nat := Reg.AO_CH_STAT n
def aoMode (s : State) (n : Nat) : Nat := fld s (Reg.AO_CH_CFG n) 2 0
def aoDrives (s : State) (n : Nat) : Bool :=
  n < 48 && (aoMode s n = 1 || aoMode s n = 2) && enabled s && !flag s (aoStat n) 9

def noCompliance (n : Nat) (s : State) : State :=
  if aoDrives s n && !flag s (aoStat n) 6 && !flag s (aoStat n) 4 && !flag s (aoStat n) 5 then
    aoFault n 0x3102 1 (refreshAo (putFlag s (aoStat n) 5 true) n)
  else s

def nocompClear (n : Nat) (s : State) : State :=
  if n < 48 && flag s (aoStat n) 5 then refreshAo (putFlag s (aoStat n) 5 false) n else s

def thermalFoldback (n ceil : Nat) (s : State) : State :=
  if n < 48 then
    let s := putTj (Reg.AO_CH_MEAS n) 150 (refreshAo (putAo s n { aoCh s n with ceiling := some ceil }) n)
    if flag s (aoStat n) 4 then s else aoFault n 0x3104 1 (putFlag s (aoStat n) 4 true)
  else s

def foldbackEnd (n : Nat) (s : State) : State :=
  if n < 48 && flag s (aoStat n) 4 then
    refreshAo (putFlag (putAo s n { aoCh s n with ceiling := none }) (aoStat n) 4 false) n
  else s

/-- The loop is open; with a target below 1.0 mA that is not reported (R331). -/
def openLoop (n : Nat) (s : State) : State :=
  if aoDrives s n && decide (mA ≤ aoTarget s n) && !flag s (aoStat n) 6 then
    aoFault n 0x3103 1 (putFlag s (aoStat n) 6 true)
  else s

def openLoopClear (n : Nat) (s : State) : State :=
  if n < 48 then putFlag s (aoStat n) 6 false else s

/-- The readback comparison of R333 runs: 200 µs have passed since the latest change of the regulated current. -/
def aoRbCompares (s : State) (n : Nat) : Bool :=
  (aoCh s n).curAt.all (fun t => t + 80000 ≤ s.raw) && n < 48 && aoMode s n ≠ 0 && enabled s && !flag s (aoStat n) 6 && !flag s (aoStat n) 5 && !flag s (aoStat n) 4

def aoRbMismatch (n : Nat) (s : State) : State :=
  if aoRbCompares s n && !flag s (aoStat n) 7 then aoFault n 0x3101 1 (putFlag s (aoStat n) 7 true) else s

def aoRbMisClear (n : Nat) (s : State) : State :=
  if aoRbCompares s n then putFlag s (aoStat n) 7 false else s

/-- A group's converter fails; the fault names no channel, so LASTEV.CH is free (R338). -/
def groupSupply (g : Nat) (s : State) : State :=
  if g < 6 && !flag s (Reg.AO_GRP_STAT g) 0 then
    let s := putFlag s (Reg.AO_GRP_STAT g) 0 true
    let s := forAll (List.range 8) (fun s i =>
      let n := g * 8 + i
      refreshAo (putAo (putFld (putFlag s (aoStat n) 9 true) (Reg.AO_CH_RB n) 24 0 0) n { aoCh s n with convAt := none }) n) s
    let (f, s) := takeFree s
    aoFault (g * 8 + f.toNat % 8) 0x3105 1 s
  else s

/-- A failed group resumes at a tick. -/
def groupResume (g : Nat) (s : State) : State :=
  if g < 6 && flag s (Reg.AO_GRP_STAT g) 0 then
    let s := if s.frm.ticking && decide (rawAt s (tickAt s (fnum s)) < s.raw) then advanceToTime (tickAt s (fnum s + 1)) s else s
    let s := putFlag s (Reg.AO_GRP_STAT g) 0 false
    forAll (List.range 8) (fun s i => refreshAo (putAo (putFlag s (aoStat (g * 8 + i)) 9 false) (g * 8 + i)
      { aoCh s (g * 8 + i) with convAt := none }) (g * 8 + i)) s
  else s

end Sys2Proof.Machine
end

