-- ==== Sys2Proof/Machine/LaneOps.lean ====
section
/-! DEFINITION. The bus lanes: declared nodes, reception, FIFOs and match buffers, the transmit queue, windows, errors and
service (R240 to R266, R279, R280). -/

namespace Sys2Proof.Machine

/-- A lane's fault code: the fault byte 0x10 + n over a low byte (R5). -/
def laneCode (n low : Nat) : Nat := (0x10 + n) * 256 + low

/-- LANEn.STAT.STATE: 0 OFF, 1 INTEGRATING, 2 ACTIVE, 3 PASSIVE, 4 BUSOFF, 5 FAILED, 6 RECOVERING. -/
def laneStat (s : State) (n : Nat) : Nat := fld s (Reg.LANE_STAT n) 2 0
def putLaneStat (n v : Nat) (s : State) : State := putFld s (Reg.LANE_STAT n) 2 0 v

/-- (Log 137, DEDUCED.) -/
def inService (s : State) (n : Nat) : Bool := flag s (Reg.LANE_CFG n) 31
def laneMon (s : State) (n : Nat) : Bool := flag s (Reg.LANE_CFG n) 28

/-- The lane is on the bus. -/
def onBus (s : State) (n : Nat) : Bool := n < 12 && (laneStat s n = 2 || laneStat s n = 3)

/-- A lane is out of service (R264). -/
def outOfService (s : State) (n : Nat) : Bool :=
  !inService s n || flag s (Reg.LANE_STAT n) 9 || laneStat s n = 5

/-- The lane that serves lane n's queue: its alternate, while n is out of service and the alternate is not (R264, R265). -/
def servedBy (s : State) (n : Nat) : Nat :=
  let alt := fld s (Reg.LANE_CFG n) 23 20
  if outOfService s n && alt < 12 && alt ≠ n && !outOfService s alt && !laneMon s n then alt else n

/-! Bit timing (R241, R242). -/

/-- The quanta of 12.5 ns of a bit: (1 + TSEG1 + TSEG2) × BRP. -/
def bitQuanta (brp t1 t2 : Nat) : Nat := (1 + t1 + t2) * brp

def arbQuanta (s : State) (n : Nat) : Nat :=
  bitQuanta (fld s (Reg.LANE_NBT n) 31 24) (fld s (Reg.LANE_NBT n) 23 16) (fld s (Reg.LANE_NBT n) 14 8)

/-- The quanta of a data bit, from LANEn.DBT or LANEn.XBT. -/
def dataQuanta (s : State) (o : Nat) : Nat := bitQuanta (fld s o 31 24) (fld s o 20 16) (fld s o 11 8)

/-- The checks of R242: the CAN clock is 80 MHz, so 1 Mbit/s is 80 quanta, 8 Mbit/s 10 and 20 Mbit/s 4. -/
def bitTimingOk (s : State) (n : Nat) : Bool :=
  let a := arbQuanta s n
  let d := dataQuanta s (Reg.LANE_DBT n)
  let x := dataQuanta s (Reg.LANE_XBT n)
  let cfg := Reg.LANE_CFG n
  (80 ≤ a && a ≤ 640 && fld s (Reg.LANE_NBT n) 6 0 ≤ fld s (Reg.LANE_NBT n) 14 8) &&
  (!flag s cfg 27 || (10 ≤ d && d ≤ a && fld s (Reg.LANE_DBT n) 3 0 ≤ fld s (Reg.LANE_DBT n) 11 8)) &&
  (!flag s cfg 26 || (4 ≤ x && x ≤ a && fld s (Reg.LANE_XBT n) 3 0 ≤ fld s (Reg.LANE_XBT n) 11 8)) &&
  (!(flag s cfg 26 && flag s cfg 25) || fld s (Reg.LANE_XPWM n) 13 8 + fld s (Reg.LANE_XPWM n) 21 16 = x)

/-! Windows (R279, R280). -/

/-- c(n), the basic cycle of frame n on a lane. -/
def cycleOf (s : State) (n f : Nat) : Nat := tickAt s f / periodOf s f % 2 ^ fld s (Reg.TIME_LANE_MX n) 2 0

def winCfg (n w : Nat) : Nat := Reg.TIME_LANE_WIN_CFG n w
def winStart (s : State) (n w : Nat) : Nat := fld s (Reg.TIME_LANE_WIN_START n w) 19 0 * 10
def winLen (s : State) (n w : Nat) : Nat := fld s (Reg.TIME_LANE_WIN_LEN n w) 19 0 * 10
def winKind (s : State) (n w : Nat) : Nat := fld s (winCfg n w) 25 24

/-- Window w fails a check of R281. -/
def winBad (s : State) (n w : Nat) : Bool :=
  if w < 32 then flag s (Reg.TIME_LANE_WINBAD_LO n) w else flag s (Reg.TIME_LANE_WINBAD_HI n) (w - 32)

/-- The window's enable and repeat place it in cycle c. -/
def winInCycle (s : State) (n w c : Nat) : Bool :=
  flag s (winCfg n w) 31 && c % 2 ^ fld s (winCfg n w) 2 0 = fld s (winCfg n w) 13 8

/-- Window w occurs in frame f. -/
def winOccurs (s : State) (n w f : Nat) : Bool :=
  w < 48 && flag s (Reg.TIME_LANE_MX n) 31 && winInCycle s n w (cycleOf s n f) && !winBad s n w

/-- The windows that a MERGED chain joins to window w in its cycle, w first (R280). -/
def mergedSpan (s : State) (n f : Nat) : Nat → Nat → List Nat
  | 0, w => [w]
  | k + 1, w =>
    if winKind s n w = 2 then
      match (List.range 48).find? fun v => v ≠ w && winOccurs s n v f && (winKind s n v = 1 || winKind s n v = 2) &&
          winStart s n v + winLen s n v = winStart s n w with
      | some v => w :: mergedSpan s n f k v
      | none => [w]
    else [w]

/-- Every window of the joined span that holds window w. -/
def spanOf (s : State) (n f w : Nat) : List Nat :=
  let back := mergedSpan s n f 48 w
  (List.range 48).filter fun v => winOccurs s n v f && (back.contains v || (mergedSpan s n f 48 v).contains w)

/-- The window's kind carries arbitration: ARBITRATING, MERGED, or the whole frame of a lane without a matrix. -/
def arbitrates (s : State) (n w : Nat) : Bool := w = 63 || winKind s n w = 1 || winKind s n w = 2

/-! Declared nodes (R245, R246). -/

/-- The valid node entries, in ascending order: VALID resets to 0, so each is listed in the register file. -/
def validNodes (s : State) : List Nat :=
  (s.regs.filter fun p => 0x108000 ≤ p.1 && p.1 < 0x10C000 && p.1 % 16 = 0 && p.2.getLsbD 31).map fun p => (p.1 - 0x108000) / 16

/-- Entry j declares the identifier on lane n. -/
def declares (s : State) (n : Nat) (xtd : Bool) (id : Nat) (j : Nat) : Bool :=
  fld s (Reg.LANE_NODE_CFG j) 27 24 = n && flag s (Reg.LANE_NODE_IDLO j) 29 = xtd &&
    fld s (Reg.LANE_NODE_IDLO j) 28 0 ≤ id && id ≤ fld s (Reg.LANE_NODE_IDHI j) 28 0

/-- The entry credited with an identifier: the lowest that declares it. -/
def nodeOf (s : State) (n : Nat) (xtd : Bool) (id : Nat) : Option Nat := (validNodes s).find? (declares s n xtd id)

/-! The layout of a received frame (R250). -/

/-- The 32-byte head and the data area of a received frame. -/
def rxBytes (f : BusFrame) (node dec recNo area : Nat) : List Byte :=
  leBytes 8 f.stamp ++ leBytes 4 (f.id.toNat + b2n f.xtd * 2 ^ 29 + f.fmt.toNat * 2 ^ 30) ++
  leBytes 4 (f.data.length % 4096 + b2n f.brs * 2 ^ 12 + b2n f.esi * 2 ^ 13 + b2n f.sec * 2 ^ 14 +
    f.sdt.toNat * 2 ^ 16 + f.vcid.toNat * 2 ^ 24) ++
  leBytes 4 (if f.fmt = 2 then f.af.toNat else 0) ++ leBytes 4 (node + dec) ++ leBytes 4 recNo ++ leBytes 4 f.crc.toNat ++
  (f.data ++ List.replicate (area - f.data.length) 0)

def lmm (n : Nat) : Nat := lmmBase + n * 0x10000

/-- RXCOMP of a lane, in ns. -/
def rxComp (s : State) (n : Nat) : Nat := fld s (Reg.TIME_LANE_RXCOMP n) 9 0

/-- Device time of a start of frame with a raw stamp, corrected by RXCOMP (R286). -/
def stampTime (s : State) (n r : Nat) : Nat := timeAt s r - rxComp s n

/-- Stores bytes in a lane's message memory, whose words carry no code. -/
def lmmStore (n o : Nat) (b : List Byte) (s : State) : State := putBytes s (lmm n + o) b

/-- A reception that starts takes the next receive buffer, and `b` is what it holds of the frame (R266). -/
def takeRxBuf (n : Nat) (b : List Byte) (s : State) : State :=
  let l := lane s n
  lmmStore n (if l.rxBuf then 0x6300 else 0x5A00) b (putLane n { l with rxBuf := !l.rxBuf } s)

/-! Receive FIFOs (R250 to R252). -/

def rxqBase (s : State) (n q : Nat) : Nat :=
  fld s (Reg.LANE_RXQ_BASE_LO n q) 31 6 * 64 + fld s (Reg.LANE_RXQ_BASE_HI n q) 0 0 * 2 ^ 32
def rxqSize (s : State) (n q : Nat) : Nat := 2 ^ fld s (Reg.LANE_RXQ_CFG n q) 27 24
def rxqArea (s : State) (n q : Nat) : Nat := if flag s (Reg.LANE_RXQ_CFG n q) 30 then 2048 else 64
def rxqRdAddr (s : State) (n q : Nat) : Nat :=
  fld s (Reg.LANE_RXQ_RDADDR_LO n q) 31 2 * 4 + fld s (Reg.LANE_RXQ_RDADDR_HI n q) 0 0 * 2 ^ 32

/-- The arrival count, and the read count as the lane last read it. -/
def arrOf (l : LaneState) (q : Nat) : Nat := if q = 0 then l.arr0 else l.arr1
def rdOf (l : LaneState) (q : Nat) : Nat := if q = 0 then l.rd0 else l.rd1
def setArr (l : LaneState) (q v : Nat) : LaneState := if q = 0 then { l with arr0 := v } else { l with arr1 := v }
def setRd (l : LaneState) (q v : Nat) : LaneState := if q = 0 then { l with rd0 := v } else { l with rd1 := v }

/-- Slots not free. -/
def rxqFill (l : LaneState) (q : Nat) : Nat := (arrOf l q + 2 ^ 32 - rdOf l q) % 2 ^ 32

/-- A frame that finds no free slot (R252). -/
def rxFull (n : Nat) (s : State) : State :=
  let s := bump s (Reg.LANE_DROPCNT n) 31 16
  if (lane s n).rxFull then s else raise (laneCode n 4) 1 (putLane n { lane s n with rxFull := true } s)

/-- Writes a frame into FIFO q; the Bool says whether it took a slot, and the number is its reception number. -/
def fifoWrite (n q : Nat) (f : BusFrame) (node dec : Nat) (s : State) : Bool × Nat × State :=
  let l := lane s n
  let area := rxqArea s n q
  if !flag s (Reg.LANE_RXQ_CFG n q) 31 then (false, 0, rxFull n s)
  else if area < f.data.length then (false, 0, raise (laneCode n 0xB) 0 (bump s (Reg.LANE_DROPCNT n) 15 0))
  else if rxqSize s n q ≤ rxqFill l q then (false, 0, rxFull n s)
  else
    let no := (l.recNo + 1) % 2 ^ 32
    let a := rxqBase s n q + arrOf l q % rxqSize s n q * (area + 32)
    let s := unitStore a (rxBytes f node dec no area) s
    let l' := setArr { l with recNo := no } q ((arrOf l q + 1) % 2 ^ 32)
    let s := bump (putLane n l' s) (Reg.LANE_RXCNT n) 31 0
    (true, no, putFld s (Reg.LANE_RXQ_STAT n q) 28 16 (max (fld s (Reg.LANE_RXQ_STAT n q) 28 16) (rxqFill l' q)))

/-- The filter that decides, and its action; without a match NOMATCH decides (R248). The action is a FIFO, or 2 to reject. -/
def filterDecide (s : State) (n : Nat) (f : BusFrame) : Option Nat × Nat :=
  let id := f.id.toNat
  let hit (k : Nat) : Bool :=
    let a := fld s (Reg.LANE_ACF_A n k) 28 0
    let b := fld s (Reg.LANE_ACF_B n k) 28 0
    flag s (Reg.LANE_ACF_CFG n k) 31 && flag s (Reg.LANE_ACF_A n k) 29 = f.xtd &&
      (if flag s (Reg.LANE_ACF_CFG n k) 30 then a ≤ id && id ≤ b else (id ^^^ a) &&& b = 0)
  match (List.range 128).find? hit with
  | some k => (some k, fld s (Reg.LANE_ACF_CFG n k) 25 24)
  | none => (none, match fld s (Reg.LANE_CFG n) 19 18 with | 1 => 0 | 2 => 1 | _ => 2)

/-- The value that a frame's data give a mapped point; bytes beyond the data are 0 (R248). -/
def pointOfData (e : IoEntry) (d : List Byte) : Word :=
  if isBitCls (pcls e.key) then BitVec.ofNat 32 (bits (d.getD e.byteOff 0).toNat e.bitNo e.bitNo)
  else BitVec.ofNat 32 (leNat ((List.range 4).map fun i => d.getD (e.byteOff + i) 0))

/-- Copies a frame into the match buffers whose identifier and mask it matches (R254). -/
def matchBuffers (n : Nat) (f : BusFrame) (node dec no : Nat) (s : State) : State :=
  let hit (s : State) (h : Nat) : Bool :=
    flag s (Reg.LANE_HPM_CFG n h) 31 && flag s (Reg.LANE_HPM_ID n h) 29 = f.xtd &&
      (f.id.toNat ^^^ fld s (Reg.LANE_HPM_ID n h) 28 0) &&& fld s (Reg.LANE_HPM_MASK n h) 28 0 = 0
  forAll ((List.range 8).filter (hit s)) (fun s h =>
    let s := lmmStore n (h * 0x900) (rxBytes f node dec no 2048) s
    let s := putNat s (Reg.LANE_HPM_STAT n h) (regNat s (Reg.LANE_HPM_STAT n h) + 1)
    let s := trigger 4 (n * 8 + h) (now s) s
    when (flag s (Reg.LANE_HPM_CFG n h) 30) (cause (16 + 2 * n + h / 4)) s) s

/-- The pass of R248 over a declared frame credited to entry j; a frame that is still in the latest receive buffer has the
outcome entered there too. -/
def acceptFrame (live : Bool) (n : Nat) (f : BusFrame) (j : Nat) (s : State) : State :=
  let es := s.frm.iomap.filter fun e => e.kind = kindRecv && e.chan = n && e.xtd = f.xtd && e.ident = f.id.toNat
  let s := { noteCheck false s with frm := { s.frm with unforced := applyOver s.frm.unforced (es.map fun e => (e.key, pointOfData e f.data)) } }
  let (k, a) := filterDecide s n f
  let dec := match k with
    | some k => k * 2 ^ 16
    | none => 2 ^ 23
  let s := match k with
    | some k => bump s (Reg.LANE_ACF_HITS n k) 31 0
    | none => s
  let (_, no, s) := if a < 2 then fifoWrite n a f j dec s else (false, 0, s)
  let s := if live then lmmStore n (if (lane s n).rxBuf then 0x5A00 else 0x6300) (rxBytes f j dec no 2048) s else s
  matchBuffers n f j dec no s

/-- The start of frame lies in an occurrence of the node's input window (R280); 63 is no window. (Log 88, DEDUCED.) -/
def inInwin (s : State) (n j : Nat) (t : Nat) : Bool :=
  let w := fld s (Reg.LANE_NODE_CFG j) 13 8
  let cover (f : Nat) : Bool :=
    winOccurs s n w f && tickAt s f + winStart s n w ≤ t && t < tickAt s f + winStart s n w + winLen s n w
  48 ≤ w || cover (fnum s) || cover (fnum s - 1)

/-- A frame reaches the lane without error (R240, R246, R248). -/
def receive (n : Nat) (f : BusFrame) (s : State) : State :=
  if !onBus s n || !s.pads.pfailB then s
  else
    let s := takeRxBuf n (rxBytes f 0 0 0 2048) s
    if (f.fmt = 1 && !flag s (Reg.LANE_CFG n) 27) || (f.fmt = 2 && !flag s (Reg.LANE_CFG n) 26) then putLaneStat n 1 s
    else if f.remote then bump s (Reg.LANE_REJCNT n) 15 0
    else
      match nodeOf s n f.xtd f.id.toNat with
      | none =>
        let s := bump s (Reg.LANE_REJCNT n) 31 16
        if (lane s n).undecl then s else raise (laneCode n 7) 0 (putLane n { lane s n with undecl := true } s)
      | some j =>
        let st := Reg.LANE_NODE_STAT j
        let s := putFld (bump s st 31 16) st 15 0 (fnum s)
        let s := if inInwin s n j (stampTime s n f.stamp) then s else bump s (Reg.TIME_LANE_OFFWIN n) 31 0
        if haspState s = 3 || haspState s = 4 then 
          { s with hasp := { s.hasp with rx := s.hasp.rx ++ [{ lane := n, at' := s.raw, node := some j, frame := f }] } }
        else acceptFrame true n f j (if haspState s = 2 then sendRec "ACCEPT" s else s)

/-- At the release of a commit, the lane reads each read count and frees the slots below it (R252). (Log 84, DEDUCED.) -/
def readCounts (s : State) : State :=
  forAll (List.range 12) (fun s n => forAll [0, 1] (fun s q =>
    if flag s (Reg.LANE_RXQ_CFG n q) 31 then
      let l := lane s n
      let w := memNat s (rxqRdAddr s n q) 4
      let d := (w + 2 ^ 32 - rdOf l q) % 2 ^ 32
      if d < 2 ^ 31 then putLane n (setRd l q ((rdOf l q + min d (rxqFill l q)) % 2 ^ 32)) s else s
    else s) s) s

/-- The count points of the enabled FIFOs at IC (R251). -/
def countPoints (s : State) : List (Nat × Word) :=
  (List.range 24).filterMap fun i =>
    let n := i / 2
    let q := i % 2
    if flag s (Reg.LANE_RXQ_CFG n q) 31 then
      some (pkey clsIW (fld s (Reg.LANE_RXQ_CFG n q) 17 0), BitVec.ofNat 32 (arrOf (lane s n) q))
    else none

/-! The transmit queue (R255 to R258). -/

/-- 0 FREE, 1 QUEUED, 2 IN_FLIGHT. (Log 85, DEDUCED.) -/
def qState (s : State) (n i : Nat) : Nat :=
  if (lane s n).entries.contains (qEntry s n i) then memNat s (qEntry s n i) 4 % 4 else 0

/-- A queue whose memory came whole from elsewhere: its entries are those whose state word says so, unless the code region
lies where the queue would (R190, R266). -/
def adoptQueues (s : State) : State :=
  forAll (List.range 12) (fun s n =>
    if qBase s n < codeBase s + 2 ^ 26 && codeBase s < qBase s n + 64 * 0x840 then s
    else putLane n { lane s n with entries := ((List.range 64).map (qEntry s n)).filter fun a => memNat s a 4 % 4 ≠ 0 } s) s

/-- Entries not FREE. -/
def qPend (s : State) (n : Nat) : Nat := ((List.range 64).filter fun i => qState s n i ≠ 0).length

/-- The fields of a descriptor (R255). -/
def dField (d : List Byte) (off hi lo : Nat) : Nat := bits (leNat ((d.drop off).take 4)) hi lo
def dLane (d : List Byte) : Nat := dField d 0 3 0
def dFmt (d : List Byte) : Nat := dField d 0 5 4
def dXtd (d : List Byte) : Bool := dField d 0 7 7 = 1
def dWin (d : List Byte) : Nat := dField d 0 13 8
def dId (d : List Byte) : Nat := dField d 4 28 0
def dLen (d : List Byte) : Nat := dField d 8 11 0

/-- An identifier's rank in arbitration: the lower wins. -/
def arbRank (xtd : Bool) (id : Nat) : Nat :=
  if xtd then id / 2 ^ 18 * 2 ^ 19 + 2 ^ 18 + id % 2 ^ 18 else id % 2 ^ 11 * 2 ^ 19

/-- The FD lengths. -/
def fdLens : List Nat := [0, 1, 2, 3, 4, 5, 6, 7, 8, 12, 16, 20, 24, 32, 48, 64]

/-- A descriptor is bad for its lane (R256). -/
def descBad (s : State) (d : List Byte) : Bool :=
  let f := dFmt d
  let n := dLane d
  let len := dLen d
  f = 3 || (48 ≤ dWin d && dWin d ≤ 62) ||
  dField d 0 31 14 ≠ 0 || dField d 4 31 29 ≠ 0 || dField d 8 15 12 ≠ 0 || dField d 0xC 31 1 ≠ 0 ||
  leNat ((d.drop 0x14).take 12) ≠ 0 ||
  (dField d 0 6 6 = 1 && f ≠ 1) ||
  (f = 0 && 8 < len) || (f = 1 && !fdLens.contains len) || (f = 2 && (len = 0 || 2048 < len || dXtd d)) ||
  (f = 1 && !flag s (Reg.LANE_CFG n) 27) || (f = 2 && !flag s (Reg.LANE_CFG n) 26)

/-- Checks the requests of a commit in order: the good ones, with the faults of the others raised (R256). -/
def checkRequests : List (List Byte) → State → List (List Byte) × State
  | [], s => ([], s)
  | d :: r, s =>
    let n := dLane d
    if 11 < n then checkRequests r (raise 0x0340 0 s)
    else if descBad s d then checkRequests r (raise (laneCode n 6) 0 s)
    else
      let (good, s) := checkRequests r s
      (d :: good, s)

/-- Keeps the requests that find a queue entry; `used` counts what earlier requests of the commit take. -/
def admitRequests : List (List Byte) → List Nat → State → List (List Byte) × State
  | [], _, s => ([], s)
  | d :: r, used, s =>
    let n := dLane d
    if 64 ≤ qPend s n + (used.filter (· = n)).length then admitRequests r used (raise (laneCode n 5) 1 s)
    else
      let (good, s) := admitRequests r (n :: used) s
      (d :: good, s)

/-- Queues a request of the commit of frame `f` (R257). (Log 136, DEDUCED.) -/
def queueRequest (f : Nat) (d : List Byte) (s : State) : State :=
  let n := dLane d
  match (List.range 64).find? fun i => qState s n i = 0 with
  | some i =>
    let old := ((List.range 64).filter fun i => qState s n i ≠ 0).map fun i => memNat s (qEntry s n i + 0x10) 8
    let o := old.foldl (fun m v => max m (v + 1)) (lane s n).order
    let s := unitStore (qEntry s n i + 8) (leBytes 8 f ++ leBytes 8 o ++ leBytes 8 0 ++ d.take 2080) s
    putQState n i 1 (putLane n { lane s n with order := o + 1 } s)
  | none => s

/-- A request of lane q's queue that lane n may send: the slot, its rank and its order number. -/
structure Cand where
  src : WireSrc
  rank : Nat
  order : Nat
  deriving DecidableEq, Repr

def queueDesc (s : State) (q i : Nat) : List Byte := memBytes s (qEntry s q i + 0x20) 32

/-- The QUEUED requests of lane q's queue whose window satisfies `p`. -/
def queueCands (s : State) (q : Nat) (p : Nat → Bool) : List Cand :=
  (List.range 64).filterMap fun i =>
    if qState s q i = 1 && p (dWin (queueDesc s q i)) then
      some { src := .queue q i, rank := arbRank (dXtd (queueDesc s q i)) (dId (queueDesc s q i)),
             order := memNat s (qEntry s q i + 0x10) 8 }
    else none

/-- The mapped frames that wait, whose window satisfies `p` (R425). (Log 86, DEDUCED.) -/
def mappedCands (s : State) (n : Nat) (p : Nat → Bool) : List Cand :=
  ((lane s n).mapped.filter fun m => p m.win).map fun m =>
    { src := .mapped m.xtd m.id, rank := arbRank m.xtd m.id, order := 0 }

/-- The lowest of candidates in arbitration. -/
def bestCand : List Cand → Option Cand
  | [] => none
  | c :: r =>
    match bestCand r with
    | some b => some (if b.rank < c.rank || (b.rank = c.rank && b.order < c.order) then b else c)
    | none => some c

/-- What window w of lane n may carry in frame f (R258, R264, R280). -/
def eligible (s : State) (n w f : Nat) : List Cand :=
  if w = 63 then
    queueCands s n (· = 63) ++ mappedCands s n (· = 63) ++
      (((List.range 12).filter fun q => q ≠ n && servedBy s q = n).flatMap fun q => queueCands s q fun _ => true)
  else if winKind s n w = 3 then []
  else if winKind s n w = 0 then queueCands s n (· = w) ++ mappedCands s n (· = w)
  else
    let ws := spanOf s n f w
    let p (v : Nat) : Bool := v = 63 || v = w || ws.contains v
    queueCands s n p ++ mappedCands s n p ++
      (((List.range 12).filter fun q => q ≠ n && servedBy s q = n).flatMap fun q => queueCands s q fun _ => true)

/-- The lane may start a frame. -/
def maySend (s : State) (n : Nat) : Bool :=
  onBus s n && enabled s && !laneMon s n && (lane s n).wire.isNone && s.pads.pfailB && !(lane s n).leaving &&
    !outOfService s n

/-- Copies what goes on the wire into the next transmit buffer (R266). -/
def takeTxBuf (n : Nat) (d : List Byte) (s : State) : State :=
  let l := lane s n
  lmmStore n (if l.txBuf then 0x5100 else 0x4800) (d ++ List.replicate (0x900 - d.length) 0)
    (putLane n { l with txBuf := !l.txBuf } s)

/-- Puts a source on the wire. -/
def startWire (n : Nat) (src : WireSrc) (s : State) : State :=
  let d := match src with
    | .queue q i => memBytes s (qEntry s q i + 0x20) 2080
    | .mapped x id => (((lane s n).mapped.find? fun m => m.xtd = x && m.id = id).map (·.desc)).getD []
    | _ => []
  let s := match src with
    | .queue q i => putQState q i (2 + n * 256) s
    | _ => s
  let s := takeTxBuf n d s
  putLane n { lane s n with wire := some src } s

/-- Offers the lane's highest-priority eligible frame in window w (R258). (Log 83, DEDUCED.) -/
def offer (n w : Nat) (s : State) : State :=
  if maySend s n then
    match bestCand (eligible s n w (fnum s)) with
    | some c => startWire n c.src s
    | none => s
  else s

/-- The window is open for the lane now: it occurs in this frame, or it is the whole frame of a lane without a matrix. -/
def winIsOpen (s : State) (n w : Nat) : Bool :=
  (w = 63 && !flag s (Reg.TIME_LANE_MX n) 31) || winOccurs s n w (fnum s)

/-! Errors and service (R260 to R264). -/

/-- A lane stops being out of service: RETURNED, when it has been in service since the last POR or DRST (R264). -/
def noteService (n : Nat) (s : State) : State :=
  let l := lane s n
  let out := outOfService s n
  if l.wasOut && !out then
    let s' := putLane n { l with wasOut := false, served := true } s
    let s' := if laneStat s' n = 0 then putLaneStat n 1 s' else s'
    if l.served then raise (laneCode n 0xA) 0 s' else s'
  else if !l.wasOut && out then putLane n { l with wasOut := true } s
  else s

/-- The lane leaves the bus; a frame on the wire at an INSERVICE = 0 boundary first runs to its end (R242, R263). A lane that
is bus-off, failed or recovering is off the bus and stays what it is: only a recovery ends that (R261, R262). (Log 137, DEDUCED.) -/
def leaveBus (n : Nat) (atOnce : Bool) (s : State) : State :=
  if (lane s n).wire.isSome && !atOnce then putLane n { lane s n with leaving := true } s
  else
    let s := putLane n { lane (requeue n s) n with leaving := false, win := none } (requeue n s)
    if 4 ≤ laneStat s n then s else putLaneStat n 0 s

/-- What a boundary does to a lane once the commit's values stand; `timing` says that it wrote the bit timing. -/
def laneBoundary (timing : Bool) (n : Nat) (s : State) : State :=
  let s := if timing then
      let bad := !bitTimingOk s n
      let was := flag s (Reg.LANE_STAT n) 9
      let s := putFlag s (Reg.LANE_STAT n) 9 bad
      if bad && !was then leaveBus n true (raise (laneCode n 8) 1 s)
      else if bad then raise (laneCode n 8) 1 s
      else s
    else s
  let s := if !inService s n then leaveBus n false s
    else if (lane s n).leaving then putLane n { lane s n with leaving := false } s
    else s
  noteService n s

/-- The lane's transmit and receive error counters. -/
def laneTec (s : State) (n : Nat) : Nat := fld s (Reg.LANE_ERRCNT n) 24 16
def laneRec (s : State) (n : Nat) : Nat := fld s (Reg.LANE_ERRCNT n) 7 0

/-- ERRCNT's counters and flags, and the states they bring (R260). -/
def setErrors (n tec rec : Nat) (s : State) : State :=
  let e := Reg.LANE_ERRCNT n
  let was := flag s e 30
  let ep := 128 ≤ tec || 128 ≤ rec
  let s := putFlag (putFld (putFld s e 24 16 (min tec 511)) e 7 0 (min rec 255)) e 30 ep
  if 256 ≤ tec then
    let s := putFlag s e 31 true
    let s := raise (laneCode n 1) 1 (putLaneStat n 4 (requeue n s))
    if flag s (Reg.LANE_CFG n) 30 then
      noteService n (raise (laneCode n 9) 1 (putLaneStat n 5 s))
    else if flag s (Reg.LANE_CFG n) 29 then putLaneStat n 6 s
    else s
  else if ep then
    let s := if laneStat s n = 2 then putLaneStat n 3 s else s
    if was then s else raise (laneCode n 2) 0 s
  else if laneStat s n = 3 then putLaneStat n 2 s
  else s

/-- The format of a frame on the wire, and whether its data phase has a bit rate of its own: FD with BRS, and XL. -/
def wireData (s : State) (n : Nat) (src : WireSrc) : Bool :=
  let fast (d : List Byte) : Bool := dFmt d = 2 || (dFmt d = 1 && dField d 0 6 6 = 1)
  match src with
  | .queue q i => fast (queueDesc s q i)
  | .mapped x id => fast ((((lane s n).mapped.find? fun m => m.xtd = x && m.id = id).map (·.desc)).getD [])
  | .reference => fld s (Reg.TIME_LANE_REF n) 29 28 = 2
  | .echo _ => true

/-- A data phase that the lane has sent measures the loop delay, which with TDCO does not exceed 127 quanta (R244). (Log 166,
DESIGN CHOICE.) -/
def measureLoop (n : Nat) (s : State) : State :=
  if flag s (Reg.LANE_TDC n) 31 then
    let (f, s) := takeFree s
    putFld s (Reg.LANE_TDC n) 22 16 (f.toNat % (128 - fld s (Reg.LANE_TDC n) 6 0))
  else s

/-- The frame on the wire is complete: its request is done, and the transmit error counter falls (R258 to R260). -/
def wireSent (n : Nat) (s : State) : State :=
  match (lane s n).wire with
  | none => s
  | some src =>
    let s := when (wireData s n src) (measureLoop n) s
    let s := match src with
      | .queue q i => when (haspState s = 2) (sendRec "TXDONE") (putQState q i 0 s)
      | .mapped x d => putLane n { lane s n with mapped := (lane s n).mapped.filter fun m => !(m.xtd = x && m.id = d) } s
      | _ => s
    let s := bump (putLane n { lane s n with wire := none } s) (Reg.LANE_TXCNT n) 31 0
    setErrors n (laneTec s n - 1) (laneRec s n) s

/-- LANEn.CMD with OP = RECOVER; false where it is refused (R261, R262, R266). -/
def laneRecover (n : Nat) (s : State) : Bool × State :=
  if laneStat s n = 4 || laneStat s n = 5 then (true, noteService n (putLaneStat n 6 s)) else (false, s)

/-- Recovery ends: the lane is ACTIVE, or OFF where a boundary has taken it off the bus (R261, R262, R264). -/
def laneRecovered (n : Nat) (s : State) : State :=
  if laneStat s n = 6 then
    let off := !inService s n || flag s (Reg.LANE_STAT n) 9
    raise (laneCode n 3) 0 (putNat (putLaneStat n (if off then 0 else 2) s) (Reg.LANE_ERRCNT n) 0)
  else s

/-- A reception without error lowers the receive error counter as ISO 11898-1 has it (R260). (Log 80, DEDUCED.) -/
def goodReception (n : Nat) (s : State) : State :=
  let r := laneRec s n
  if !onBus s n || laneMon s n || r = 0 then s
  else if r ≤ 127 then setErrors n (laneTec s n) (r - 1) s
  else
    let (b, s) := takeFree s
    setErrors n (laneTec s n) (119 + b.toNat % 9) s

/-- A frame of TIME's own arrives without error: it takes the next receive buffer and lowers the error counter, and reaches
no node (R260, R266). (Log 167, DEDUCED.) -/
def receiveTime (n : Nat) (f : BusFrame) (s : State) : State :=
  if onBus s n && s.pads.pfailB then goodReception n (takeRxBuf n (rxBytes f 0 0 0 2048) s) else s

/-! Mapped frames (R425). -/

/-- Puts a point into a frame's data. -/
def putPointData (e : IoEntry) (v : Word) (d : List Byte) : List Byte :=
  if isBitCls (pcls e.key) then
    d.modify e.byteOff fun b => BitVec.ofNat 8 (withBits b.toNat e.bitNo e.bitNo v.toNat)
  else (List.range 4).foldl (fun d i => d.set (e.byteOff + i) (BitVec.ofNat 8 (v.toNat / 256 ^ i))) d

/-- The descriptor and data of the frame that a lane builds for an identifier from an image. -/
def mappedDesc (n win : Nat) (es : List IoEntry) (img : SMap Word) : List Byte :=
  match es with
  | [] => []
  | e :: _ =>
    let d := es.foldl (fun d e => putPointData e (imgGet img e.key) d) (List.replicate e.dlen 0)
    leBytes 4 (win * 256 + n + e.fmt * 16 + b2n e.brs * 64 + b2n e.xtd * 128) ++ leBytes 4 e.ident ++ leBytes 4 e.dlen ++
      List.replicate 20 0 ++ d

/-- Builds every mapped frame of every lane from the image that the frame carries; what has not gone is replaced. -/
def buildMapped (img : SMap Word) (s : State) : State :=
  let es := s.frm.iomap.filter fun e => e.kind = kindSend
  forAll (List.range 12) (fun s n =>
    let mine := es.filter fun e => e.chan = n
    let ids := (mine.map fun e => (e.xtd, e.ident)).eraseDups
    let ms := ids.map fun (x, id) =>
      let win := match nodeOf s n x id with
        | some j => fld s (Reg.LANE_NODE_CFG j) 21 16
        | none => 63
      ({ xtd := x, id := id, desc := mappedDesc n win (mine.filter fun e => e.xtd = x && e.ident = id) img,
         win := win } : MappedFrame)
    if (lane s n).mapped = ms then s else putLane n { lane s n with mapped := ms } s) s

end Sys2Proof.Machine
end

