-- ==== Sys2Proof/Machine/PnlPass.lean ====
section
/-! DEFINITION. The pass of the status panel that is in progress: the journal's levels, the rows driven so far, and its stop (R412,
R415, R416, R418). -/

namespace Sys2Proof.Machine

def pnlRows (s : State) : Nat := fld s Reg.PNL_CFG 7 0
def pnlCols (s : State) : Nat := fld s Reg.PNL_CFG 24 16

def jBase (s : State) : Nat := fld s Reg.PNL_JBASE_LO 31 19 * 2 ^ 19 + fld s Reg.PNL_JBASE_HI 0 0 * 2 ^ 32

def shownAddr (s : State) (l y x : Nat) : Nat := jBase s + 0x40 + l * 76800 + y * 320 + x
def targetAddr (s : State) (l y x : Nat) : Nat := jBase s + 0x38440 + l * 76800 + y * 320 + x

/-- Copies the driven columns of row `y` from TARGET to SHOWN. -/
def showRow (s : State) (y : Nat) : State :=
  forAll [0, 1, 2] (fun s l => unitStore (shownAddr s l y 0) (memBytes s (targetAddr s l y 0) (pnlCols s)) s) s

/-- PNL.STAT.STATE in a pass: REPAINT, and in an update CHECK up to the instant at which driving begins, DRIVING from then on. -/
def passState (j : PnlJob) (raw : Nat) : Nat := if j.repaint then 3 else if raw < j.startAt then 1 else 2

/-- Brings the pass in progress up to now: the rows of an update whose commons have been driven, the state and the row being
driven. -/
def pnlTo (s : State) : State :=
  match s.pnl.job with
  | none => s
  | some j =>
    let n := j.last + 1 - j.first
    let k := min n ((s.raw - j.startAt) / max 1 j.per)
    let s := if j.repaint then s else forAll ((List.range (k - j.done)).map (· + j.first + j.done)) showRow s
    let s := putFld s Reg.PNL_STAT 2 0 (passState j s.raw)
    putFld { s with pnl := { s.pnl with job := some { j with done := max k j.done } } } Reg.PNL_STAT 31 24 (j.first + min k (n - 1))

/-- PNL stops at once: at PFAIL, at a reset, and where the module becomes a standby (R416, R418). It stands IDLE then; the journal
keeps what it holds. (Log 115, DEDUCED.) -/
def pnlStop (s : State) : State :=
  let s := pnlTo s
  let s := if s.pnl.job.isSome || s.pnl.waiting then putFld (putFld s Reg.PNL_STAT 2 0 0) Reg.PNL_STAT 31 24 0 else s
  { s with pnl := { s.pnl with job := none, waiting := false, hven := false, hvenOff := none } }

end Sys2Proof.Machine
end

