-- ==== Sys2Proof/Machine/TimeOps.lean ====
section
/-! DEFINITION. TIME: the discipline of device time, mapping pieces and steps, the matrix check, references, echo exchanges,
the pulse per second and time events (R268 to R298). -/

namespace Sys2Proof.Machine

/-! Open roundings. -/

/-- A quotient whose rounding the manual does not state: the floor or, where it is not whole, the next number above. (Log 89, DESIGN CHOICE.) -/
def divOpen (a b : Int) (s : State) : Int × State :=
  if a % b = 0 then (a / b, s)
  else
    let (f, s) := takeFree s
    (a / b + (if f.getLsbD 0 then 1 else 0), s)

/-! The discipline (R272 to R278). -/

/-- TIME.STAT.STATE: 0 FREE, 1 ACQUIRING, 2 LOCKED, 3 HOLDOVER. -/
def discState (s : State) : Nat := fld s Reg.TIME_STAT 2 0

/-- The discipline state and its change cause (R442). -/
def setDisc (v : Nat) (s : State) : State := if discState s = v then s else cause 10 (putFld s Reg.TIME_STAT 2 0 v)

/-- TIME.LANE[n].STAT.ROLE: 0 NONE, 1 MASTER, 2 BACKUP, 3 FOLLOWER. -/
def role (s : State) (n : Nat) : Nat := fld s (Reg.TIME_LANE_STAT n) 1 0
/-- (Log 135, DEDUCED.) -/
def putRole (n v : Nat) (s : State) : State := putFld s (Reg.TIME_LANE_STAT n) 1 0 v

def srcLane (s : State) : Nat := fld s Reg.TIME_CFG 7 4

/-- The device is the elected master of the lane it would follow (R285). -/
def selfMaster (s : State) : Bool := fld s Reg.TIME_CFG 2 0 = 1 && role s (srcLane s) = 1

/-- The source that disciplines device time now: 0 FREE, 1 LANE, 2 PPS, 3 the hasp (R272, R273). -/
def sourceNow (s : State) : Nat :=
  if haspState s = 3 || haspState s = 4 || haspState s = 5 then 3
  else if selfMaster s then 0 else fld s Reg.TIME_CFG 2 0

/-- TIME.STAT.USED and SELFMASTER follow the source. -/
def showSource (s : State) : State :=
  putFlag (putFld s Reg.TIME_STAT 19 16 (sourceNow s)) Reg.TIME_STAT 8 (selfMaster s && sourceNow s ≠ 3)

/-- Device time may step forward (R274). -/
def mayStep (s : State) : Bool := !s.frm.ticking || curMode s = modeStop

/-- DISC is due in the next reference of every lane (R284). -/
def markDisc (s : State) : State := forAll (List.range 12) (fun s n => if role s n = 1 then putLane n { lane s n with disc := true } s else s) s

/-- Selects the source anew (R277): with none, device time runs on REFCLK with rate 0. -/
def selectSource (s : State) : State :=
  let s := showSource s
  let s := { s with time := { s.time with good := 0, bad := 0, ticksNoSample := 0, since := now s } }
  if sourceNow s = 0 then setDisc 0 { s with time := { s.time with rate := 0, ratei := 0 } } else setDisc 1 s

/-- The source in use may have changed with the role of a lane or the HASP state; a module that becomes PRIMARY goes over
to SRC as it stands (R273). -/
def followSource (s : State) : State :=
  let was := fld s Reg.TIME_STAT 19 16
  let cur := sourceNow s
  if was = cur then showSource s
  else if was = 3 && haspState s = 2 && cur ≠ 0 then
    showSource { s with time := { s.time with ticksNoSample := 0, since := now s } }
  else selectSource (markDisc s)

/-- The module goes to UNSYNC, where it follows the partner's time (R273). -/
def toUnsync (s : State) : State := followSource (pnlStop (setHaspState 5 s))

/-- What a standby holds of the primary's frames is dropped. -/
def dropShadow (s : State) : State :=
  { s with hasp := { s.hasp with posQ := [], accQ := [], imgFrame := none, rx := [], ownSample := [], commitsDue := [],
                                 shadow := [], finalHeld := false, watch := none, retry := none, yielded := none } }

/-- The module is out of step: it shadows no more, and the frame in progress is not committed. (Log 63, DEDUCED.) -/
def leaveStep (s : State) : State :=
  let s := specDiscard (dropShadow s)
  let s := { s with frm := { s.frm with running := none, compute := false, pendingCommit := none } }
  wardRefresh (toUnsync (putFld s Reg.HASP_XFERSTAT 2 0 0))

/-- ±200 ppm in units of 2^-40. -/
def rateMax : Int := 219902326

def clampRate (r : Int) : Int := min rateMax (max (-rateMax) r)

def stepThr (s : State) : Int := (fld s Reg.TIME_CFG 23 16 : Int) * 1000

/-- The counts of samples in a row, and the state they bring (R277). -/
def judgeSample (o : Int) (s : State) : State :=
  let a := o.natAbs
  let good := if a ≤ 10 then s.time.good + 1 else 0
  let bad := if 20 < a then s.time.bad + 1 else 0
  let st := discState s
  let s := { s with time := { s.time with good := good, bad := bad, ticksNoSample := 0, since := now s, lastSample := some (now s) } }
  if st = 3 then setDisc 1 { s with time := { s.time with good := if a ≤ 10 then 1 else 0, bad := if 20 < a then 1 else 0 } }
  else if st = 1 && 16 ≤ good then raise 0x2003 0 (setDisc 2 s)
  else if st = 2 && 2 ≤ bad then setDisc 1 { s with time := { s.time with good := 0, bad := 0 } }
  else s

/-- An offset sample acts on the rate, or makes a forward step due at the next tick (R274). -/
def sample (o : Int) (s : State) : State :=
  let s := putReg s Reg.TIME_OFFSET (BitVec.ofInt 32 (max (-2147483648) (min 2147483647 o)))
  if mayStep s && decide (o < -stepThr s) then
    let s := { s with time := { s.time with stepBy := some (-o).toNat, ratei := 0, good := 0, bad := 0, ticksNoSample := 0,
                                            since := now s, lastSample := some (now s) } }
    setDisc 1 s
  else
    let (t, s) : Nat × State := match s.time.lastSample with
      | some l => (max 1 (now s - l), s)
      | none =>
        let (f, s) := takeFree s
        (f.toNat + 1, s)
    let (di, s) := divOpen (o * 2 ^ 40) (64 * (t : Int)) s
    let (dp, s) := divOpen (o * 2 ^ 40) (8 * (t : Int)) s
    let ri := clampRate (s.time.ratei - di)
    let s := { s with time := { s.time with ratei := ri, rate := clampRate (ri - dp) } }
    let out := decide (stepThr s < o.natAbs)
    let s := if out && !s.time.far then raise 0x2001 1 s else s
    judgeSample o { s with time := { s.time with far := out } }

/-- HOLDOVER (R278). -/
def enterHoldover (s : State) : State :=
  let s := { s with time := { s.time with rate := s.time.ratei } }
  raise 0x2002 1 (bump (setDisc 3 s) Reg.TIME_EVCNT 15 0)

/-! Mapping pieces and steps (R270, R271, R276, R295). -/

/-- Begins a mapping piece at the present raw count. -/
def newPiece (t : Nat) (rate : Int) (s : State) : State :=
  let r0 := mapRaw s 0
  let t0 := mapTime s 0
  let k0 := getReg s (Reg.TIME_MAP_RATE 0)
  let s := putReg (putPair (putPair s (Reg.TIME_MAP_RAW_LO 1) r0) (Reg.TIME_MAP_TIME_LO 1) t0) (Reg.TIME_MAP_RATE 1) k0
  putReg (putPair (putPair s (Reg.TIME_MAP_RAW_LO 0) s.raw) (Reg.TIME_MAP_TIME_LO 0) t) (Reg.TIME_MAP_RATE 0) (BitVec.ofInt 32 rate)

/-- A trigger of time event `i` at an instant, counted in FIRED (R296). -/
def fireTimeEvent (i at' : Nat) (s : State) : State :=
  bump (trigger 8 i at' s) (Reg.TIME_TEV_CFG i) 15 0

def tevAt (s : State) (i : Nat) : Nat := pair s (Reg.TIME_TEV_AT_LO i)
def tevPer (s : State) (i : Nat) : Nat := regNat s (Reg.TIME_TEV_PER i) * 10
def tevEn (s : State) (i : Nat) : Bool := flag s (Reg.TIME_TEV_CFG i) 31

/-- What a step from `old` to `new` does to the time events it jumps over (R276). -/
def stepEvents (old new : Nat) (s : State) : State :=
  forAll ((List.range 16).filter fun i => tevEn s i && old ≤ tevAt s i && tevAt s i < new) (fun s i =>
    let at' := tevAt s i
    let per := tevPer s i
    let s := fireTimeEvent i at' s
    if per = 0 then putFlag s (Reg.TIME_TEV_CFG i) 31 false
    else putPair s (Reg.TIME_TEV_AT_LO i) (at' + (new - at' + per - 1) / per * per)) s

/-- What a step from `old` to `t` does once device time stands behind it (R276). The time since the previous sample leaves the
step out (R274). -/
def stepOver (old t : Nat) (s : State) : State :=
  let s := settleEdges (stepEvents old t (jumpFilters old t s))
  let s := raise 0x2004 0 (bump s Reg.TIME_EVCNT 31 16)
  let s := markDisc { s with time := { s.time with lastSample := s.time.lastSample.map (· + (t - old)) } }
  if sourceNow s = 0 then s
  else setDisc 1 { s with time := { s.time with good := 0, bad := 0, ticksNoSample := 0, since := now s } }

/-- What TIME does first at a tick: the steps that are due, or a new piece for a changed rate; one piece takes them all (R270).
Whether a STEP may be made is judged before the tick (R295). -/
def timeTick (s : State) : State :=
  let s := { s with time := { s.time with ticksNoSample := s.time.ticksNoSample + 1 } }
  let t0 := now s
  let t1 := t0 + s.time.stepBy.getD 0
  let t2 := pair s Reg.TIME_SETTIME_LO
  let cmd := s.time.stepCmd
  let ok := cmd && mayStep s && decide (t1 ≤ t2)
  let steps := (if s.time.stepBy.isSome then [(t0, t1)] else []) ++ if ok then [(t1, t2)] else []
  let s := { s with time := { s.time with stepBy := none, stepCmd := false } }
  let s := if steps.isEmpty then s else newPiece (if ok then t2 else t1) s.time.rate s
  let s := forAll steps (fun s p => stepOver p.1 p.2 s) s
  let s := when (cmd && !ok) (raise 0x2009 0) s
  if s.time.rate ≠ mapRate s 0 then newPiece (now s) s.time.rate s else s

/-- TIME.CMD (R295); false is a refusal. -/
def timeCommand (v : Nat) (s : State) : Bool × State :=
  if bits v 31 16 ≠ 0x544D then (false, s)
  else match bits v 1 0 with
    | 0 => (true, s)
    | 1 =>
      if mayStep s && now s ≤ pair s Reg.TIME_SETTIME_LO then (true, { s with time := { s.time with stepCmd := true } })
      else (false, s)
    | _ => (false, s)

/-- TIME.CTRCLR (R297). -/
def timeCtrClr (s : State) : State :=
  let s := putNat s Reg.TIME_EVCNT 0
  forAll (List.range 12) (fun s n =>
    forAll (List.range 48) (fun s w => putNat s (Reg.TIME_LANE_WIN_LATE n w) 0) (putNat s (Reg.TIME_LANE_OFFWIN n) 0)) s

/-- Time event i fires at its instant, or at once where that lies in the past (R296). -/
def timeEvent (i : Nat) (s : State) : State :=
  if i < 16 && tevEn s i then
    let at' := tevAt s i
    let s := advanceToTime at' s
    let s := fireTimeEvent i at' s
    if tevPer s i = 0 then putFlag s (Reg.TIME_TEV_CFG i) 31 false else putPair s (Reg.TIME_TEV_AT_LO i) (at' + tevPer s i)
  else s

/-! The matrix check (R281). -/

/-- The cycles in which window w of lane n would occur. -/
def winCycles (s : State) (n w : Nat) : List Nat :=
  (List.range (2 ^ fld s (Reg.TIME_LANE_MX n) 2 0)).filter fun c => winInCycle s n w c

/-- The parts of a frame of `f` ns that the reference slot of lane n covers (R283). -/
def refSlot (s : State) (n f : Nat) : List (Nat × Nat) :=
  let lead := fld s (Reg.TIME_LANE_REFLEAD n) 19 0 * 10
  let len := fld s (Reg.TIME_LANE_REFLEN n) 19 0 * 10
  let a := (f - lead % f) % f
  if f < a + len then [(a, f), (0, a + len - f)] else [(a, a + len)]

/-- Two spans overlap. -/
def spansMeet (a b c d : Nat) : Bool := a < d && c < b

/-- Window w passes every check of R281 for a frame of `f` ns; `ws` are the enabled windows of the lane. -/
def winPasses (s : State) (n f w : Nat) (ws : List Nat) : Bool :=
  let a := winStart s n w
  let b := a + winLen s n w
  let cs := winCycles s n w
  let dir := fld s (winCfg n w) 21 20
  b ≤ f && (dir ≠ 0 || b ≤ winNs s) && (dir ≠ 1 || ccNs s + 3000 ≤ a) &&
  (ws.all fun v => v = w || !(spansMeet a b (winStart s n v) (winStart s n v + winLen s n v)) ||
    !((winCycles s n v).any cs.contains)) &&
  (winKind s n w ≠ 2 || cs.all fun c => ws.any fun v =>
    v ≠ w && winInCycle s n v c && (winKind s n v = 1 || winKind s n v = 2) && winStart s n v + winLen s n v = a) &&
  (!flag s (Reg.TIME_LANE_REF n) 31 || (refSlot s n f).all fun p => !(spansMeet a b p.1 p.2))

/-- Checks every enabled window of every lane against the periods given, in ns, and raises MATRIX_BAD (R281). -/
def matrixCheck (fs : List Nat) (s : State) : State :=
  forAll (List.range 12) (fun s n =>
    let ws := (List.range 48).filter fun w => flag s (winCfg n w) 31
    let bad := ws.filter fun w => !(fs.all fun f => winPasses s n f w ws)
    let m := bad.foldl (fun m w => m + 2 ^ w) 0
    let s := putNat (putNat s (Reg.TIME_LANE_WINBAD_LO n) m) (Reg.TIME_LANE_WINBAD_HI n) (m / 2 ^ 32)
    let s := putFlag s (Reg.TIME_LANE_STAT n) 2 (m ≠ 0)
    if m ≠ 0 then raise (0x2010 + n) 1 s else s) s

/-! References (R282 to R285). -/

/-- The format of the lane's reference is enabled on it (R284). -/
def refFmtOk (s : State) (n : Nat) : Bool :=
  match fld s (Reg.TIME_LANE_REF n) 29 28 with
  | 0 => true
  | 1 => flag s (Reg.LANE_CFG n) 27
  | 2 => flag s (Reg.LANE_CFG n) 26
  | _ => false

/-- The data of a reference (R284). -/
def refData (s : State) (n c : Nat) (disc : Bool) (prev : Nat) : List Byte :=
  let b0 := BitVec.ofNat 8 (c + b2n disc * 128)
  if fld s (Reg.TIME_LANE_REF n) 29 28 = 0 then b0 :: leBytes 7 prev
  else b0 :: BitVec.ofNat 8 (fld s (Reg.TIME_LANE_REF n) 2 0) :: List.replicate 6 0 ++ leBytes 8 prev

/-- The descriptor and data of a frame that TIME sends. -/
def timeDesc (n fmt : Nat) (brs : Bool) (id : Nat) (data : List Byte) : List Byte :=
  leBytes 4 (n + fmt * 16 + b2n brs * 64 + 63 * 256) ++ leBytes 4 id ++ leBytes 4 data.length ++ List.replicate 20 0 ++ data

/-- A lane's role changes, and with it perhaps the source. -/
def takeRole (n v : Nat) (s : State) : State := followSource (putRole n v s)

/-- A potential master starts its reference of the next cycle at T0 − REFLEAD; `won` says that it wins arbitration. (Log 90, DEDUCED.) -/
def sendReference (n : Nat) (won : Bool) (s : State) : State :=
  if n < 12 && flag s (Reg.TIME_LANE_REF n) 31 && refFmtOk s n && s.frm.ticking then
    let lead := fld s (Reg.TIME_LANE_REFLEAD n) 19 0 * 10
    let f := if lead = 0 then fnum s else fnum s + 1
    let s := advanceToTime (tickAt s f - lead) s
    if !maySend s n then s
    else
      let first := role s n ≠ 1
      let s := if won then takeRole n 1 s else s
      let l := lane s n
      let (prev, s) : Nat × State := match l.sentStamp with
        | some t => (t, s)
        | none =>
          let (b, s) := takeFree s
          (b.toNat, s)
      let d := refData s n (cycleOf s n f) (first || l.disc) prev
      let s := takeTxBuf n (timeDesc n (fld s (Reg.TIME_LANE_REF n) 29 28) false (fld s (Reg.TIME_LANE_REF n) 10 0) d) s
      if won then
        putLane n { lane s n with sentStamp := some (stampTime s n s.raw), disc := false, wire := some .reference } s
      else takeRole n 2 s
  else s

/-- The frame that a reference came in: what the message does not tell of it is free. -/
def refFrame (q : RefMsg) (s : State) : BusFrame × State :=
  let (f, s) := takeFree s
  let (g, s) := takeFree s
  let xl := !q.cc && f.getLsbD 0
  let b0 := BitVec.ofNat 8 (q.cycle % 64 + b2n q.disc * 128)
  let data := if q.cc then b0 :: leBytes 7 q.time
    else b0 :: BitVec.ofNat 8 (q.id.toNat % 8) :: List.replicate 6 0 ++ leBytes 8 q.time
  ({ fmt := if q.cc then 0 else if xl then 2 else 1, xtd := false, id := q.id.setWidth 29, brs := !q.cc && !xl && f.getLsbD 1,
     esi := !q.cc && !xl && f.getLsbD 2, sec := xl && f.getLsbD 3, sdt := if xl then BitVec.ofNat 8 (f.toNat / 2 ^ 8) else 0,
     vcid := if xl then BitVec.ofNat 8 (f.toNat / 2 ^ 16) else 0, af := BitVec.ofNat 32 g.toNat,
     crc := BitVec.ofNat 32 (g.toNat / 2 ^ 32), stamp := q.stamp, data := data }, s)

/-- A follower or a backup receives the elected master's reference (R285). -/
def receiveReference (n : Nat) (q : RefMsg) (s : State) : State :=
  let cfg := Reg.TIME_LANE_REF n
  if n < 12 && onBus s n && s.pads.pfailB && q.id.toNat / 8 = fld s cfg 10 3 then
    let (f, s) := refFrame q s
    let s := receiveTime n f s
    let s := takeRole n (if flag s cfg 31 then 2 else 3) s
    let l := lane s n
    let t := stampTime s n q.stamp
    let reported := if q.cc then now s / 2 ^ 56 * 2 ^ 56 + q.time % 2 ^ 56 else q.time
    let s := putLane n { l with refStamp := some t } s
    let s := match l.refStamp with
      | some p =>
        if sourceNow s = 1 && srcLane s = n && !q.disc then
          let (o, s) := divOpen (2 * ((p : Int) - reported) - (l.echoDelay.getD 0 : Nat)) 2 s
          sample o s
        else s
      | none => s
    let lead := fld s (Reg.TIME_LANE_REFLEAD n) 19 0 * 10
    let p := periodOf s (if tickAt s (fnum s) + frameNs s / 2 ≤ t + lead then fnum s + 1 else fnum s)
    let c := (t + lead + p / 2) / p % 2 ^ fld s (Reg.TIME_LANE_MX n) 2 0
    if q.cycle ≠ c then
      let due := match (lane s n).cycAt with
        | some a => decide (a + 10 ^ 9 ≤ now s)
        | none => true
      if due then raise 0x2008 0 (putLane n { lane s n with cycAt := some (now s) } s) else s
    else s
  else s

/-! Echo exchanges (R287 to R289). -/

def echoCfg (n : Nat) : Nat := Reg.TIME_LANE_ECHO n

/-- The node entries of a lane that take part, in ascending order. -/
def echoNodes (s : State) (n : Nat) : List Nat :=
  (validNodes s).filter fun j => fld s (Reg.LANE_NODE_CFG j) 27 24 = n && flag s (Reg.LANE_NODE_CFG j) 30

/-- The 16 data bytes of an echo frame. -/
def echoData (j : Nat) (seq : Byte) (w4 w8 w12 : Nat) : List Byte :=
  leBytes 2 j ++ [seq, 0] ++ leBytes 4 w4 ++ leBytes 4 w8 ++ leBytes 4 w12

/-- The frame that an echo message came in, with the offset of its identifier from ECHOID; its CRC field is free. -/
def echoFrame (n k : Nat) (q : EchoMsg) (s : State) : BusFrame × State :=
  let (f, s) := takeFree s
  ({ fmt := 1, xtd := false, id := BitVec.ofNat 29 (fld s (echoCfg n) 26 16 + k), brs := true, esi := f.getLsbD 32,
     crc := BitVec.ofNat 32 f.toNat, stamp := q.stamp, data := echoData q.addr q.seq q.w4.toNat q.w8.toNat q.w12.toNat }, s)

/-- An echo frame arrives, and the lane does with it what its part in the exchange asks. -/
def echoArrives (n k : Nat) (q : EchoMsg) (f : Nat → EchoMsg → State → State) (s : State) : State :=
  if onBus s n && s.pads.pfailB then
    let (b, s) := echoFrame n k q s
    f n q (receiveTime n b s)
  else s

/-- Sends an echo frame: FD with bit rate switching. -/
def sendEcho (n id j : Nat) (seq : Byte) (w4 w8 w12 : Nat) (s : State) : State :=
  let s := takeTxBuf n (timeDesc n 1 true id (echoData j seq w4 w8 w12)) s
  putLane n { lane s n with wire := some (.echo j) } s

/-- A master begins the exchange of this occurrence of its echo window with the next node. -/
def startEcho (n : Nat) (s : State) : State :=
  if flag s (echoCfg n) 31 && role s n = 1 && flag s (Reg.LANE_CFG n) 27 && maySend s n then
    let js := echoNodes s n
    let l := lane s n
    match (js.find? fun j => l.echoNext ≤ j).orElse fun _ => js.head? with
    | some j =>
      let seq := l.echoSeq + 1
      let s := sendEcho n (fld s (echoCfg n) 26 16) j seq 0 0 0 s
      putLane n { lane s n with echoNow := some (j, stampTime s n s.raw), echoNext := j + 1, echoSeq := seq } s
    | none => s
  else s

/-- The signed difference of two 32-bit times. -/
def diff32 (a b : Nat) : Int := (BitVec.ofInt 32 ((a : Int) - b)).toInt

/-- The master receives the RSP of its exchange: it takes the delay and the offset of its previous exchange with the node,
and sends them in RES. (Log 91, DEDUCED.) -/
def echoResponse (n : Nat) (q : EchoMsg) (s : State) : State :=
  match (lane s n).echoNow with
  | some (j, t1) =>
    if q.addr ≠ j || q.seq ≠ (lane s n).echoSeq then s
    else
      let t4 := stampTime s n q.stamp
      let l := lane s n
      let s := putLane n { l with echoNow := none, echoFails := alDel l.echoFails j,
                                  echoPrev := alPut l.echoPrev j (t1, q.w8.toNat, t4),
                                  wire := if l.wire = some (.echo j) then none else l.wire } s
      let s := bump s (Reg.TIME_EDLY j) 30 16
      match alGet l.echoPrev j with
      | some (p1, p2, p4) =>
        let t3 := q.w12.toNat
        let d2 := diff32 p4 p1 - diff32 t3 p2
        let (th, s) := divOpen (diff32 p2 p1 - diff32 p4 t3) 2 s
        let e := fld s (Reg.TIME_EDLY j) 15 0
        let (g, s) := divOpen (d2 - e) 8 s
        let s := putFlag (putFld s (Reg.TIME_EDLY j) 15 0 (BitVec.ofInt 16 ((e : Int) + g)).toNat) (Reg.TIME_EDLY j) 31 true
        if maySend s n then
          sendEcho n (fld s (echoCfg n) 26 16 + 2) j q.seq (BitVec.ofInt 32 d2).toNat (BitVec.ofInt 32 th).toNat 0 s
        else s
      | none => s
  | none => s

/-- The exchange in progress ends without an RSP (R288). -/
def echoMissed (n : Nat) (s : State) : State :=
  match (lane s n).echoNow with
  | some (j, _) =>
    let l := lane s n
    let k := (alGet l.echoFails j).getD 0 + 1
    let due := match alGet l.echoFailAt j with
      | some a => decide (a + 10 ^ 9 ≤ now s)
      | none => true
    let s := putLane n { l with echoNow := none, echoFails := alPut l.echoFails j k,
                                echoFailAt := if due then alPut l.echoFailAt j (now s) else l.echoFailAt,
                                wire := if l.wire = some (.echo j) then none else l.wire } s
    let s := if 4 ≤ k then putFlag s (Reg.TIME_EDLY j) 31 false else s
    if due then raise 0x2007 0 s else s
  | none => s

/-- A following device answers a REQ that carries its own address (R289). -/
def echoAnswer (n : Nat) (q : EchoMsg) (s : State) : State :=
  if n < 12 && (role s n = 2 || role s n = 3) && q.addr = fld s (echoCfg n) 9 0 && flag s (Reg.LANE_CFG n) 27 && maySend s n then
    let t2 := stampTime s n q.stamp
    let s' := sendEcho n (fld s (echoCfg n) 26 16 + 1) q.addr q.seq 0 t2 (lane s n).echoT3 s
    putLane n { lane s' n with echoT3 := stampTime s n s.raw % 2 ^ 32 } s'
  else s

/-- A node receives RES: it takes the delay, and the offset θ corrects its time as an offset sample (R287, R289). -/
def echoResult (n : Nat) (q : EchoMsg) (s : State) : State :=
  if n < 12 && (role s n = 2 || role s n = 3) && q.addr = fld s (echoCfg n) 9 0 then
    let s := putLane n { lane s n with echoDelay := some q.w4.toNat } s
    if sourceNow s = 1 && srcLane s = n then sample q.w8.toInt s else s
  else s

/-! The pulse per second (R291) and the field counters (R292). -/

/-- TIME_OUT rises at the next whole second of device time. -/
def ppsRise (s : State) : State :=
  if flag s Reg.TIME_PPS 31 && !s.pads.timeOut then
    let s := advanceToTime ((now s + 10 ^ 9 - 1) / 10 ^ 9 * 10 ^ 9) s
    { s with pads := { s.pads with timeOut := true } }
  else s

/-- TIME_OUT falls WIDTH µs after the second at which it rose. -/
def ppsFall (s : State) : State :=
  if s.pads.timeOut then
    let s := advanceToTime (now s / 10 ^ 9 * 10 ^ 9 + fld s Reg.TIME_PPS 7 0 * 1000) s
    { s with pads := { s.pads with timeOut := false } }
  else s

/-- A rising edge on TIME_IN. -/
def timeIn (s : State) : State :=
  if flag s Reg.TIME_PPS 30 then
    let t := now s
    let s := putPair s Reg.TIME_PPSCAP_LO t
    if sourceNow s = 2 then
      let r : Nat := t % 10 ^ 9
      if r ≤ 500000 then sample (r : Nat) s
      else if 10 ^ 9 - 500000 ≤ r then sample ((r : Int) - 10 ^ 9) s
      else
        let due := match s.time.ppsBadAt with
          | some a => decide (a + 10 ^ 9 ≤ t)
          | none => true
        if due then raise 0x2005 0 { s with time := { s.time with ppsBadAt := some t } } else s
    else s
  else s

/-- Each counter is realigned; one found out sets its bit, and a bit that becomes 1 raises FIELD_ALIGN (R292). (Log 93, DEDUCED.) -/
def realign (out : BitVec 18) (s : State) : State :=
  let was := fld s Reg.TIME_FSTAT 17 0
  let s := putFld s Reg.TIME_FSTAT 17 0 out.toNat
  if (out &&& ~~~ BitVec.ofNat 18 was) ≠ 0 then raise 0x2006 1 s else s

/-- No sample has come for 8 ticks, or from PPS for 3 s (R277, R278). (Log 92, DEDUCED.) -/
def sourceLost (s : State) : State :=
  if discState s = 1 || discState s = 2 then
    if sourceNow s = 2 then enterHoldover (advanceToTime (s.time.since + 3 * 10 ^ 9) s)
    else if sourceNow s ≠ 0 && 8 ≤ s.time.ticksNoSample then enterHoldover s
    else s
  else s

/-! Windows that open, and what goes in them (R258, R280). -/

/-- A window opens for a lane on the bus: it runs its echo exchange there (R287) and offers its best frame (R258, R280). An
occurrence that began before the lane was integrated does not count (R263). -/
def windowOpens (n w : Nat) (s : State) : State :=
  let start := tickAt s (fnum s) + if w < 48 then winStart s n w else 0
  if onBus s n && s.frm.ticking && winIsOpen s n w && (lane s n).win ≠ some w && (lane s n).upAt ≤ start then
    let s := if w < 48 then advanceToTime (tickAt s (fnum s) + winStart s n w) s else s
    let s := putLane n { lane s n with win := some w } s
    offer n w (if fld s (echoCfg n) 15 10 = w then startEcho n s else s)
  else s

/-- The window that is open takes the next frame, if its kind carries more than one. -/
def offerAgain (n : Nat) (s : State) : State :=
  match (lane s n).win with
  | some w => if arbitrates s n w then offer n w s else s
  | none => s

/-- Every lane whose open window carries arbitration takes the next frame that has come to it. -/
def offerOpen (s : State) : State := forAll (List.range 12) (fun s n => offerAgain n s) s

/-- The tick ends every occurrence of the frame before, and opens the window that is the whole frame (R279). -/
def openWhole (s : State) : State :=
  forAll (List.range 12) (fun s n =>
    let s := if (lane s n).win.isSome then putLane n { lane s n with win := none } s else s
    windowOpens n 63 s) s

end Sys2Proof.Machine
end

