-- ==== Sys2Proof/Machine/LeafOps.lean ====
section
/-! DEFINITION. The leaves and the knuckle: the vote, leaving and rejoining it, failures and quarantine (R142 to R166). Leaf A
is 0, B 1, C 2. -/

namespace Sys2Proof.Machine

/-- LEAF.STAT of one leaf: 0 IN_VOTE, 1 RESTARTING, 2 WAITING, 3 LOADING, 4 READY, 5 QUARANTINED (R164). -/
def leafSt (s : State) (l : Nat) : Nat := fld s Reg.LEAF_STAT (4 * l + 2) (4 * l)

/-- The leaves in the vote. -/
def inVote (s : State) : List Nat := [0, 1, 2].filter fun l => leafSt s l = 0

/-- The least number of leaves in the vote (R146). -/
def voteMin (s : State) : Nat := if flag s Reg.LEAF_CFG 0 then 1 else 2

/-- The leaves stand halted after a split or a no_leaf: VOTE reads 0 (R163). -/
def splitHalt (s : State) : Bool := s.leaf.actHalt && fld s Reg.LEAF_STAT 17 16 = 0

/-- VOTE and SIMPLEXACT follow the leaves; SIMPLEX is raised when the vote falls to one leaf (R149). -/
def refreshVote (s : State) : State :=
  let n := (inVote s).length
  let was := flag s Reg.LEAF_STAT 20
  let s := if splitHalt s then s else putFld s Reg.LEAF_STAT 17 16 n
  let s := putFlag s Reg.LEAF_STAT 20 (n = 1 && voteMin s = 1)
  if n = 1 && voteMin s = 1 && !was then raise 0x0533 1 s else s

def putLeafSt (l v : Nat) (s : State) : State := putFld s Reg.LEAF_STAT (4 * l + 2) (4 * l) v

/-- LEAF.STAT.HALTED: the leaves are halted by debug or HOLD. -/
def refreshHalted (s : State) : State := putFlag s Reg.LEAF_STAT 24 (s.leaf.dbgHalt || curMode s = modeHold)

/-- LEAF.LASTEV. -/
def leafEvent (cause l : Nat) (s : State) : State :=
  putNat s Reg.LEAF_LASTEV (fnum s % 2 ^ 16 * 2 ^ 16 + cause * 2 ^ 8 + l)

/-- The frame of the next CC. -/
def nextCc (s : State) : Nat := if s.raw < rawAt s (ccAt s (fnum s)) then fnum s else fnum s + 1

/-- The frame M of the checkpoint from which a leaf that is out rejoins (R157). -/
def rejoinFrame (s : State) (l : Nat) : Nat := (alGet s.leaf.loadFrom l).getD (nextCc s)

/-- Run-ahead for a frame is barred by a leaf that is out of the vote and rejoins in it (R158). -/
def leafBars (s : State) (f : Nat) : Bool :=
  [0, 1, 2].any fun l => leafSt s l ≠ 0 && leafSt s l ≠ 5 && rejoinFrame s l + 1 = f

/-- Run-ahead work for the frame in which a leaf that leaves now rejoins is discarded (R158). -/
def discardFor (f : Nat) (s : State) : State := if s.spec.frame = some f then specDiscard s else s

/-- A leaf is quarantined (R160). -/
def quarantine (l : Nat) (s : State) : State :=
  raise (0x0520 + l) 1 (refreshVote (leafEvent 5 l (putLeafSt l 5 s)))

/-- A reset wider than LFR is in progress: a CDR, or a POR or DRST up to the first tick of its start. (Log 48, DEDUCED.) -/
def widerReset (s : State) : Bool := !s.frm.ticking || s.flt.cdr.isSome

/-- A narrower reset was discarded (R32). -/
def discardReset (s : State) : State := putFlag s Reg.SYS_RSTCAUSE 7 true

/-- A leaf leaves the vote and its tumbler is restarted. -/
def leaveVote (cause l : Nat) (s : State) : State :=
  let s := { s with leaf := { s.leaf with loadFrom := alDel s.leaf.loadFrom l } }
  let s := leafEvent cause l (putLeafSt l 1 s)
  discardFor (nextCc s + 1) s

/-- A failure of a leaf; one at most 1 s after the previous quarantines it (R160). (Log 60, DEDUCED.) -/
def leafFails (l : Nat) (s : State) : State :=
  let prev := alGet s.leaf.lastFail l
  let s := { s with leaf := { s.leaf with lastFail := alPut s.leaf.lastFail l (now s) } }
  match prev with
  | some t => if now s ≤ t + 10 ^ 9 then quarantine l s else s
  | none => s

/-- A tumbler mismatch of one leaf (R144, R159); inside a wider reset, which restarts the leaf itself, its LFR is discarded
(R32). (Log 155, DEDUCED.) -/
def mismatch (l : Nat) (s : State) : State :=
  if leafSt s l = 1 || leafSt s l = 5 then s
  else
    let s := if widerReset s then discardReset (leafEvent 1 l s) else leaveVote 1 l s
    leafFails l (raise (0x0510 + l) 1 (bump s (Reg.LEAF_FAILCNT l) 31 16))

/-- A leaf is outvoted (R148). -/
def outvote (l : Nat) (s : State) : State :=
  let s := bump (leaveVote 2 l s) (Reg.LEAF_FAILCNT l) 15 0
  refreshVote (leafFails l (raise (0x0518 + l) 1 s))

/-- A split, no_leaf or knuckle error: nothing is issued, and every leaf halts (R150, R151). -/
def voteFault (code : Nat) (s : State) : State :=
  raise code 2 (putFld (leafEvent 7 3 s) Reg.LEAF_STAT 17 16 0)

/-- Issues an output. -/
def issue (o : Option Nat) (s : State) : State := { s with leaf := { s.leaf with issued := o } }

/-- The decision of R146 once the mismatching leaves have left; `o` gives each leaf's output. -/
def vote (o : Nat → Option Nat) (s : State) : State :=
  let v := inVote s
  if v.length < voteMin s then voteFault 0x0531 s
  else
    match v with
    | [a, b, c] =>
      if o a = o b ∧ o b = o c then issue (o a) s
      else if o a = o b then outvote c (issue (o a) s)
      else if o a = o c then outvote b (issue (o a) s)
      else if o b = o c then outvote a (issue (o b) s)
      else voteFault 0x0530 s
    | [a, b] => if o a = o b then issue (o a) s else voteFault 0x0530 s
    | [a] => issue (o a) s
    | _ => s

/-- The knuckle decides a leaf cycle (R146, R151). (Log 61, DEDUCED.) -/
def knuckleVote (q : VoteIn) (s : State) : State :=
  if s.leaf.actHalt then s
  else if q.differ then voteFault 0x0532 s
  else vote (fun l => if l = 0 then q.a else if l = 1 then q.b else q.c) s

/-- Tumblers mismatch in one cycle: every such leaf leaves before the vote is counted (R146). -/
def tumblerMismatch (a b c : Bool) (s : State) : State :=
  let ls := [(0, a), (1, b), (2, c)].filterMap fun p => if p.2 then some p.1 else none
  let s := refreshVote (forAll ls (fun s l => mismatch l s) s)
  if !ls.isEmpty && !s.leaf.actHalt && decide ((inVote s).length < voteMin s) then voteFault 0x0531 s else s

/-- An LFR completes: the leaf waits for its CC(M). -/
def lfrComplete (l : Nat) (s : State) : State := if leafSt s l = 1 then putLeafSt l 2 s else s

/-- The leaf has loaded the checkpoint, or met an uncorrectable word and waits for the next one (R157, R159). -/
def rejoinLoaded (l : Nat) (uncorr : Bool) (s : State) : State :=
  if leafSt s l ≠ 3 then s
  else if uncorr then
    let s := { putLeafSt l 2 s with leaf := { s.leaf with loadFrom := alDel s.leaf.loadFrom l } }
    raise (0x052C + l) 0 (discardFor (nextCc s + 1) s)
  else putLeafSt l 4 s

/-- At a CC outside HOLD, the waiting leaves take its checkpoint (R157, R159). -/
def takeCheckpoint (n : Nat) (s : State) : State :=
  if curMode s = modeHold then s
  else
    forAll ([0, 1, 2].filter fun l => leafSt s l = 2) (fun s l =>
      { s with leaf := { s.leaf with loadFrom := alPut s.leaf.loadFrom l n } }) s

/-- The checkpoint of CC(n) is complete: the leaves that took it start loading. -/
def startLoading (n : Nat) (s : State) : State :=
  forAll ([0, 1, 2].filter fun l => leafSt s l = 2 && alGet s.leaf.loadFrom l = some n) (fun s l => putLeafSt l 3 s) s

/-- At IC(n), the leaves loaded from CC(n − 1) enter the vote (R157), and no leaf holds run-ahead work (R158). -/
def enterVote (s : State) : State :=
  let ls := [0, 1, 2].filter fun l => leafSt s l = 4
  let s := if ls.isEmpty || s.spec.work.isEmpty then s else specDrop (fnum s) s
  forAll ls (fun s l =>
    let s := { putLeafSt l 0 s with leaf := { s.leaf with loadFrom := alDel s.leaf.loadFrom l } }
    raise (0x0528 + l) 0 (refreshVote (leafEvent 4 l s))) s

/-- From the end of a CDR, every leaf that is not quarantined is in the vote (R150, R159). -/
def restoreVote (s : State) : State :=
  let s := forAll ([0, 1, 2].filter fun l => leafSt s l ≠ 5) (fun s l => putLeafSt l 0 s) s
  refreshVote { s with leaf := { s.leaf with loadFrom := [], issued := none, actHalt := false } }

/-- LEAF.CMD (R161, R165); false is a refusal. -/
def leafCommand (v : Nat) (s : State) : Bool × State :=
  let l := bits v 5 4
  let op := bits v 1 0
  if bits v 31 16 ≠ 0x4C46 || l = 3 then (false, s)
  else if op = 0 then (true, s)
  else if op = 3 then
    if leafSt s l = 5 then
      let s := leafEvent 6 l { putLeafSt l 2 s with
        leaf := { s.leaf with lastFail := alDel s.leaf.lastFail l, loadFrom := alDel s.leaf.loadFrom l } }
      (true, discardFor (nextCc s + 1) s)
    else (true, s)
  else if leafSt s l = 0 && decide ((inVote s).length - 1 < voteMin s) then (false, s)
  else if op = 1 && widerReset s then (true, if leafSt s l = 0 then discardReset s else s)
  else if op = 1 then (true, if leafSt s l = 0 then refreshVote (leaveVote 3 l s) else s)
  else if leafSt s l = 5 then (true, s)
  else (true, quarantine l (if leafSt s l = 0 then leaveVote 3 l s else s))

/-- LEAF.CTRCLR. -/
def leafCtrClr (s : State) : State :=
  forAll [0, 1, 2] (fun s l => putNat s (Reg.LEAF_FAILCNT l) 0) (putFld s Reg.LEAF_TRAPLOG 31 16 0)

end Sys2Proof.Machine
end

