-- ==== Sys2Proof/Machine/Txn.lean ====
section
/-! DEFINITION. Setting transactions: what may be staged, the commands of a slot, and the application of commits at a frame
boundary with what each unit does there (R36 to R52, R55, R57, R178, R242, R281, R317, R339). -/

namespace Sys2Proof.Machine

/-! What may be staged (R5, and the field tables). -/

/-- A field of a number lies in a range. -/
def fin (v hi lo a b : Nat) : Bool := a ≤ bits v hi lo && bits v hi lo ≤ b

/-- The staged writes of a slot, in staging order. -/
def stagedOf (s : State) (m : Nat) : List (Nat × Word) := (alGet s.txn.staged m).getD []

/-- The value that a register will have with the writes of the master's slot: the staged one, or the committed one. -/
def stagedVal (s : State) (m : Master) (o : Nat) : Nat :=
  ((alGet (stagedOf s (Master.num m)) o).getD (getReg s o)).toNat

/-- KIND and INDEX of an event source are allowed (R64). -/
def evtSrcOk (v : Nat) : Bool :=
  let i := bits v 11 0
  match bits v 15 12 with
  | 0 | 6 | 7 => i = 0
  | 1 | 2 | 3 => i ≤ 191
  | 4 => i ≤ 95
  | 5 | 8 => i ≤ 15
  | _ => false

/-- LANEn registers. -/
def laneRegOk (n r v : Nat) : Bool :=
  if r = 0 then (bits v 23 20 ≤ 11 && bits v 23 20 ≠ n || bits v 23 20 = 15) && bits v 19 18 ≠ 3
  else if r = 0xC then fin v 31 24 1 32 && bits v 23 16 ≠ 0 && bits v 14 8 ≠ 0 && bits v 6 0 ≠ 0
  else if r = 0x10 || r = 0x14 then fin v 31 24 1 32 && bits v 20 16 ≠ 0 && bits v 11 8 ≠ 0 && bits v 3 0 ≠ 0
  else if r = 0x18 then bits v 21 16 ≠ 0 && bits v 13 8 ≠ 0
  else if r = 0x88 || r = 0xA8 then fin v 27 24 4 12
  else if 0x400 ≤ r && r < 0xC00 && r % 16 = 8 then bits v 25 24 ≠ 3
  else if 0x8000 ≤ r && r < 0xC000 && r % 16 = 0 then
    bits v 27 24 ≤ 11 && (bits v 21 16 ≤ 47 || bits v 21 16 = 63) && (bits v 13 8 ≤ 47 || bits v 13 8 = 63)
  else true

/-- TIME registers. -/
def timeRegOk (r v : Nat) : Bool :=
  if r = 0 then bits v 23 16 ≠ 0 && bits v 7 4 ≤ 11 && bits v 2 0 ≤ 2
  else if r = 0x70 then bits v 7 0 ≠ 0
  else if 0x1000 ≤ r && r < 0x4000 then
    let q := r % 0x400
    if q = 0 then bits v 2 0 ≠ 7
    else if q = 4 then bits v 29 28 ≠ 3
    else if q = 0x10 then bits v 26 16 ≤ 0x7FD && bits v 15 10 ≤ 47
    else if 0x100 ≤ q && q % 16 = 8 then bits v 21 20 ≠ 3 && bits v 2 0 ≠ 7
    else true
  else true

/-- DIO channel registers. -/
def dioRegOk (r v : Nat) : Bool :=
  if r = 0 then fin v 28 24 2 20 && fin v 19 16 6 15 && bits v 13 12 ≠ 3 && bits v 9 8 ≠ 3 && bits v 5 4 ≠ 3 && bits v 2 0 ≤ 4
  else if r = 4 then bits v 18 16 ≤ 4 && bits v 15 0 ≠ 0
  else if r = 8 then bits v 15 0 ≤ 36000
  else if r = 0xC then bits v 15 0 ≠ 0
  else true

/-- AO channel registers. -/
def aoRegOk (r v : Nat) : Bool :=
  if r = 0 then bits v 9 8 ≠ 3 && bits v 2 0 ≤ 2 && !(bits v 11 11 = 1 && bits v 2 0 = 2 && bits v 12 12 = 0)
  else if r = 4 then bits v 25 24 ≠ 3
  else if r = 8 then fin v 27 16 2080 2300 && fin v 8 0 350 380
  else if r = 0x14 then bits v 15 0 ≠ 0
  else true

/-- A value `v`, cut to the register's writable bits, may be staged in the register at `o`, or written there by M4 while
BOOT runs. (Log 35, DEDUCED.) -/
def stageOk (m : Master) (o v : Nat) (s : State) : Bool :=
  if o = Reg.FRM_CFG then fin v 7 0 1 160
  else if 0x30100 ≤ o && o < 0x30300 then fin v 20 10 1 1024 && bits v 9 0 < bits v 20 10
  else if 0x30300 ≤ o && o < 0x30400 then
    if o % 16 = 0 then fin v 20 10 1 1024 else if o % 16 = 4 then evtSrcOk v else true
  else if o = Reg.HASP_CFG then bits v 1 0 ≤ 1
  else if o = Reg.HASP_XFERCFG then bits v 23 16 ≠ 0 && fin v 15 0 1 8192
  else if o = Reg.OLC_CHG then v % 2 = 0 || vstate s = 2
  else if o = Reg.RET_CFG then fin v 26 16 64 1024 && bits v 26 16 % 64 = 0 && bits v 15 0 ≠ 0
  else if 0x100000 ≤ o && o < 0x1C0000 then laneRegOk (o / 0x10000 - 16) (o % 0x10000) v
  else if 0x200000 ≤ o && o < 0x210000 then timeRegOk (o - 0x200000) v
  else if 0x300000 ≤ o && o < 0x310000 then dioRegOk ((o % 0x1000 - 0x100) % 0x40) v
  else if 0x310000 ≤ o && o < 0x31C000 then aoRegOk (o % 0x400) v
  else if 0x420100 ≤ o && o < 0x420200 then o % 8 ≠ 0 || bits v 20 16 ≤ 16
  else if 0x422000 ≤ o && o < 0x423000 then
    if o % 8 = 0 then v % 4 = 0 && (stagedVal s m (o + 4) < 2 ^ 31 || v % 8 = 0)
    else v < 2 ^ 31 || stagedVal s m (o - 4) % 8 = 0
  else if o = Reg.PNL_CFG then fin v 24 16 1 320 && fin v 7 0 1 240
  else if o = Reg.PNL_JBASE_LO then v ≤ 0xFFF00000 || stagedVal s m Reg.PNL_JBASE_HI % 2 = 0
  else if o = Reg.PNL_JBASE_HI then v % 2 = 0 || stagedVal s m Reg.PNL_JBASE_LO ≤ 0xFFF00000
  else if 0x430040 ≤ o && o < 0x430060 then 25 ≤ bits v 15 0
  else true

/-! Slots (R37 to R42). -/

/-- TXN.SLOT[m].STAT.STATE: 0 IDLE, 1 OPEN, 2 PENDING. -/
def slotState (s : State) (m : Nat) : Nat := fld s (Reg.TXN_SLOT_STAT m) 1 0

def resApplied : Nat := 1
def resConflict : Nat := 2
def resOverflow : Nat := 3
def resRolledBack : Nat := 4
def resReset : Nat := 5
def resTimeout : Nat := 6
def resForceConflict : Nat := 7
def resDiscarded : Nat := 8

def txnSeq (s : State) : Nat := pair s Reg.TXN_SEQ_LO

/-- TXN rewrites journal entries: damage to them is gone, and their bytes are TXN's again (R49). -/
def rewrote (l : List Nat) (s : State) : State :=
  let t := s.txn
  let kept (a : Nat) : Bool := !l.contains (Config.journalEntry (a - journalBase))
  { s with txn := { t with damaged := t.damaged.filter fun e => !l.contains e, written := t.written.filter kept,
                           stamp := l.foldl (fun m e => smSet (fun _ => 0) m e (smGet (fun _ => 0) m e + 1)) t.stamp } }

/-- A slot returns to IDLE with a result; slot 1 leaving PENDING is a cause (R442). (Log 51, DEDUCED.) -/
def endSlot (m res : Nat) (s : State) : State :=
  let was := slotState s m
  let s := putFld (putFld s (Reg.TXN_SLOT_STAT m) 1 0 0) (Reg.TXN_SLOT_STAT m) 7 4 res
  let s := rewrote [m, 4 + m] { s with txn := { s.txn with order := alDel s.txn.order m } }
  if m = 1 && was = 2 then cause 6 s else s

/-- A commit that stages GO = 1 is an online change (R207). -/
def isChange (ws : List (Nat × Word)) : Bool := ws.any fun w => w.1 = Reg.OLC_CHG && w.2.getLsbD 0

/-- Empties a slot's staged writes. -/
def clearStaged (m : Nat) (s : State) : State :=
  let s := putFlag (putFld s (Reg.TXN_SLOT_STAT m) 28 16 0) (Reg.TXN_SLOT_STAT m) 8 false
  { s with txn := { s.txn with staged := alDel s.txn.staged m } }

/-- A command written to TXN.SLOT[m].CTL (R39); false is a refusal, which raises BADCMD. BEGIN also leaves APPSEQ, CONFADDR
and the overflow mark of the new transaction at 0. (Log 131, DEDUCED; Log 149, DEDUCED.) -/
def slotCommand (m cmd : Nat) (s : State) : Bool × State :=
  let st := slotState s m
  match cmd with
  | 1 =>
    if st = 0 then
      let s := putPair (clearStaged m s) (Reg.TXN_SLOT_BEGSEQ_LO m) (txnSeq s)
      let s := putPair (putPair s (Reg.TXN_SLOT_APPSEQ_LO m) 0) (Reg.TXN_SLOT_CONFADDR_LO m) 0
      (true, rewrote [m] (putFld (putFld s (Reg.TXN_SLOT_STAT m) 1 0 1) (Reg.TXN_SLOT_STAT m) 7 4 0))
    else (false, s)
  | 2 =>
    if st = 1 then
      let s := putFld s (Reg.TXN_SLOT_STAT m) 1 0 2
      (true, rewrote (if isChange (stagedOf s m) then [m, 4 + m, 10] else [m, 4 + m]) { s with txn := { s.txn with order := s.txn.order ++ [(m, some s.raw)] } })
    else (false, s)
  | 3 =>
    if st = 1 then (true, endSlot m resRolledBack (clearStaged m s))
    else (st = 0, s)
  | _ => (true, s)

/-- Stages a write in a master's slot: accepted, refused, or refused because the slot is full (R36, R40). -/
inductive Staged where
  | ok | refused | overflow
  deriving DecidableEq, Repr

def stageWrite (m : Master) (o : Nat) (v : Word) (s : State) : Staged × State :=
  let k := Master.num m
  if 4 ≤ k || slotState s k ≠ 1 || !stageOk m o v.toNat s then (.refused, s)
  else
    let l := stagedOf s k
    if l.any fun p => p.1 = o then
      (.ok, rewrote [k] { s with txn := { s.txn with staged := alPut s.txn.staged k (l.map fun p => if p.1 = o then (o, v) else p) } })
    else if 4096 ≤ l.length then (.overflow, putFlag s (Reg.TXN_SLOT_STAT k) 8 true)
    else
      let s := { s with txn := { s.txn with staged := alPut s.txn.staged k (l ++ [(o, v)]) } }
      (.ok, rewrote [k] (putFld s (Reg.TXN_SLOT_STAT k) 28 16 (l.length + 1)))

/-- Every open transaction is rolled back by a reset (R33, R48). (Log 132, DEDUCED.) -/
def resetSlots (s : State) : State :=
  forAll ([0, 1, 2, 3].filter fun m => slotState s m = 1) (fun s m => endSlot m resReset (clearStaged m s)) s

/-! What the units do with the values that a boundary applies. -/

/-- A mode change at a tick or a CC, without its effects on instances. -/
def showMode (v : Nat) (s : State) : State :=
  if curMode s = v then s else wardMode (refreshHalted (cause 5 (putFld s Reg.FRM_MODE 1 0 v)))

/-- Ends an instance that is stopped or abandoned: its buffer is lost. -/
def stopInst (t : Nat) (s : State) : State :=
  match getInst s t with
  | some i => dropInst t (if i.st = .ended then s else noteRun t s)
  | none => s

/-- Every instance is stopped, and nothing of a task waits (R76, RUN or HOLD to STOP). -/
def stopAll (s : State) : State :=
  let s := forAll (s.frm.insts.map (·.1)) (fun s t => stopInst t s) s
  setReplaying none
    { s with frm := { s.frm with pend := [], later := [], running := none, trapStop := false, latch := [], latchCc := [] } }

/-- A halted instance, with the frames that remain of its period (R76). -/
def haltInst (n : Nat) (i : Inst) : Inst :=
  if i.st = .ended then i else { i with st := .halted, remain := i.deadline + 1 - n }

/-- A set pending flag releases event task `t`, unless an instance exists, as if triggered at `at'`; the flag of a task that
is disabled by then is dropped (R63, R68). (Log 150, DEDUCED; Log 151, DEDUCED.) -/
def releaseFlag (at' : Nat) (s : State) (t : Nat) : State :=
  if (getInst s t).isSome then s
  else
    let s := { s with frm := { s.frm with pend := s.frm.pend.filter (· ≠ t) } }
    if taskEn s t then eventRelease t (triggerFrame s t at') at' s else s

/-- The set pending flags release their tasks as if triggered at an instant (R63, R76). -/
def releaseFlags (at' : Nat) (s : State) : State := forAll s.frm.pend (releaseFlag at') s

/-- A halted instance continues in RUN in frame `n` with the frames that remained (R76). -/
def thawInst (n : Nat) (i : Inst) : Inst :=
  if i.st = .halted then { i with st := .ready, deadline := n + i.remain - 1 } else i

/-- Triggers that wait for a later frame when HOLD begins set the pending flag: no instance is released in HOLD (R63). (Log
152, DEDUCED.) -/
def holdTriggers (s : State) : State :=
  forAll (s.frm.later.map (·.1)) (fun s t => setPend t s) { s with frm := { s.frm with later := [] } }

/-- The mode changes at the tick of frame `n` (R76). (Log 20, DEDUCED.) -/
def changeMode (n v : Nat) (s : State) : State :=
  let old := curMode s
  if old = v then s
  else if v = modeStop then showMode v (stopAll s)
  else if v = modeHold then
    let is := s.frm.insts.map fun p => (p.1, haltInst n p.2)
    let s := { s with frm := { s.frm with insts := is, running := none, holdSkipped := false } }
    showMode v (holdTriggers s)
  else
    let s := if old = modeHold then
        { s with frm := { s.frm with insts := s.frm.insts.map fun p => (p.1, thawInst n p.2) } }
      else s
    let s := showMode v s
    if old = modeHold then releaseFlags (tickAt s n) s else s

/-- The periods against which settings are judged, in ns (R55): while a change waits, both. -/
def periods (s : State) : List Nat :=
  match s.frm.switchTo with
  | some k => [frameNs s, k * 62500]
  | none => [frameNs s]

/-- FRM checks its offsets at the boundary of frame `n` (R57). -/
def timingCheck (n : Nat) (s : State) : State :=
  let w := winNs s
  let c := ccNs s
  let a := apNs s
  let f := (periods s).foldl min (frameNs s)
  let b := b2n (w < 2000) + b2n (c < w + 5000) * 2 + b2n (f < c + 10000) * 4 + b2n (f ≤ a) * 8
  let s := putNat s Reg.FRM_TIMSTAT b
  let s := putFlag s Reg.FRM_MODE 8 (b ≠ 0)
  if b ≠ 0 then
    let drop (r : Option Nat) : Option Nat := if r = some modeRun then none else r
    let fresh := !s.frm.timFailed
    let s := changeMode n modeStop { s with frm := { s.frm with timFailed := true } }
    let s := { s with frm := { s.frm with reqDue := drop s.frm.reqDue, reqLate := drop s.frm.reqLate } }
    let s := putFlag s Reg.FRM_MODE 9 (s.frm.reqDue.isSome || s.frm.reqLate.isSome)
    if fresh then raise 0x0310 1 s else s
  else { s with frm := { s.frm with timFailed := false } }

/-- HASP.STAT.PTIMING shows whether the offsets of a pair fail R178. -/
def showPair (s : State) : State :=
  if haspState s = 0 then s else putFlag s Reg.HASP_STAT 24 ((periods s).any fun f => f < ccNs s + 16000)

/-- HASP checks the offsets of a pair at a boundary (R178). (Log 50, DEDUCED.) -/
def pairTiming (s : State) : State :=
  if haspState s = 0 then s
  else
    let s := showPair s
    if flag s Reg.HASP_STAT 24 then raise 0x060B 1 s else s

/-- A register of the list lies in a range of offsets. -/
def anyIn (ws : List Nat) (lo hi : Nat) : Bool := ws.any fun o => lo ≤ o && o < hi

/-- The registers whose commit makes TIME check its matrices (R281). -/
def matrixReg (o : Nat) : Bool :=
  o = Reg.FRM_CFG || o = Reg.FRM_WIN || o = Reg.FRM_CCOFF ||
  (0x201000 ≤ o && o < 0x204000 && (o % 0x400 < 0x10 || 0x100 ≤ o % 0x400))

/-- A lane's timing registers. -/
def laneTimingReg (n o : Nat) : Bool :=
  o = Reg.LANE_CFG n || o = Reg.LANE_NBT n || o = Reg.LANE_DBT n || o = Reg.LANE_XBT n || o = Reg.LANE_XPWM n

/-- What the units outside FRM do when the registers `ws` take new values, judged against the periods `ps`; `s0` is the
state before. -/
def unitsTake (ps ws : List Nat) (s0 s : State) : State :=
  let s := if ws.contains Reg.RET_CFG then judgeForced s else s
  let s := if ws.any matrixReg then matrixCheck ps s else s
  let s := forAll ((List.range 12).filter fun l => ws.any (laneTimingReg l)) (fun s l => laneBoundary true l s) s
  let src (x : State) : Nat × Nat := (fld x Reg.TIME_CFG 2 0, if fld x Reg.TIME_CFG 2 0 = 1 then srcLane x else 0)
  let s := if src s ≠ src s0 then selectSource (markDisc s) else s
  let s := forAll ((List.range 12).filter fun l => ws.contains (Reg.TIME_LANE_REF l) && !flag s (Reg.TIME_LANE_REF l) 31 &&
    (role s l = 1 || role s l = 2)) (fun s l => takeRole l 0 s) s
  let s := forAll (ws.filter fun o => 0x300000 ≤ o && o < 0x310000) (fun s o =>
    dioBoundary ((o - 0x300000) / 0x1000 * 16 + (o % 0x1000 - 0x100) / 0x40) ((o % 0x1000 - 0x100) % 0x40) s) s
  forAll ((List.range 48).filter fun c => anyIn ws (Reg.AO_CH_CFG c) (Reg.AO_CH_CFG c + 0x400)) (fun s c =>
    refreshAo (if s.frm.ticking then s else captureFail c s) c) s

/-- What the units do at the boundary of frame `n` with the registers `ws` that it has written; `s0` is the state before, and
`sw` says that the tick is a switch tick, at which FRM, HASP and TIME check again (R55). -/
def unitBoundary (n : Nat) (sw : Bool) (ws : List Nat) (s0 s : State) : State :=
  let s := if ws.contains Reg.FRM_CFG then
      let k := fld s Reg.FRM_CFG 7 0
      { s with frm := { s.frm with switchTo := if k = fld s Reg.FRM_KNOW 7 0 then none else some k } }
    else s
  let s := if sw || anyIn ws 0x30004 0x30014 then timingCheck n s else s
  let s := if sw || !ws.isEmpty then pairTiming s else s
  let s := if sw && !ws.any matrixReg then matrixCheck (periods s) s else s
  let s := unitsTake (periods s) ws s0 s
  let s := if (ws.contains Reg.LEAF_CKBASE_LO || ws.contains Reg.LEAF_CKBASE_HI) && s.leaf.oldBase.isNone then
      let b := fld s0 Reg.LEAF_CKBASE_LO 31 16 * 2 ^ 16 + fld s0 Reg.LEAF_CKBASE_HI 0 0 * 2 ^ 32
      { s with leaf := { s.leaf with oldBase := some b } }
    else s
  if anyIn ws 0x30000 0x60000 then specDiscard s else s

/-! Commits at a boundary (R44, R45). -/

/-- The first register of a write set that a later commit than the BEGIN has written. -/
def conflictOf (s : State) (ws : List (Nat × Word)) (beg : Nat) : Option Nat :=
  (ws.find? fun w => beg < smGet (fun _ => 0) s.txn.lastSeq w.1).map (·.1)

/-- OLC.CHG always reads 0. -/
def committedVal (w : Nat × Word) : Word := if w.1 = Reg.OLC_CHG then 0 else w.2

/-- A setting takes effect in its register: RO fields beside it keep their value (R7). -/
def putSetting (s : State) (o : Nat) (v : Word) : State :=
  match regRow? o with
  | some (r, _) => putReg s o ((getReg s o &&& BitVec.ofNat 32 r.ro) ||| v)
  | none => putReg s o v

/-- Writes the registers of a commit with its sequence number. -/
def writeSet (ws : List (Nat × Word)) (seq : Nat) (s : State) : State :=
  let s := forAll ws (fun s w =>
    let s := putSetting s w.1 (committedVal w)
    rewrote [12 + w.1] { s with txn := { s.txn with lastSeq := smSet (fun _ => 0) s.txn.lastSeq w.1 seq,
                                                    jregs := alPut s.txn.jregs w.1 (committedVal w) } }) s
  rewrote [8] (putPair s Reg.TXN_SEQ_LO seq)

/-- A commit is refused with a result; the refusal of an online change ends the delta's verification (R206, R442). -/
def refuseCommit (m res : Nat) (s : State) : State :=
  let chg := isChange (stagedOf s m)
  let s := endSlot m res (clearStaged m s)
  if chg then cause 7 (unverify s) else s

/-- A commit conflicts at a register. -/
def refuseConflict (m o : Nat) (s : State) : State :=
  raise 0x0201 0 (putPair (refuseCommit m resConflict s) (Reg.TXN_SLOT_CONFADDR_LO m) (regBase + o))

/-- The commit of a slot is applied with a sequence number, 0 for an empty one. -/
def endApplied (m seq : Nat) (s : State) : State :=
  endSlot m resApplied (putPair (clearStaged m s) (Reg.TXN_SLOT_APPSEQ_LO m) seq)

/-- One commit at the boundary of frame `n`: the registers it wrote, and the state. -/
def processCommit (n m : Nat) (s : State) : List Nat × State :=
  let ws := stagedOf s m
  if flag s (Reg.TXN_SLOT_STAT m) 8 then ([], refuseCommit m resOverflow s)
  else if ws.isEmpty then ([], endApplied m 0 s)
  else
    match conflictOf s ws (pair s (Reg.TXN_SLOT_BEGSEQ_LO m)) with
    | some o => ([], refuseConflict m o s)
    | none =>
      if isChange ws then
        if s.olc.waiting.isSome || s.olc.installing.isSome then ([], refuseConflict m Reg.OLC_CHG s)
        else
          let s := putFld (putFld (putFld s Reg.OLC_STAT 6 4 1) Reg.OLC_STAT 31 24 0) Reg.OLC_STAT 17 16 0
          ([], { s with txn := { s.txn with order := alDel s.txn.order m }, olc := { s.olc with waiting := some (m, n) } })
      else
        let seq := txnSeq s + 1
        (ws.map (·.1), endApplied m seq (writeSet ws seq s))

/-- The commits due at T0(n), in their order of arrival. -/
def processCommits (n : Nat) : List Nat → List Nat × State → List Nat × State
  | [], r => r
  | m :: rest, (ws, s) =>
    let (w, s) := processCommit n m s
    processCommits n rest (ws ++ w, s)

/-- TXN's work at T0(n): the registers written, all to be acted on together. -/
def txnBoundary (n : Nat) (s : State) : List Nat × State :=
  let inTime (r : Option Nat) : Bool :=
    match r with
    | some r => timeAt s r + 5000 < tickAt s n
    | none => true
  let due := (s.txn.order.filter fun p => inTime p.2).map (·.1)
  processCommits n due ([], s)

end Sys2Proof.Machine
end

