-- ==== Sys2Proof/Machine/IoMap.lean ====
section
/-! DEFINITION. The rules of an I/O map entry and of a task's entry as an image or a delta carries them (R204, R424 to R426). -/

namespace Sys2Proof.Machine

/-- The entry that 24 bytes spell. -/
def entryOf (b : List Byte) : IoEntry :=
  let w (i : Nat) : Word := BitVec.ofNat 32 (leNat ((b.drop (4 * i)).take 4))
  { key := (w 0).toNat, w1 := w 1, w2 := w 2, w3 := w 3, w4 := w 4, w5 := w 5 }

/-- The class that KIND and FUNC allow (R425). -/
def classOk (kind func c : Nat) : Bool :=
  match kind, func with
  | 1, 0 => c = clsIX || c = clsQX
  | 1, 4 => c = clsQW
  | 1, f => 1 ≤ f && f ≤ 3 && c = clsIW
  | 2, 0 => c = clsQW
  | 2, 3 => c = clsQW
  | 2, f => (f = 1 || f = 2) && c = clsIW
  | 3, 0 => c = clsIX || c = clsIW
  | 4, 0 => c = clsQX || c = clsQW
  | _, _ => false

/-- The width of an entry's point in the data of a frame. -/
def IoEntry.width (e : IoEntry) : Nat := if isBitCls (pcls e.key) then 1 else 4

/-- What R256 asks of the frame that a transmit entry names, whatever lane carries it. -/
def frameOk (e : IoEntry) : Bool :=
  (!e.brs || e.fmt = 1) &&
  (match e.fmt with
    | 0 => decide (e.dlen ≤ 8)
    | 1 => fdLens.contains e.dlen
    | 2 => 1 ≤ e.dlen && e.dlen ≤ 2048 && !e.xtd
    | _ => false)

/-- The entry keeps R425, and what R426 asks of one entry. (Log 78, DEDUCED.) -/
def entryOk (e : IoEntry) : Bool :=
  let c := pcls e.key
  let lane := e.kind = kindRecv || e.kind = kindSend
  e.key < 2 ^ 21 && classOk e.kind e.func c && bits e.w1.toNat 15 8 = 0 && bits e.w1.toNat 31 24 = 0 &&
  (if e.kind = kindDio then e.chan < 192 else if e.kind = kindAo then e.chan < 48 else e.chan < 12) &&
  (!(e.kind = kindDio && e.func = 2) || pidx e.key + 1 < 2 ^ 18) &&
  (if lane then e.w2.toNat < 2 ^ 30 && e.w3.toNat < 2 ^ 14 && (e.xtd || e.ident < 2 ^ 11) && (isBitCls c || e.bitNo = 0)
    else e.w2 = 0 && e.w3 = 0) &&
  (if e.kind = kindSend then
      bits e.w4.toNat 3 2 = 0 && bits e.w4.toNat 15 7 = 0 && bits e.w4.toNat 31 28 = 0 && e.failState ≠ 3 &&
      (e.failState = 2 || e.w5 = 0) && (!isBitCls c || e.w5.toNat ≤ 1) && e.byteOff + e.width ≤ e.dlen && frameOk e
    else e.w4 = 0 && e.w5 = 0 && (!lane || e.byteOff + e.width ≤ 2048))

/-- The transmit entries of one identifier agree in format, BRS and length. -/
def sameFrame (a b : IoEntry) : Bool :=
  !(a.kind = kindSend && b.kind = kindSend && a.chan = b.chan && a.xtd = b.xtd && a.ident = b.ident) ||
    (a.fmt = b.fmt && a.brs = b.brs && a.dlen = b.dlen)

/-- The point keys that an entry names: an edge time takes two. -/
def IoEntry.keys (e : IoEntry) : List Nat := if e.kind = kindDio && e.func = 2 then [e.key, e.key + 1] else [e.key]

/-- A map names each point once, and its transmit entries agree. -/
def mapConsistent (l : List IoEntry) : Bool :=
  (l.flatMap IoEntry.keys).Nodup && l.all fun a => l.all fun b => sameFrame a b

/-- A map with an entry put in ascending order of point key. -/
def mapAdd (l : List IoEntry) (e : IoEntry) : List IoEntry :=
  l.filter (fun x => x.key < e.key) ++ e :: l.filter (fun x => e.key < x.key)

/-- A map without a point. -/
def mapDel (l : List IoEntry) (k : Nat) : List IoEntry := l.filter fun x => x.key ≠ k

/-- A data range of an image or a delta lies wholly in working memory or wholly in a marker region (R205, R426). -/
def dataRange (a n : Nat) : Bool :=
  a + n ≤ 0x2_0000_0000 || (clsBase clsMX ≤ a && a + n ≤ clsBase clsMX + 0x8000) ||
    (clsBase clsMW ≤ a && a + n ≤ clsBase clsMW + 0x10_0000)

end Sys2Proof.Machine
end

