-- ==== Sys2Proof/Machine/OlcOps.lean ====
section
/-! DEFINITION. OLC: the checks of the force table, the verification of a delta, the decision at CC and the installation
(R197 to R213). -/

namespace Sys2Proof.Machine

/-! The force table (R198 to R200). -/

/-- A valid entry's value may stand in entry `f` of the table (R199). -/
def forceOk (s : State) (f e : Nat) : Bool :=
  let k := forceKey e
  let c := pcls k
  (c = clsIX || c = clsQX || c = clsIW || c = clsQW) && bits e 30 21 = 0 && (!isBitCls c || e / 2 ^ 33 = 0) &&
    isMapped s k && !s.olc.tableHeld &&
    (validForces s).all fun g => g = f || forceKey (forceEntry s g) ≠ k

/-- A write to the force table by a master; false is an error response, with its fault raised (R199). -/
def forceWrite (m : Master) (a : Nat) (b : List Byte) (s : State) : Bool × State :=
  let f := (a - forceBase) / 8
  let o := (a - forceBase) % 8
  let old := forceEntry s f
  let v := leNat b
  let e := if b.length = 8 then v else if o = 0 then old / 2 ^ 32 * 2 ^ 32 + v else old % 2 ^ 32 + v * 2 ^ 32
  if (b.length = 8 || b.length = 4) && (!forceValid e || forceOk s f e) then memStore m a b (noteCheck false s)
  else (false, raiseBy m 0x0801 0 s)

/-- VALID of an entry is cleared. -/
def clearForce (s : State) (f : Nat) : State :=
  let a := forceBase + 8 * f + 3
  unitStore a [BitVec.ofNat 8 ((memByte s a).toNat % 128)] s

/-- OLC.FCLR with ALL = 1 (R200). -/
def clearForces (s : State) : State := forAll (validForces s) clearForce s

/-- OLC.FCLR; false is a refusal (R200). -/
def forceClearWrite (v : Nat) (s : State) : Bool × State :=
  if bits v 31 16 ≠ 0x4643 then (false, s) else (true, if v % 2 = 1 then clearForces s else s)

/-! The delta (R203, R204). -/

/-- A record: KIND, TARGET, the payload and the offset of its head. -/
structure DRec where
  kind : Nat
  target : Nat
  payload : List Byte
  off : Nat
  deriving DecidableEq, Repr

/-- A failure: the cause, the offset that VERR names, and how far the delta was read. -/
structure Bad where
  cause : Nat
  off : Nat
  upto : Nat
  deriving DecidableEq, Repr

/-- The offset of the first uncorrectable word of `n` bytes at an address. -/
def badWord (s : State) (base n : Nat) : Option Nat :=
  (s.ecc.find? fun p => p.2 = .double && base < p.1 + 8 && p.1 < base + n).map fun p => p.1 - base

/-- Reading the delta up to an offset meets the uncorrectable word at `u`. -/
def readTo (u : Option Nat) (last : Nat) : Option Bad :=
  u.bind fun o => if o ≤ last then some { cause := 12, off := o, upto := o + 8 } else none

/-- The installed program's identity (OLC.PROGID). -/
def progId (s : State) : Nat := pair s Reg.OLC_PROGID_LO

/-- The first failing check of the header, in the order HCRC, MAGIC, VERSION, LENGTH, FROMID. -/
def headBad (s : State) (b n : Nat) : Option Bad :=
  let f (c o : Nat) : Option Bad := some { cause := c, off := o, upto := 64 }
  if memNat s (b + 0x3C) 4 ≠ (crc32c (memBytes s b 0x3C)).toNat then f 4 0x3C
  else if memNat s b 4 ≠ 0x44434C4F then f 1 0
  else if memNat s (b + 4) 4 ≠ 1 then f 2 4
  else if memNat s (b + 0x20) 8 ≠ n then f 3 0x20
  else if memNat s (b + 8) 8 ≠ progId s then f 6 8
  else none

/-- The source and byte count of a MOVE. -/
def moveSrc (r : DRec) : Nat := leNat (r.payload.take 8)
def moveLen (r : DRec) : Nat := leNat (r.payload.drop 8)

/-- Two ranges share a byte. -/
def rangesMeet (a n b m : Nat) : Bool := 0 < n && 0 < m && a < b + m && b < a + n

/-- A record's form fits its KIND; `z` is bytes 2 and 3 of its head. -/
def formOk (r : DRec) (z : Nat) : Bool :=
  let n := r.payload.length
  z = 0 &&
  match r.kind with
  | 1 => n % 4 = 0
  | 2 => n = 8
  | 3 => n = 0
  | 4 => n = 24
  | 5 => n = 16 && moveLen r % 8 = 0
  | 6 => true
  | 7 => n = 0
  | _ => false

/-- A record writes only where its KIND may (TARGET). -/
def targetOk (r : DRec) : Bool :=
  match r.kind with
  | 1 => r.payload.isEmpty || r.target + r.payload.length / 4 ≤ 2 ^ 24
  | 5 => dataRange r.target (moveLen r) && dataRange (moveSrc r) (moveLen r)
  | 6 => dataRange r.target r.payload.length
  | _ => true

/-- No MOVE's destination overlaps the source of a MOVE, among those before and this one. -/
def overlapOk (before : List DRec) (r : DRec) : Bool :=
  r.kind ≠ 5 || (r :: before.filter fun x => x.kind = 5).all fun x =>
    !(rangesMeet r.target (moveLen r) (moveSrc x) (moveLen x)) && !(rangesMeet x.target (moveLen x) (moveSrc r) (moveLen r))

/-- A MAPDEL names a point that the map still has, and a MAPADD has the form of R425. (Log 74, DEDUCED.) -/
def recMapOk (s : State) (before : List DRec) (r : DRec) : Bool :=
  if r.kind = 3 then
    (s.frm.iomap.any fun e => e.key = r.target) && !(before.any fun x => x.kind = 3 && x.target = r.target)
  else if r.kind = 4 then (entryOf r.payload).key = r.target && entryOk (entryOf r.payload)
  else true

/-- A TASK selector and payload are valid. -/
def recTaskOk (r : DRec) : Bool :=
  let v := leNat r.payload
  r.kind ≠ 2 || ((r.target < 32 || (0x100 ≤ r.target && r.target < 0x110)) && v < 2 ^ 32 && bits v 30 24 = 0)

/-- The cause that a record fails with, once its CRC is right. -/
def recCause (s : State) (before : List DRec) (r : DRec) (z : Nat) : Option Nat :=
  if !formOk r z then some 14
  else if !targetOk r then some 7
  else if !overlapOk before r then some 8
  else if !recMapOk s before r then some 9
  else if !recTaskOk r then some 10
  else if r.kind = 7 && 4096 ≤ (before.filter fun x => x.kind = 7).length then some 11
  else none

/-- Reads `k` records from an offset, `before` newest first. -/
def readRecs (s : State) (b n : Nat) (u : Option Nat) : Nat → Nat → List DRec → Except Bad (List DRec × Nat)
  | 0, pos, before => .ok (before.reverse, pos)
  | k + 1, pos, before =>
    match readTo u (min (pos + 15) (n - 1)) with
    | some e => .error e
    | none =>
      let len := memNat s (b + pos + 4) 4
      let stop := pos + 16 + (len + 7) / 8 * 8
      if n < pos + 16 || n < stop + 8 then .error { cause := 3, off := pos, upto := min n (pos + 16) }
      else
        match readTo u (stop + 7) with
        | some e => .error e
        | none =>
          if memNat s (b + stop) 8 ≠ (crc32c (memBytes s (b + pos) (stop - pos))).toNat then
            .error { cause := 5, off := stop, upto := stop + 8 }
          else
            let r : DRec := { kind := memNat s (b + pos) 2, target := memNat s (b + pos + 8) 8,
                              payload := memBytes s (b + pos + 16) len, off := pos }
            match recCause s before r (memNat s (b + pos + 2) 2) with
            | some c => .error { cause := c, off := pos, upto := stop + 8 }
            | none => readRecs s b n u k (stop + 8) (r :: before)

/-- The map that a delta's MAPDELs leave. -/
def mapAfterDel (l : List IoEntry) (rs : List DRec) : List IoEntry :=
  l.filter fun e => !(rs.any fun r => r.kind = 3 && r.target = e.key)

/-- Adds the MAPADDs in order to a map; the offset of the first that names a point still mapped, or disagrees with it. -/
def addAll : List IoEntry → List DRec → Except Nat (List IoEntry)
  | l, [] => .ok l
  | l, r :: rs =>
    if r.kind ≠ 4 then addAll l rs
    else
      let e := entryOf r.payload
      if (l.flatMap IoEntry.keys).any e.keys.contains || !(l.all (sameFrame e)) then .error r.off
      else addAll (mapAdd l e) rs

/-- The whole delta of `n` bytes at `b`: its records, or its failure (R205). -/
def readDelta (s : State) (b n : Nat) : Except Bad (List DRec) :=
  let u := badWord s b n
  if 0x2_0000_0000 < b + n then .error { cause := 3, off := 0, upto := 0 }
  else
    match readTo u 0x3F with
    | some e => .error e
    | none =>
      match headBad s b n with
      | some e => .error e
      | none =>
        match readRecs s b n u (memNat s (b + 0x18) 4) 64 [] with
        | .error e => .error e
        | .ok (rs, pos) =>
          if pos ≠ n then .error { cause := 3, off := pos, upto := n }
          else
            match addAll (mapAfterDel s.frm.iomap rs) rs with
            | .error o => .error { cause := 9, off := o, upto := n }
            | .ok _ => .ok rs

/-- A record's part of P (R205). -/
def recSize (r : DRec) : Nat :=
  match r.kind with
  | 1 | 4 | 6 => r.payload.length
  | 5 => moveLen r
  | _ => 16

/-- ITIME in units of 10 ns: 4 µs + P / 2.0 GB/s, rounded up. -/
def itimeOf (rs : List DRec) : Nat := 400 + ((rs.map recSize).sum + 19) / 20

/-! Verification (R205, R206, R214). -/

def deltaLen (s : State) : Nat := regNat s Reg.OLC_DLEN

/-- A slot holds a staged or pending GO = 1. -/
def goInFlight (s : State) : Bool := [0, 1, 2, 3].any fun m => slotState s m ≠ 0 && isChange (stagedOf s m)

/-- A verification ends, VERIFIED or BAD. -/
def endVerify (r : Option Bad) (s : State) : State :=
  let s := match r with
    | none => putNat (putFld s Reg.OLC_STAT 2 0 2) Reg.OLC_VERR 0
    | some e => raise 0x0802 0 (putNat (putFld s Reg.OLC_STAT 2 0 3) Reg.OLC_VERR (e.cause * 2 ^ 28 + e.off))
  cause 7 s

/-- The words with a single error among the first `n` bytes of the delta are corrected as they are read. -/
def correctRead (b n : Nat) (s : State) : State :=
  forAll ((s.ecc.filter fun p => p.2 ≠ .double && b ≤ p.1 && p.1 < b + n).map (·.1)) (fun s a => corrected a 0xF s) s

/-- OLC.ITIME shows the installation time. One that does not fit its 24 bits, which only MOVEs of very many bytes give, shows a
free value. (Log 164, DESIGN CHOICE.) -/
def showItime (t : Nat) (s : State) : State :=
  if t < 2 ^ 24 then putNat s Reg.OLC_ITIME t
  else
    let (f, s) := takeFree s
    putNat s Reg.OLC_ITIME (f.toNat % 2 ^ 24)

/-- The installation time of the delta that verified, in ns. -/
def itimeNs (s : State) : Nat := ((s.olc.kept.map (·.2.2)).getD (fld s Reg.OLC_ITIME 23 0)) * 10

/-- The verification in progress reads to its end at 2.0 GB/s and is judged. -/
def verificationEnd (s : State) : State :=
  if vstate s ≠ 1 then s
  else
    let b := dbase s
    let r := readDelta s b (deltaLen s)
    let upto := match r with
      | .ok _ => deltaLen s
      | .error e => e.upto
    let s := correctRead b upto (advanceTo (s.olc.verAt + (upto + 4) / 5) s)
    match r with
    | .ok rs =>
      let s := showItime (itimeOf rs) s
      endVerify none { s with olc := { s.olc with kept := some (b, deltaLen s, itimeOf rs) } }
    | .error e => endVerify (some e) (if e.cause = 12 then foundBad (b + e.off) 0x0702 0xF s else s)

/-- OLC.CMD; false is a refusal. -/
def olcCommand (v : Nat) (s : State) : Bool × State :=
  if bits v 31 16 ≠ 0x4F43 then (false, s)
  else match bits v 1 0 with
    | 0 => (true, s)
    | 1 =>
      if goInFlight s then (false, s)
      else (true, { putFld s Reg.OLC_STAT 2 0 1 with olc := { s.olc with verAt := s.raw } })
    | 2 => (true, if vstate s = 1 then endVerify (some { cause := 13, off := 0, upto := 0 }) s else s)
    | _ => (false, s)

/-! Installation (R209 to R213). -/

/-- The records of the delta that OLC.DBASE names, which verified. -/
def deltaRecs (s : State) : List DRec :=
  match readDelta s (dbase s) (deltaLen s) with
  | .ok rs => rs
  | .error _ => []

/-- The task that a TASK record names: event task e is 0x100 + e. -/
def recTask (r : DRec) : Nat := if r.target < 32 then r.target else 32 + r.target % 16

/-- The task table after a TASK record. -/
def taskAfter (t : List (Nat × Nat)) (r : DRec) : List (Nat × Nat) :=
  let v := leNat r.payload
  if r.kind ≠ 2 then t else if bits v 31 31 = 1 then alDel t (recTask r) else alInsert t (recTask r) (bits v 23 0)

/-- What a delta does to memory and to the force table: MOVE with all sources read first, INIT, CODE, RELEASE. -/
def installMemory (rs : List DRec) (s : State) : State :=
  let moved := (rs.filter fun r => r.kind = 5).map fun r => (r.target, memBytes s (moveSrc r) (moveLen r))
  let s := forAll moved (fun s p => unitStore p.1 p.2 s) s
  let s := forAll (rs.filter fun r => r.kind = 6) (fun s r => unitStore r.target r.payload s) s
  let s := forAll (rs.filter fun r => r.kind = 1) (fun s r => unitStore (codeBase s + 4 * r.target) r.payload s) s
  let rel (f : Nat) : Bool := rs.any fun r => r.kind = 7 && r.target = forceKey (forceEntry s f)
  forAll ((validForces s).filter rel) clearForce s

/-- Run-ahead for a frame is forbidden, and what exists of it is discarded (R130, R210). -/
def barFrame (n : Nat) (s : State) : State :=
  let s := if s.spec.frame = some n then specDiscard s else s
  { s with spec := { s.spec with barred := some n } }

/-- An installation for T0(n) begins (R210). -/
def beginInstall (m n : Nat) (rs : List DRec) (s : State) : State :=
  let toid := memNat s (dbase s + 0x10) 8
  let map := match addAll (mapAfterDel s.frm.iomap rs) rs with
    | .ok l => l
    | .error _ => s.frm.iomap
  let tasks := rs.foldl taskAfter s.frm.tasks
  let s := { s with olc := { s.olc with installing := some (m, n, toid), newMap := map, newTasks := tasks, tableHeld := true,
                                        waiting := none, instAt := s.raw } }
  let s := rewrote [9] (putFld s Reg.OLC_STAT 6 4 2)
  barFrame n (installMemory rs s)

/-- A refusal that takes effect at T0(N). -/
def decideRefuse (m res conf : Nat) (s : State) : State :=
  { s with olc := { s.olc with refusing := some (m, res, conf) } }

/-- A changed task has an instance that is neither committed nor abandoned, trapped or stopped. -/
def changeBusy (s : State) (rs : List DRec) : Bool :=
  rs.any fun r => r.kind = 2 &&
    match getInst s (recTask r) with
    | some i => !i.trapped
    | none => false

/-- A valid force names a point that the delta removes from the map, with every point of the entry removed, and that no entry
it adds restores and no record releases (R209, R213). -/
def changeForced (s : State) (rs : List DRec) : Bool :=
  (validForces s).any fun f =>
    let k := forceKey (forceEntry s f)
    let gone := s.frm.iomap.any fun e => e.keys.contains k && rs.any fun r => r.kind = 3 && r.target = e.key
    gone && !(rs.any fun r => (r.kind = 4 && (entryOf r.payload).keys.contains k) || (r.kind = 7 && r.target = k))

/-- The decision of R209 at CC(n − 1) for T0(n). -/
def decideChange (n : Nat) (s : State) : State :=
  match s.olc.waiting with
  | none => s
  | some (m, b) =>
    if n ≤ b || s.olc.refusing.isSome then s
    else
      let ws := stagedOf s m
      if vstate s ≠ 2 then decideRefuse m resTimeout 0 s
      else
        match conflictOf s ws (pair s (Reg.TXN_SLOT_BEGSEQ_LO m)) with
        | some o => decideRefuse m resConflict (regBase + o) s
        | none =>
          let rs := deltaRecs s
          let busy := changeBusy s rs
          let late := decide ((frameNs s : Int) - ccNs s - 8000 < itimeNs s)
          if !busy && !late && changeForced s rs then decideRefuse m resForceConflict 0 s
          else if !busy && !late then beginInstall m n rs s
          else
            let s := putFld s Reg.OLC_STAT 17 16 (if busy then 1 else 2)
            if b + 100 ≤ n then decideRefuse m resTimeout 0 s else s

/-- No change waits or is installed any more, and the delta is not verified (R206). -/
def changeOver (s : State) : State :=
  let s := putFld (putFld (putFld s Reg.OLC_STAT 6 4 0) Reg.OLC_STAT 17 16 0) Reg.OLC_STAT 31 24 0
  unverify { s with olc := { s.olc with waiting := none, installing := none, refusing := none, tableHeld := false,
                                        newTasks := [], newMap := [], redo := false } }

/-- The refusal of the waiting change takes effect (R209). -/
def refuseChange (m res conf : Nat) (s : State) : State :=
  let s := cause 7 (endSlot m res (clearStaged m (changeOver s)))
  if res = resConflict then raise 0x0201 0 (putPair s (Reg.TXN_SLOT_CONFADDR_LO m) conf)
  else if res = resTimeout then raise 0x0803 0 s
  else raise 0x0804 0 s

/-- The new task table, I/O map and identity take effect (R210). -/
def installTables (tasks : List (Nat × Nat)) (map : List IoEntry) (toid : Nat) (s : State) : State :=
  let s := { s with frm := { s.frm with tasks := tasks, iomap := map, noEntry := [] } }
  bump (putPair s Reg.OLC_PROGID_LO toid) Reg.OLC_INSTCNT 31 0

/-- The installation takes effect at its tick: the registers it wrote, and the state (R210, R211). -/
def finishInstall (m toid : Nat) (s : State) : List Nat × State :=
  let ws := stagedOf s m
  let redo := s.olc.redo
  let seq := txnSeq s + 1
  let s := changeOver (installTables s.olc.newTasks s.olc.newMap toid s)
  let s := endApplied m seq (writeSet ws seq s)
  let s := cause 7 (raise 0x0805 0 s)
  (ws.map (·.1), if redo then raise 0x0806 0 s else s)

/-- A change that waits counts the boundaries that have passed since T0(B) (R208). -/
def countWait (n : Nat) (s : State) : State :=
  match s.olc.waiting with
  | some (_, b) => putFld s Reg.OLC_STAT 31 24 (min 100 (n - b))
  | none => s

/-- OLC's work at T0(n), before the commits of R44. -/
def olcTick (n : Nat) (s : State) : List Nat × State :=
  match s.olc.installing, s.olc.refusing with
  | some (m, k, toid), _ => if k ≤ n then finishInstall m toid s else ([], s)
  | none, some (m, res, conf) => ([], refuseChange m res conf s)
  | none, none => ([], countWait n s)

/-- A CDR, a reset or a loss of power interrupts an installation: OLC completes it from its journal. Whether it had ended
inside its ITIME the manual leaves open (R210, R211). (Log 75, DEDUCED.) -/
def redoInstall (s : State) : State :=
  match s.olc.installing with
  | none => s
  | some _ =>
    if s.raw * 5 < s.olc.instAt * 5 + itimeNs s * 2 then
      let (f, s) := takeFree s
      if f.getLsbD 0 then { putFld s Reg.OLC_STAT 6 4 3 with olc := { s.olc with redo := true } } else s
    else s

/-- The standby installs the delta that the COMMITS record of T0(n) names, from its own memory; false where its copy fails
(R212). No run-ahead stands for that frame (R130, R210). -/
def standbyInstall (n : Nat) (d : Nat × Nat) (s : State) : Bool × State :=
  match readDelta s d.1 d.2 with
  | .error _ => (false, s)
  | .ok rs =>
    let s := barFrame n s
    let toid := memNat s (d.1 + 0x10) 8
    let map := match addAll (mapAfterDel s.frm.iomap rs) rs with
      | .ok l => l
      | .error _ => s.frm.iomap
    let tasks := rs.foldl taskAfter s.frm.tasks
    (true, raise 0x0805 0 (changeOver (installTables tasks map toid (installMemory rs s))))

end Sys2Proof.Machine
end

