-- ==== Sys2Proof/Machine/Checkpoint.lean ====
section
/-! DEFINITION. The checkpoint: its layout in a bank, its writing and completion, and the restore (R153 to R156, R471). -/

namespace Sys2Proof.Machine

/-! Banks (R155). -/

/-- The committed checkpoint base. -/
def ckBase (s : State) : Nat :=
  fld s Reg.LEAF_CKBASE_LO 31 16 * 2 ^ 16 + fld s Reg.LEAF_CKBASE_HI 0 0 * 2 ^ 32

/-- The base that a restore uses: the old one until the first checkpoint at a new base is complete (R156). -/
def restoreBase (s : State) : Nat := s.leaf.oldBase.getD (ckBase s)

def bankAt (base b : Nat) : Nat := base + b * 0x8000

/-- STATE of a complete bank. -/
def ckComplete : Nat := 0xC105

def bankDone (s : State) (base b : Nat) : Bool := memNat s (bankAt base b + 0xC) 4 = ckComplete

/-- The complete bank with the higher frame number. -/
def latestBank (s : State) (base : Nat) : Option Nat :=
  let n (b : Nat) : Nat := memNat s (bankAt base b) 8
  match bankDone s base 0, bankDone s base 1 with
  | true, true => some (if n 0 < n 1 then 1 else 0)
  | true, false => some 0
  | false, true => some 1
  | false, false => none

/-- The bank that the next checkpoint goes into. (Log 36, DEDUCED.) -/
def nextBank (s : State) : Nat :=
  if flag s Reg.LEAF_CKSTAT 31 then 1 - fld s Reg.LEAF_CKSTAT 30 30 else 0

/-- LEAF.CKSTAT shows the latest complete checkpoint. -/
def refreshCkstat (s : State) : State :=
  match latestBank s (restoreBase s) with
  | some b => putNat s Reg.LEAF_CKSTAT (2 ^ 31 + b * 2 ^ 30 + memNat s (bankAt (restoreBase s) b) 2)
  | none => putNat s Reg.LEAF_CKSTAT 0

/-! Contexts (R155, slot layout). -/

def xZero (_ : Nat) : DWord := 0

/-- A register of a context; X0 is 0. -/
def ctxX (c : Ctx) (k : Nat) : DWord := if k = 0 then 0 else smGet xZero c.x k

/-- The bits of a logic stack as a number, entry 0 the bottom. -/
def lsBits (l : List Bool) : Nat := l.reverse.foldr (fun b n => 2 * n + b2n b) 0

/-- A slot's 512 bytes. -/
def ctxBytes (c : Ctx) : List Byte :=
  let r := c.rep.getD { remaining := 0, iter := 0, unint := false }
  (List.range 32).flatMap (fun k => leBytes 8 (ctxX c k).toNat) ++ leBytes 4 c.pc ++
  leBytes 4 (b2n c.la + c.ls.length * 2 ^ 8 + lsBits c.ls * 2 ^ 16) ++
  leBytes 4 (c.rs.length + b2n c.rep.isSome * 2 ^ 8 + b2n (c.rep.isSome && r.unint) * 2 ^ 9) ++
  leBytes 4 c.emits ++ (List.range 16).flatMap (fun i => leBytes 4 (c.rs.reverse.getD i 0)) ++
  leBytes 4 r.remaining ++ leBytes 4 r.iter ++ leBytes 8 c.relFrame ++ List.replicate 0xA0 0

/-- The context that a slot's bytes hold. -/
def ctxOf (b : List Byte) : Ctx :=
  let w (o n : Nat) : Nat := leNat ((b.drop o).take n)
  let la := w 0x104 4
  let rs := w 0x108 4
  { x := (List.range 32).foldl (fun m k => if k = 0 then m else smSet xZero m k (BitVec.ofNat 64 (w (8 * k) 8))) [],
    la := bits la 0 0 = 1,
    ls := ((List.range (min 16 (bits la 12 8))).map fun i => decide (bits la (16 + i) (16 + i) = 1)).reverse,
    rs := ((List.range (min 16 (bits rs 4 0))).map fun i => w (0x110 + 4 * i) 4 % 2 ^ 24).reverse,
    pc := w 0x100 4 % 2 ^ 24,
    rep := if bits rs 8 8 = 1 then some { remaining := w 0x150 4, iter := w 0x154 4, unint := bits rs 9 9 = 1 } else none,
    relFrame := w 0x158 8, emits := w 0x10C 4 % 2 ^ 9 }

/-! Writing (R153 to R155). -/

/-- FRM.TASKSTAT.STATE of an instance (R84). -/
def stateCode (st : TState) : Nat :=
  match st with
  | .ready => 1
  | .running => 2
  | .suspended => 3
  | .ended => 4
  | .halted => 5

/-- The state that the checkpoint records: an instance that a debug halt holds before HOLD stands suspended. -/
def ckState (st : TState) : TState :=
  match st with
  | .ready | .running => .suspended
  | x => x

/-- A task's record of 16 bytes. A trigger that waits for a later frame stands in it as a pending flag (R79, R153). -/
def taskRecord (s : State) (t : Nat) : List Byte :=
  let p := b2n (s.frm.pend.contains t || (alGet s.frm.later t).isSome) * 2 ^ 8
  match getInst s t with
  | some i => leBytes 8 (stateCode (ckState i.st) + p) ++ leBytes 8 (if i.st = .halted then i.remain else i.deadline)
  | none => leBytes 8 p ++ leBytes 8 0

/-- Bytes 0x10 to 0x3FF of a bank. -/
def ckHead (s : State) : List Byte :=
  leBytes 4 (curMode s) ++ leBytes 4 (fld s Reg.FRM_KNOW 7 0) ++ leBytes 8 (pair s Reg.FRM_FBASET_LO) ++
  leBytes 8 (pair s Reg.FRM_FBASEN_LO) ++ List.replicate 24 0 ++ (List.range 48).flatMap (taskRecord s) ++
  List.replicate 0xC0 0

/-- The tasks whose slots are written, in ascending order. -/
def ckSlots (s : State) : List Nat :=
  (List.range 48).filter fun t =>
    match getInst s t with
    | some i => i.st ≠ .ended
    | none => false

/-- The checkpoint's bytes of a task's slot. -/
def slotBytes (s : State) (t : Nat) : List Byte :=
  match getInst s t with
  | some i => ctxBytes i.ctx
  | none => []

/-- The CRC of a checkpoint. -/
def ckCrc (s : State) : Word := crc32c (ckHead s ++ (ckSlots s).flatMap (slotBytes s))

/-- A voted write of the checkpoint, which the undo log does not cover (R220). -/
def ckStore (a : Nat) (b : List Byte) (s : State) : State := masterStore .m0 a b (watchWrite .m0 a b [] s)

/-- Writes the checkpoint of CC(n), still incomplete, and marks what FRM keeps. -/
def writeCheckpoint (n : Nat) (s : State) : State :=
  let k := nextBank s
  let a := bankAt (ckBase s) k
  let head := ckHead s
  let slots := (ckSlots s).map fun t => (0x400 + t * 0x200, slotBytes s t)
  let crc := ckCrc s
  let s := ckStore (a + 0xC) (leBytes 4 0) s
  let s := ckStore (a + 0x10) head s
  let s := forAll slots (fun s p => ckStore (a + p.1) p.2 s) s
  let s := ckStore a (leBytes 8 n ++ leBytes 4 crc.toNat) s
  let m : Mark := { insts := s.frm.insts, last := s.frm.last, runImg := s.frm.runImg, lastFail := s.frm.lastFail }
  touchFrm frmBuffers (touchFrm (frmMarks k) { s with frm := { s.frm with marks := alPut s.frm.marks k m } })

/-- The checkpoint is complete: STATE, the undo log emptied, LEAF.CKSTAT, and the latches of R79. -/
def finishCheckpoint (n : Nat) (s : State) : State :=
  let k := nextBank s
  let s := ckStore (bankAt (ckBase s) k + 0xC) (leBytes 4 ckComplete) s
  let s := putNat s Reg.LEAF_CKSTAT (2 ^ 31 + k * 2 ^ 30 + n % 2 ^ 16)
  { s with mm := { s.mm with undo := [] }, leaf := { s.leaf with oldBase := none },
           frm := { s.frm with latchCc := [] } }

/-! Restoring (R156, R78). -/

/-- An instance as a checkpoint holds it: its record and slot, and what FRM marked of it. -/
def restoreInst (s : State) (a : Nat) (m : Mark) (t : Nat) : Option (Nat × Inst) :=
  let r := a + 0x40 + t * 16
  let st := memNat s r 4 % 8
  let dl := memNat s (r + 8) 8
  let ctx := ctxOf (memBytes s (a + 0x400 + t * 0x200) 0x200)
  let kept : Inst := (alGet m.insts t).getD { ctx := ctx, deadline := dl, relTime := tickAt s ctx.relFrame,
                                               relT0 := tickAt s ctx.relFrame, frozen := true }
  match st with
  | 3 => some (t, { kept with ctx := ctx, st := .suspended, deadline := dl })
  | 4 => some (t, { kept with st := .ended, deadline := dl })
  | 5 => some (t, { kept with ctx := ctx, st := .halted, remain := dl })
  | _ => none

/-- The tasks whose slots a bank's records say were written. -/
def bankSlots (s : State) (a : Nat) : List Nat :=
  (List.range 48).filter fun t =>
    let st := memNat s (a + 0x40 + t * 16) 4 % 8
    st = 3 || st = 5

/-- The bank's bytes under its CRC; none when a word of them, or of its first 16 bytes, is uncorrectable. -/
def bankBytes (s : State) (a : Nat) : Option (List Byte) :=
  match unitLoad a 0x10 s, unitLoad (a + 0x10) 0x3F0 s with
  | some _, some h =>
    (bankSlots s a).foldl (fun r t =>
      match r, unitLoad (a + 0x400 + t * 0x200) 0x200 s with
      | some l, some b => some (l ++ b)
      | _, _ => none) (some h)
  | _, _ => none

/-- The bank passes its CRC. -/
def bankGood (s : State) (a : Nat) : Bool :=
  match bankBytes s a with
  | some b => memNat s (a + 8) 4 = (crc32c b).toNat
  | none => false

/-- Takes the instances, the pending flags and the mode of a bank. -/
def loadBank (a : Nat) (m : Mark) (s : State) : State :=
  let is := (List.range 48).filterMap (restoreInst s a m)
  let pend := (List.range 16).filterMap fun e =>
    if bits (memNat s (a + 0x240 + e * 16) 4) 8 8 = 1 then some (32 + e) else none
  { s with frm := { s.frm with insts := is, pend := pend, last := m.last, runImg := m.runImg, lastFail := m.lastFail,
                               resumeMode := memNat s (a + 0x10) 4 % 4 } }

/-- No instance, no flag, and STOP: what a restore leaves where no complete checkpoint exists. (Log 38, DEDUCED.) -/
def loadNone (s : State) : State :=
  { s with frm := { s.frm with insts := [], pend := [], resumeMode := modeStop } }

/-- Trigger latches put together (R79). -/
def mergeLatch (a b : List (Nat × Nat)) : List (Nat × Nat) :=
  b.foldl (fun l p => alPut l p.1 ((alGet l p.1).getD 0 + p.2)) a

/-- Restores from the complete bank with the higher frame number; a bad one raises CKPT_BAD and reads nothing further. (Log 37, DEDUCED.) -/
def restoreCheckpoint (s : State) : State :=
  let base := restoreBase s
  let l := mergeLatch s.frm.latch s.frm.latchCc
  let s := { s with frm := { s.frm with running := none, later := [], trapStop := false, latch := l, latchCc := [] } }
  match latestBank s base with
  | none => loadNone s
  | some b =>
    let a := bankAt base b
    if bankGood s a then loadBank a ((alGet s.frm.marks b).getD {}) s
    else raise codeCkptBad 3 s

/-- The frame number, the period and the frame base of the latest complete checkpoint. -/
def ckFrame (s : State) : Option (Nat × Nat × Nat × Nat) :=
  (latestBank s (restoreBase s)).map fun b =>
    let a := bankAt (restoreBase s) b
    (memNat s a 8, memNat s (a + 0x14) 4 % 256, memNat s (a + 0x18) 8, memNat s (a + 0x20) 8)

end Sys2Proof.Machine
end

