-- ==== Sys2Proof/Machine/Frame.lean ====
section
/-! DEFINITION. The frame: the tick, the input close, the commit close, the release of a commit, the apply instant and mode
requests (R54 to R60, R72 to R83, R154, R176, R177). -/

namespace Sys2Proof.Machine

/-! The mode (R73 to R78). -/

/-- FRM.MODE.PEND follows the requests that wait. -/
def refreshPend (s : State) : State :=
  putFlag s Reg.FRM_MODE 9 (s.frm.reqDue.isSome || s.frm.reqLate.isSome || s.frm.reqHeld.isSome)

/-- Every waiting mode request is cancelled. -/
def dropRequests (s : State) : State :=
  refreshPend { s with frm := { s.frm with reqDue := none, reqLate := none, reqHeld := none } }

/-- A write of FRM.MODE.REQ; false is a refusal (R57, R75, R78). (Log 19, DEDUCED; Log 128, DEDUCED.) -/
def modeRequest (v : Nat) (s : State) : Bool × State :=
  let r := bits v 5 4
  if r = 3 || (r = modeRun && getReg s Reg.FRM_TIMSTAT ≠ 0) then (false, s)
  else
    let s := putFld s Reg.FRM_MODE 5 4 r
    if s.flt.cdr.isSome then (true, refreshPend { s with frm := { s.frm with reqHeld := some r } })
    else if r = curMode s then (true, dropRequests s)
    else
      let early := decide (now s + 5000 < tickAt s (fnum s + 1))
      let f := if early then { s.frm with reqDue := some r } else { s.frm with reqLate := some r }
      (true, refreshPend { s with frm := f })

/-- In RUN, a pending flag that a restore brought back without an instance of its task waits as a trigger for the next IC
(R79). (Log 153, DEDUCED.) -/
def waitFlags (s : State) : State :=
  let (busy, idle) := s.frm.pend.partition fun t => (getInst s t).isSome
  { s with frm := { s.frm with pend := busy, later := idle.foldl (fun l t => alPut l t 0) s.frm.later } }

/-- The mode that the first frame of a start, or of the resumption after a CDR, takes: in STOP nothing of a task waits, and
otherwise the latches count at the next IC (R78, R79). -/
def resumeIn (v : Nat) (s : State) : State :=
  let s := if v = modeStop then
      { s with frm := { s.frm with insts := [], pend := [], later := [], latch := [], latchCc := [], latchDue := false } }
    else { s with frm := { s.frm with latchDue := true } }
  let s := if v = modeRun then waitFlags s else s
  let s := if v = modeHold && curMode s ≠ modeHold then { s with frm := { s.frm with holdSkipped := false } } else s
  wardRefresh (refreshHalted (showMode v s))

/-- The mode that a CDR resumes in. While a bit of FRM.TIMSTAT is set the device stays in STOP, or in a HOLD that was
requested from there (R57). (Log 39, DEDUCED.) -/
def cdrMode (s : State) : Nat :=
  let v := s.frm.resumeMode
  if s.flt.toStop || flag s Reg.FRM_CFG 8 then modeStop
  else if getReg s Reg.FRM_TIMSTAT ≠ 0 && !(v = modeHold && curMode s = modeHold) then modeStop
  else v

/-- The bolt at T0(R) after an F3 release: a SOLO module asserts it, and a PAIR module tries it, or is a standby where the
partner holds it (R375). -/
def retakeBolt (s : State) : State :=
  if !s.flt.retake then s
  else
    let s := { s with flt := { s.flt with retake := false } }
    if haspState s = 0 then setBolt true s
    else if haspState s ≠ 2 then s
    else if s.pads.boltIn then toUnsync s
    else if s.flt.contest then
      raise 0x060A 0 { s with flt := { s.flt with contest := false }, hasp := { s.hasp with retry := some s.raw } }
    else setBolt true { s with hasp := { s.hasp with hbStopped := false } }

/-- The CDR completes at the first tick after its restore (R375, R78). -/
def cdrResume (s : State) : State :=
  if !s.flt.restored then s
  else
    let v := cdrMode s
    let s := if s.flt.cdr = some true && haspState s = 2 then toUnsync s else retakeBolt s
    let s := putFlag (putFlag s Reg.FLT_STAT 0 false) Reg.FLT_CUR2 0 false
    let s := restoreVote s
    let s := { s with flt := { s.flt with cdr := none, restored := false, toStop := false },
                      frm := { s.frm with reqLate := s.frm.reqHeld, reqHeld := none, discarded := false } }
    let s := if wardState s = 4 then enterWindow 1 s else s
    refreshPend (resumeIn v s)

/-- A pending request takes effect at the tick of frame `n` (R75, R76); one that missed the cut-off waits for the next. -/
def takeRequest (n : Nat) (s : State) : State :=
  if s.flt.cdr.isSome || flag s Reg.FLT_STAT 1 then s
  else
    let r := s.frm.reqDue
    let s := refreshPend { s with frm := { s.frm with reqDue := s.frm.reqLate, reqLate := none } }
    match r with
    | some v => if v = modeRun && getReg s Reg.FRM_TIMSTAT ≠ 0 then s else changeMode n v s
    | none => s

/-- The leaves continue from the tick at which the request of a RESUME takes effect (R446). -/
def endDebugHalt (s : State) : State :=
  if s.leaf.resuming && s.frm.reqDue.isNone && s.frm.reqLate.isNone && s.frm.reqHeld.isNone then
    let s := { s with leaf := { s.leaf with dbgHalt := false, resuming := false, haltedInst := none, stepReq := false } }
    wardRefresh (refreshHalted (putFlag s Reg.DBG_STAT 0 false))
  else s

/-! The tick (R54, R55, R58). -/

/-- The number of the next tick. -/
def nextTick (s : State) : Nat :=
  if s.frm.first then
    let t := max s.frm.firstAt (now s) - pair s Reg.FRM_FBASET_LO
    pair s Reg.FRM_FBASEN_LO + (t + frameNs s - 1) / frameNs s
  else fnum s + 1

/-- The change of period that waits falls due at the tick of frame `n`. (Log 134, DEDUCED.) -/
def switchDue (n : Nat) (s : State) : Bool :=
  match s.frm.switchTo with
  | some k => tickAt s n % (k * 62500) = 0
  | none => false

/-- The switch tick: the base moves to frame `n`, which has the new period (R55). -/
def switchPeriod (n : Nat) (s : State) : State :=
  match s.frm.switchTo with
  | some k =>
    let t := tickAt s n
    let s := putFld { s with frm := { s.frm with switchTo := none } } Reg.FRM_KNOW 7 0 k
    putPair (putPair s Reg.FRM_FBASET_LO t) Reg.FRM_FBASEN_LO n
  | none => s

/-- SPEC publishes the counts of the frame that has ended, and begins anew (R139). -/
def publishSpec (n : Nat) (s : State) : State :=
  let p := s.spec
  let s := putNat s Reg.SPEC_LASTSEG (min 65535 p.retired * 2 ^ 16 + min 65535 p.replayed)
  let s := putNat s Reg.SPEC_SAVED (min (2 ^ 20 - 1) (p.saved / 10))
  let s := forAll (List.range 32) (fun s t =>
    let (a, b) := (alGet p.perTask t).getD (0, 0)
    putNat s (Reg.SPEC_TASKSEG t) (a % 2 ^ 16 * 2 ^ 16 + b % 2 ^ 16)) s
  let s := putFlag s Reg.SPEC_STAT 8 (p.discarded = some n)
  { s with spec := { s.spec with retired := 0, replayed := 0, saved := 0, perTask := [], raised := [] } }

/-- What a frame may raise only once may be raised again. -/
def newFrame (s : State) : State :=
  let s := { s with mm := { s.mm with stalled := false },
                    dio := s.dio.map fun p => (p.1, { p.2 with ofsRaised := false }),
                    ao := s.ao.map fun p => (p.1, { p.2 with ofsRaised := false }) }
  forAll (List.range 12) (fun s n =>
    let l := lane s n
    let l' := { l with undecl := false, rxFull := false, mapped := [] }
    let s := if l = l' then s else putLane n l' s
    putFld s (Reg.TIME_LANE_STAT n) 13 8 (cycleOf s n (fnum s))) s

/-- The commit released in the frame before is the one that this frame applies, with its timed edges (R60, R293). -/
def takeOutput (s : State) : State :=
  let s := settleEdges s
  match s.frm.nextOut with
  | some c => placeEdges c { s with frm := { s.frm with released := some c, nextOut := none } }
  | none => { s with frm := { s.frm with released := none } }

/-- COMMITS records of the standby's boundary: the primary's writes and mode (R178, R212); none takes effect once the standby
is out of step. -/
def standbyCommits (n : Nat) (s : State) : List Nat × State :=
  let due := s.hasp.commitsDue.filter fun c => c.frame ≤ n
  let s := { s with hasp := { s.hasp with commitsDue := s.hasp.commitsDue.filter fun c => n < c.frame } }
  due.foldl (fun (r : List Nat × State) c =>
    let (ws, s) := r
    if haspState s = 5 then (ws, s) else
    let (ok, s) := if c.install then standbyInstall n c.delta s else (true, s)
    if !ok then (ws, raise 0x0604 1 (leaveStep s))
    else
      let s := writeSet c.writes c.seq s
      let s := match c.mode with
        | some v => changeMode n v.val s
        | none => s
      (ws ++ c.writes.map (·.1), s)) ([], s)

/-- The settings of the boundary of frame `n`: a change of period that is due, an installation, the commits, and what the units
do with them. A commit at a switch tick meets the new period, also one that changes K again. (Log 129, DEDUCED; Log 154,
DEDUCED.) -/
def boundary (n : Nat) (s : State) : State :=
  let due := switchDue n s
  let s0 := if due then switchPeriod n s else s
  let (w1, s) := olcTick n s0
  let (w2, s) := standbyCommits n s
  let (w3, s) := if haspState s = 3 || haspState s = 4 then ([], s) else txnBoundary n s
  unitBoundary n due (w1 ++ w2 ++ w3) s0 s

/-- The first tick of a start (R434, R448): its mode, and the end of the start. No frame precedes it: none whose image
run-ahead for it could predict from (R123), and none with a CC, so that it carries the fail-state image (R73). (Log 58,
DEDUCED.) -/
def firstTick (n : Nat) (s : State) : State :=
  if !s.frm.first then s
  else
    let v := s.frm.resumeMode
    let s := { s with frm := { s.frm with first := false, ticking := true },
                      flt := { s.flt with toStop := false }, spec := { s.spec with barred := some n } }
    let s := putFld s Reg.BOOT_INFO 31 16 (min 65535 ((s.raw - s.boot.releaseAt) / 400000))
    let s := putFlag s Reg.BOOT_CFG 0 false
    resumeIn v (cause 8 (releaseFail { s with boot := { s.boot with forceCold := false } }))

/-- This module's frames are its own: it is SOLO or PRIMARY, or UNSYNC. -/
def ownFrames (s : State) : Bool := haspState s = 0 || haspState s = 2 || haspState s = 5

/-- This module releases tasks and commits on its own timetable. -/
def leads (s : State) : Bool := haspState s = 0 || haspState s = 2

/-- The local sample of T0: the unforced values, or on a standby its own sample, which a takeover uses (R173, R185). -/
def takeSample (s : State) : State :=
  let (l, s) := localSample s
  if haspState s = 3 || haspState s = 4 then { s with hasp := { s.hasp with ownSample := l } }
  else { noteCheck false s with frm := { s.frm with unforced := applyOver s.frm.unforced l } }

/-- A standby discards a reception that no ACCEPT has named within two frames (R173). -/
def trimRx (n : Nat) (s : State) : State :=
  { s with hasp := { s.hasp with rx := s.hasp.rx.filter fun p => tickAt s (n - 2) ≤ timeAt s p.frame.stamp } }

/-- The cyclic releases of frame `n`; on a standby the primary's records release (R61, R174). -/
def cyclicReleases (n : Nat) (s : State) : State :=
  if leads s && !s.leaf.actHalt then forAll (List.range 32) (cyclicRelease n) s else s

/-- The tick of the next frame. -/
def frameTick (s : State) : State :=
  if !(s.frm.ticking || s.frm.first) || haspState s = 1 || !s.pads.pfailB then s
  else
    let n := nextTick s
    let s := advanceToTime (tickAt s n) s
    let s := cdrResume s
    let s := timeTick s
    let n := max n (pair s Reg.FRM_FBASEN_LO + (now s - pair s Reg.FRM_FBASET_LO) / frameNs s)
    let s := filtersTo s
    let s := boundary n (publishSpec n s)
    let s := endDebugHalt (takeRequest n (firstTick n s))
    let s := putPair s Reg.FRM_FNUM_LO n
    let s := { s with frm := { s.frm with phase := 0, compute := false, running := none } }
    let s := if curMode s = modeRun then s else specDiscard s
    let s := trimRx n (takeOutput (newFrame s))
    let s := takeSample s
    let s := openWhole (cyclicReleases n s)
    when (haspState s = 2) (fun s => sendRec "SAMPLE" (sendRec "COMMITS" s)) s

/-! The input close (R59, R65, R131). -/

/-- Input points whose value in the new image differs from what a segment read hit it (R131). -/
def inputHits (img : SMap Word) (s : State) : State :=
  let seg (g : Seg) : Seg :=
    if g.reads.any fun p => (pcls p.1 = clsIX || pcls p.1 = clsIW) && p.1 < 2 ^ 21 && imgGet img p.1 ≠ p.2 then
      { g with hitInput := true }
    else g
  let upd (w : Work) : Work := if w.suspended then w else { w with segs := w.segs.map seg, cur := w.cur.map seg }
  { s with spec := { s.spec with work := s.spec.work.map upd } }

/-- Rewrites two regions of the window from an image. -/
def rewriteWindow (c d : Nat) (img : SMap Word) (s : State) : State :=
  let s := rewriteRegion (rewriteRegion s (clsBase c) c img) (clsBase d) d img
  forAll (regionPages c ++ regionPages d) (fun s p => touchPage p s) (refreshKnown
    { s with mm := { s.mm with known := s.mm.known.filter fun w => eccAt s w = .double } })

/-- The input image of the frame is complete: the forces, the window, and the instances that it is the release image of. -/
def closeImage (s : State) : State :=
  let img := applyOver (applyOver s.frm.unforced (countPoints s)) (inputForces s)
  let s := rewriteWindow clsIX clsIW img (inputHits img s)
  let upd (i : Inst) : Inst := if i.frozen then i else { i with frozen := true, img := img, outImg := s.frm.last }
  touchFrm frmImages (touchFrm frmUnforced
    { s with frm := { s.frm with inImg := img, insts := s.frm.insts.map fun p => (p.1, upd p.2) } })

/-- A latch counts as one trigger, and each trigger beyond the first as merged (R79). -/
def countLatches (s : State) : State :=
  if !s.frm.latchDue then s
  else
    let l := s.frm.latch
    let s := { s with frm := { s.frm with latchDue := false } }
    forAll (l.filter fun p => taskEn s p.1) (fun s p =>
      let s := if p.2 = 0 then s else takeTrigger p.1 (icAt s (fnum s)) s
      bumpMerged p.1 (p.2 - 1) s) s

/-- Suspended instances are ready again. -/
def resumeInsts (s : State) : State :=
  let upd (i : Inst) : Inst := if i.st = .suspended then { i with st := .ready } else i
  { s with frm := { s.frm with insts := s.frm.insts.map fun p => (p.1, upd p.2) } }

/-- Event tasks whose trigger falls in this frame and came before IC are released now, unless they are disabled by then (R62,
R68). (Log 151, DEDUCED.) -/
def releaseLater (n : Nat) (s : State) : State :=
  let due := s.frm.later.filter fun p => p.2 ≤ n
  let s := { s with frm := { s.frm with later := s.frm.later.filter fun p => n < p.2 } }
  forAll (due.filter fun p => taskEn s p.1) (fun s p =>
    releaseTask p.1 n (n + fld s (Reg.FRM_EVTCFG (p.1 - 32)) 20 10 - 1) (icAt s n) true s) s

/-- The open segment of an instance closes, if an instruction has run ahead in it. -/
def closeWork (w : Work) : Work :=
  { w with segs := w.segs ++ w.cur.toList.filter fun g => 0 < g.instrs, cur := none, stopped := true }

/-- IC ends the run-ahead for its frame: the open segments close, and each task's segments are counted (R127, R129, R139). -/
def specClose (s : State) : State :=
  if s.spec.frame ≠ some (fnum s) then s
  else
    let ws := s.spec.work.map closeWork
    let n := ws.map fun w => (w.tid, w.segs.length, ((alGet s.spec.perTask w.tid).getD (0, 0)).2)
    let s := specStop 1 (if fld s Reg.SPEC_STAT 2 0 = 2 then 1 else fld s Reg.SPEC_STAT 7 4) s
    { s with spec := { s.spec with work := ws, perTask := n, full := false } }

/-- The compute phase begins. -/
def beginCompute (n : Nat) (s : State) : State :=
  let s := { s with frm := { s.frm with compute := true } }
  if s.leaf.actHalt || curMode s = modeStop then s
  else if curMode s = modeHold then countLatches s
  else schedule (releaseLater n (countLatches (resumeInsts s)))

/-- A joining standby with the FINAL checkpoint enters SHADOW (R190). -/
def enterShadow (s : State) : State :=
  if haspState s = 3 && s.hasp.finalHeld && !flag s Reg.HASP_STAT 24 then
    raise 0x0607 0 (putFld (wardRefresh (setHaspState 4
      { s with hasp := { s.hasp with finalHeld := false } })) Reg.HASP_XFERSTAT 2 0 4)
  else s

/-- IC of the current frame. -/
def inputClose (s : State) : State :=
  if !s.frm.ticking || s.frm.phase ≠ 0 || !s.pads.pfailB then s
  else
    let n := fnum s
    let s := advanceToTime (icAt s n) s
    let s := { s with frm := { s.frm with phase := 1 } }
    let s := enterShadow s
    let s := if s.leaf.actHalt then s else enterVote s
    if haspState s = 3 || haspState s = 4 then s
    else
      let s := specClose (closeImage s)
      if leads s then beginCompute n (when (haspState s = 2) (sendRec "CLOSE") s) else s

/-! The commit close (R72, R76, R80 to R83, R118). -/

/-- A list in an order, by insertion. -/
def insertBy {α : Type} (lt : α → α → Bool) (a : α) : List α → List α
  | [] => [a]
  | b :: r => if lt b a then b :: insertBy lt a r else a :: b :: r

def sortBy {α : Type} (lt : α → α → Bool) (l : List α) : List α := l.foldr (insertBy lt) []

/-- The order in which R72 commits the buffers: priority value descending, cyclic before event, index descending. -/
def commitsBefore (s : State) (a b : Nat × Inst) : Bool :=
  let pa := taskPrio s a.1
  let pb := taskPrio s b.1
  decide (pb < pa) || (pa = pb && ((!isEvent a.1 && isEvent b.1) || (isEvent a.1 = isEvent b.1 && decide (b.1 < a.1))))

/-- The image and the requests after the buffers of instances, in the order of R72. -/
def commitInsts (s : State) (l : List (Nat × Inst)) (out : SMap Word) : SMap Word × List (List Byte) :=
  let o := sortBy (commitsBefore s) (l.filter fun p => !p.2.trapped)
  (o.foldl (fun m p => applyOver m p.2.qw) out, o.flatMap fun p => p.2.emits)

/-- Counts and reports an overrun (R83). -/
def reportOverrun (s : State) (p : Nat × Inst) : State :=
  let s := bump s (taskStat p.1) 31 16
  if taskStop s p.1 then raise 0x0302 1 s else raise 0x0301 0 s

/-- FRM.OVRLOG holds the overrun with the lowest priority value, the first in the order of R66. -/
def logOverrun (n : Nat) (l : List (Nat × Inst)) (s : State) : State :=
  match firstOf (runsBefore s) l with
  | some (t, _) => putNat s Reg.FRM_OVRLOG
      (n % 2 ^ 16 * 2 ^ 16 + b2n (taskStop s t) * 2 ^ 9 + b2n (isEvent t) * 2 ^ 8 + t % 32)
  | none => s

/-- The instances that have not ended are suspended at CC (R65); a primary's partner learns where the one that runs stands
(R174). (Log 67, DEDUCED.) -/
def suspendInsts (s : State) : State :=
  let s := if s.frm.running.isSome then sendPos s else s
  let upd (i : Inst) : Inst := if isReady i then { i with st := .suspended } else i
  { s with frm := { s.frm with insts := s.frm.insts.map fun p => (p.1, upd p.2), running := none, compute := false } }

/-- FRM.SLACK: 0 where execution reached CC; otherwise what time execution left is the leaves', so the value is free up to the
length of the compute phase. (Log 24, DESIGN CHOICE.) -/
def noteSlack (s : State) : State :=
  let reached := s.frm.insts.any fun p => isReady p.2
  let (v, s) : Nat × State := if reached then (0, s)
    else
      let (f, s) := takeFree s
      (f.toNat % (fld s Reg.FRM_CCOFF 19 0 - fld s Reg.FRM_WIN 19 0 + 1), s)
  let s := putNat s Reg.FRM_SLACK v
  if curMode s = modeRun then putNat s Reg.FRM_SLACKMIN (min (regNat s Reg.FRM_SLACKMIN) v) else s

/-- What a CC decides: the image, the requests, whether it is the fail-state image, and the state. -/
structure Close where
  img : SMap Word
  reqs : List (List Byte) := []
  fail : Bool := false
  run : Bool := false
  hold : Bool := false
  s : State

/-- A policy of STOP takes effect: the fail-state image, and STOP from the CC on (R82). -/
def closeStop (s : State) : Close :=
  let s := showMode modeStop (stopAll (dropRequests s))
  { img := failImage s, fail := true, s := s }

/-- The commit in RUN (R72, R80 to R82): `late` are the overruns. -/
def closeRun (n : Nat) (late : List (Nat × Inst)) (s : State) : Close :=
  let s := logOverrun n late (late.foldl reportOverrun s)
  if s.frm.trapStop || late.any fun p => taskStop s p.1 then closeStop s
  else
    let s := forAll late (fun s p => stopInst p.1 s) s
    let due := s.frm.insts.filter fun p => p.2.deadline ≤ n && p.2.st = .ended
    let (img, reqs) := commitInsts s due s.frm.last
    { img := img, reqs := reqs, run := true, s := forAll due (fun s p => dropInst p.1 s) s }

/-- The commit in HOLD: an image that stood as the fail-state image stays one (R76). (Log 133, DEDUCED.) -/
def closeHold (n : Nat) (s : State) : Close :=
  let done := s.frm.insts.filter fun p => p.2.st = .ended && (!p.2.seen || p.2.deadline ≤ n)
  let (img, reqs) := commitInsts s done s.frm.last
  { img := img, reqs := reqs, fail := s.frm.lastFail, s := forAll done (fun s p => dropInst p.1 s) s }

/-- A debug halt that HOLD has not yet followed (R77). -/
def haltedNow (s : State) : Bool := s.leaf.dbgHalt && curMode s ≠ modeHold

/-- What CC(n) commits, before the forces; under a debug halt nothing, and the outputs hold (R77). The first CC after a trap
with POLICY = STOP acts as an overrun of that policy, in HOLD and under a debug halt too (R118). (Log 30, DEDUCED.) -/
def closeFrame (n : Nat) (late : List (Nat × Inst)) (s : State) : Close :=
  if curMode s ≠ modeStop && s.frm.trapStop && (haltedNow s || curMode s = modeHold) then closeStop s
  else if haltedNow s then { img := s.frm.last, fail := s.frm.lastFail, hold := true, s := s }
  else if curMode s = modeStop then { img := failImage s, fail := true, s := s }
  else if curMode s = modeHold then closeHold n s
  else closeRun n late s

/-- The committed output points that change hit the segments that read them (R131). -/
def outputHits (old new : SMap Word) (s : State) : State :=
  let ks := (old.map (·.1) ++ new.map (·.1)).filter fun k => imgGet old k ≠ imgGet new k
  ks.foldl (fun s k => specHit k true s) (when (!ks.isEmpty) (noteCheck false) s)

/-- The output digest of a commit (R177). -/
def digestOf (s : State) (reqs : List (List Byte)) (crc : Word) : Word :=
  crc32c (memBytes s (clsBase clsQX) 0x8000 ++ memBytes s (clsBase clsQW) 0x10_0000 ++ reqs.flatten ++ leBytes 4 crc.toNat)

/-- CC(n) with its overruns: the commit, the forces, the window and the checkpoint. -/
def commitFrame (n : Nat) (late : List (Nat × Inst)) (s : State) : State :=
  let s := noteSlack s
  let c := closeFrame n late s
  let s := c.s
  let s := if curMode s = modeRun && !c.hold then suspendInsts s
    else { s with frm := { s.frm with running := none, compute := false } }
  let s := setReplaying none s
  let forces := if c.hold then [] else outputForces s
  let img := applyOver c.img forces
  let (good, s) := checkRequests c.reqs s
  let (reqs, s) := admitRequests good [] s
  let s := outputHits s.frm.last img s
  let seen (i : Inst) : Inst := { i with seen := i.st = .ended }
  let run := if c.run && !c.fail then img else s.frm.runImg
  let l := mergeLatch s.frm.latchCc s.frm.latch
  let s := { s with frm := { s.frm with last := img, runImg := run, lastFail := c.fail, phase := 2, trapStop := false, latchCc := l, latch := [],
                                        insts := s.frm.insts.map fun p => (p.1, seen p.2) } }
  let s := takeCheckpoint n (rewriteWindow clsQX clsQW img s)
  let s := putReg s Reg.HASP_DIGEST (digestOf s reqs (ckCrc s))
  let s := writeCheckpoint n s
  let k : Commit := { frame := n, img := img, reqs := reqs, fail := c.fail, run := c.run && !c.fail,
                      forced := forces.map (·.1), hold := c.hold,
                      edges := if c.fail || c.hold then [] else commitEdges (periodOf s (n + 1)) img (forces.map (·.1)) s }
  let s := { s with frm := { s.frm with pendingCommit := some k },
                    spec := if s.spec.frame = some n then { s.spec with frame := none, work := [] } else s.spec }
  if curMode s = modeRun then releaseFlags (ccAt s n) s else s

/-- A frame without a CC carries the fail-state image from its output phase on (R73, R375). -/
def failFrame (s : State) : State :=
  let s := offerOpen (buildMapped (failImage s) (releaseFail s))
  { s with frm := { s.frm with phase := 2 } }

/-- The instances that overrun at CC(n) (R80). (Log 25, DESIGN CHOICE.) -/
def overruns (n : Nat) (s : State) : List (Nat × Inst) :=
  s.frm.insts.filter fun p => p.2.deadline ≤ n && p.2.st ≠ .ended

/-- The overruns that CC(n) finds; a new primary that holds the CC record of the frame takes that record's (R185). -/
def closeLate (n : Nat) (s : State) : List (Nat × Inst) :=
  let held := if s.hasp.takeoverFrame = some n then (s.hasp.shadow.find? fun w => w.frame = n).bind (·.cc) else none
  match held with
  | some q => s.frm.insts.filter fun p => q.overruns.contains p.1
  | none => overruns n s

/-- A new primary's first CC ends what it had from the old one. -/
def ownAgain (n : Nat) (s : State) : State :=
  if s.hasp.takeoverFrame = some n then { s with hasp := { s.hasp with shadow := [], posQ := [] } } else s

/-- CC of the current frame; a standby closes at its shadow close instead, and so does the frame in which it takes over
(R185). -/
def commitClose (s : State) : State :=
  if !s.frm.ticking || s.frm.phase ≠ 1 || !s.pads.pfailB || haspState s = 3 || haspState s = 4 then s
  else
    let n := fnum s
    let late := if s.hasp.takeoverFrame = some n then 6000 else 0
    let s := advanceToTime (ccAt s n + late) s
    if s.leaf.actHalt then failFrame s
    else if leads s then commitFrame n (closeLate n s) (ownAgain n s)
    else { s with frm := { s.frm with phase := 2 } }

/-! The release of a commit (R154). -/

/-- The partner's latest heartbeat, not lost since, reports SHADOW: it sends a DIGEST of every frame (R177). -/
def shadowed (s : State) : Bool := flag s Reg.HASP_STAT 11 && s.hasp.lastHb.any fun p => p.2 = 4

/-- The CC record of the primary, which a joining partner gets only in the FINAL phase that waited for it (R172, R190). -/
def releaseRecords (n : Nat) (s : State) : State :=
  if haspState s ≠ 2 || (fld s Reg.HASP_STAT 27 25 = partnerJoining && !s.hasp.finalDue) then s
  else
    let s := if shadowed s then
        { s with hasp := { s.hasp with undigested := s.hasp.undigested ++ [(n, getReg s Reg.HASP_DIGEST)] } }
      else s
    let s := sendRec "CC" s
    if s.hasp.finalDue then
      let s := sendRec "COMMITS" s
      putFld { s with hasp := { s.hasp with finalDue := false, mirroring := false, mirrorQ := 0, copyDirty := [] } }
        Reg.HASP_XFERSTAT 2 0 3
    else s

/-- A commit is released to the lanes, the field units and the hasp as accepted work. -/
def releaseCommit (c : Commit) (s : State) : State :=
  let s := finishCheckpoint c.frame s
  let s := { s with frm := { s.frm with pendingCommit := none, nextOut := if c.hold then none else some c } }
  let s := forAll c.reqs (fun s d => queueRequest c.frame d s) s
  let s := startLoading c.frame (readCounts (buildMapped c.img s))
  offerOpen (decideChange (c.frame + 1) (releaseRecords c.frame (if c.hold then s else cause 4 s)))

/-- The checkpoint of the latest CC is complete. -/
def checkpointComplete (s : State) : State :=
  match s.frm.pendingCommit with
  | some c => if s.leaf.actHalt || !s.pads.pfailB then s else releaseCommit c s
  | none => s

/-- AP of the current frame (R60). -/
def applyInstant (s : State) : State :=
  if !s.frm.ticking || !s.pads.pfailB then s
  else
    match s.frm.released with
    | some c => applyCommit c (advanceToTime (apAt s (fnum s)) s)
    | none => advanceToTime (apAt s (fnum s)) s

/-- FRM.CTRCLR (R84). (Log 138, DEDUCED.) -/
def frmCtrClr (s : State) : State :=
  let s := forAll (List.range 48) (fun s t => putFld s (taskStat t) 31 8 0) s
  putNat (forAll (List.range 32) (fun s t => putNat s (Reg.FRM_TASKMAX t) 0) s) Reg.FRM_SLACKMIN 0xFFFFF

end Sys2Proof.Machine
end

