-- ==== Sys2Proof/Machine/PstOps.lean ====
section
/-! DEFINITION. The parameter store: its array and its codes (R382 to R387), protection (R388, R389), the powered-time block
(R390, R391) and the record service (R392 to R395). -/

namespace Sys2Proof.Machine

/-- How a write completes: accepted; an error response that raises the unit's notice, beside a fault of its own that it may have
raised; or one whose fault, raised in place of the notice, has been raised already (R5, R18). -/
inductive Resp where
  | ok | refused | raised
  deriving DecidableEq, Repr

/-- The response of a write that a unit accepts or refuses. -/
def respOf (b : Bool) : Resp := if b then .ok else .refused

/-- The size of the array. -/
def pstSize : Nat := 0x40000

/-! The array and its codes (R386). -/

/-- PST.STAT.UEKNOWN follows the groups known to be bad. -/
def refreshPstKnown (s : State) : State := putFlag s Reg.PST_STAT 1 (!s.pst.known.isEmpty)

def pstErrAddr (off : Nat) (unc : Bool) (s : State) : State :=
  putNat s Reg.PST_ERRADDR (b2n unc * 2 ^ 31 + off / 8 * 8)

/-- A single-bit error of a group is corrected; CORRECTED comes at most once per second. -/
def pstCorrected (off : Nat) (mas : BitVec 4) (s : State) : State :=
  let s := pstErrAddr off false (bump (putEcc s (pstBase + off) .good) Reg.PST_CECNT 31 0)
  let due := match s.pst.corrAt with
    | some r => decide (r + 400000000 ≤ s.raw)
    | none => true
  if due then report 0x4101 0 mas { s with pst := { s.pst with corrAt := some s.raw } } else s

/-- An uncorrectable group is met. -/
def pstBad (off : Nat) (mas : BitVec 4) (s : State) : State :=
  let g := off / 8
  let k := if s.pst.known.contains g then s.pst.known else g :: s.pst.known
  report 0x4102 1 mas (refreshPstKnown (pstErrAddr off true { s with pst := { s.pst with known := k } }))

/-- A checked read inside one group; none is an error response. -/
def pstRead (mas : BitVec 4) (off n : Nat) (s : State) : Option Nat × State :=
  match eccAt s (pstBase + off) with
  | .double => (none, pstBad off mas s)
  | .single _ => (some (memNat s (pstBase + off) n), pstCorrected off mas s)
  | .good => (some (memNat s (pstBase + off) n), s)

/-- Stores a piece, with its group recoded; a piece that covers a bad group heals it. -/
def pstStore (off : Nat) (b : List Byte) (s : State) : State :=
  let s := putBytes s (pstBase + off) b
  if b.length = 8 then
    refreshPstKnown { putEcc s (pstBase + off) .good with pst := { s.pst with known := s.pst.known.filter (· ≠ off / 8) } }
  else s

/-! Protection (R388, R389). -/

/-- The first offset that block protect covers. -/
def pstProtFrom (s : State) : Nat :=
  match fld s Reg.PST_PROT 1 0 with
  | 0 => pstSize
  | 1 => 0x30000
  | 2 => 0x20000
  | _ => 0

def pstProtected (m : Master) (off : Nat) (s : State) : Bool := m ≠ .m0 && m ≠ .m4 && pstProtFrom s ≤ off

def pstLocked (off : Nat) (s : State) : Bool := off < 256 || (off < 512 && flag s Reg.PST_STAT 2)

/-- A write piece by a master, inside one group. (Log 109, DEDUCED.) -/
def pstWrite (m : Master) (off : Nat) (b : List Byte) (s : State) : Resp × State :=
  if pstLocked off s then (.refused, raiseBy m 0x4104 0 s)
  else if pstProtected m off s then (.raised, raiseBy m 0x4103 0 s)
  else if b.length < 8 && eccAt s (pstBase + off) = .double then (.refused, pstBad off (masNib m) s)
  else
    let s := match eccAt s (pstBase + off) with
      | .single _ => if b.length < 8 then pstCorrected off (masNib m) s else s
      | _ => s
    (.ok, pstStore off b s)

/-- PST.P1LOCK (R389). -/
def pageLock (v : Nat) (s : State) : Bool × State :=
  if bits v 31 16 ≠ 0x5031 then (false, s) else (true, if v % 2 = 1 then putFlag s Reg.PST_STAT 2 true else s)

/-! The powered-time block (R390, R391). SYS is no master, and nothing bars it. -/

/-- SYS stores OPTIME and PWRCYC. (Log 117, DEDUCED.) -/
def storeCounts (s : State) : State :=
  let b := countBlock s.pst.optime s.pst.pwrcyc
  pstStore 0x88 (b.drop 8) (pstStore 0x80 (b.take 8) s)

/-- SYS counts a POR, continuing from the stored block; a block that fails its CRC raises COUNT_BAD. -/
def countPor (s : State) : State :=
  let b := memBytes s (pstBase + 0x80) 16
  let bad := (s.ecc.any fun p => p.2 = .double && (p.1 = pstBase + 0x80 || p.1 = pstBase + 0x88)) ||
    leNat (b.drop 12) ≠ (crc32c (b.take 12)).toNat
  let opt := leNat (b.take 6)
  let cyc := leNat ((b.drop 8).take 4)
  let s := storeCounts { s with pst := { s.pst with optime := opt, pwrcyc := (cyc + 1) % 2 ^ 32 } }
  if bad then raise 0x4109 0 s else s

/-! The record service (R392 to R395). -/

def recMax (s : State) (r : Nat) : Nat := fld s (Reg.PST_REC_SLOTA r) 31 20 * 8
def recOff (s : State) (r c : Nat) : Nat :=
  if c = 0 then fld s (Reg.PST_REC_SLOTA r) 17 3 * 8 else fld s (Reg.PST_REC_SLOTB r) 17 3 * 8

/-- Reads `n` whole groups from an offset: the bytes, with 0 for a group that cannot be read, and whether all could be. -/
def pstGroups (mas : BitVec 4) : Nat → Nat → State → List Byte × Bool × State
  | 0, _, s => ([], true, s)
  | n + 1, off, s =>
    let (v, s) := if off < pstSize then pstRead mas off 8 s else (none, s)
    let (l, ok, s) := pstGroups mas n (off + 8) s
    (leBytes 8 (v.getD 0) ++ l, ok && v.isSome, s)

/-- A copy of a record: whether it is valid, its SEQ and its data. -/
structure RecCopy where
  valid : Bool
  seq : Nat
  data : List Byte
  deriving DecidableEq, Repr

/-- Reads a copy. -/
def readCopy (mas : BitVec 4) (r c : Nat) (s : State) : RecCopy × State :=
  let (h, ok, s) := pstGroups mas 2 (recOff s r c) s
  let len := leNat ((h.drop 4).take 4)
  if !ok || recMax s r < len then ({ valid := false, seq := 0, data := [] }, s)
  else
    let (d, ok, s) := pstGroups mas ((len + 7) / 8) (recOff s r c + 16) s
    let d := d.take len
    ({ valid := ok && leNat ((h.drop 8).take 4) = (crc32c (h.take 8 ++ d)).toNat, seq := leNat (h.take 4), data := d }, s)

/-- Copy x is newer than copy y. -/
def recNewer (x y : Nat) : Bool :=
  let d := (x + 2 ^ 32 - y) % 2 ^ 32
  1 ≤ d && d < 2 ^ 31

/-- RECSTAT: the record, the flags and the copy of a command, with BUSY. -/
def putRecStat (r flags c : Nat) (s : State) : State :=
  putFlag (putNat s Reg.PST_RECSTAT (r * 2 ^ 16 + 2 ^ 7 + flags + c)) Reg.PST_STAT 0 true

/-- SELECT of a record by a master (R393). -/
def recSelect (m : Master) (r : Nat) (s : State) : State :=
  let mas := masNib m
  let (a, s) := readCopy mas r 0 s
  let (b, s) := readCopy mas r 1 s
  let fin (c flags seq : Nat) (s : State) : State :=
    let s := putNat (putRecStat r flags (c % 2) s) Reg.PST_RECSEQ seq
    { s with pst := { s.pst with selected := alPut s.pst.selected r (c, BitVec.ofNat 32 seq), busy := some (r, 1, m) } }
  match a.valid, b.valid with
  | false, false => raiseBy m 0x4108 1 (fin 2 0x2C 0 s)
  | false, true => raiseBy m 0x4107 0 (fin 1 4 b.seq s)
  | true, false => raiseBy m 0x4107 0 (fin 0 8 a.seq s)
  | true, true =>
    if recNewer a.seq b.seq then fin 0 0 a.seq s
    else if recNewer b.seq a.seq then fin 1 0 b.seq s
    else if a.data = b.data then fin 0 0 a.seq s
    else raiseBy m 0x4106 0 (fin 0 0x10 a.seq s)

/-- The copy that SEAL acts on, and the SEQ that it writes (R394). -/
def sealTarget (s : State) (r : Nat) : Option (Nat × Nat) :=
  (alGet s.pst.selected r).map fun p =>
    if p.1 = 2 then (0, 1) else (1 - p.1, (p.2.toNat + 1) % 2 ^ 32)

/-- SEAL of a record by a master; the header is written when the command completes. -/
def recSeal (m : Master) (r : Nat) (s : State) : Resp × State :=
  match sealTarget s r with
  | none => (.refused, s)
  | some (c, _) =>
    let o := recOff s r c
    if recMax s r < fld s Reg.PST_RECLEN 15 0 then (.refused, s)
    else if pstSize < o + 16 then (.raised, raiseBy m 0x4105 0 s)
    else if pstLocked o s || pstLocked (o + 8) s then (.refused, raiseBy m 0x4104 0 s)
    else if pstProtected m o s || pstProtected m (o + 8) s then (.refused, raiseBy m 0x4103 0 s)
    else (.ok, { putRecStat r 0 c s with pst := { s.pst with busy := some (r, 2, m) } })

/-- PST.RECCMD (R393 to R396). (Log 110, DEDUCED.) -/
def recCommand (m : Master) (v : Nat) (s : State) : Resp × State :=
  let r := bits v 11 8
  if bits v 31 16 ≠ 0x5243 || flag s Reg.PST_STAT 0 then (.refused, s)
  else match bits v 1 0 with
    | 0 => (.ok, s)
    | 1 => if recMax s r = 0 then (.refused, s) else (.ok, recSelect m r s)
    | 2 => if recMax s r = 0 then (.refused, s) else recSeal m r s
    | _ => (.refused, s)

/-- The header of a SEAL is written, CRC first. -/
def writeHeader (m : Master) (r : Nat) (s : State) : State :=
  match sealTarget s r with
  | none => s
  | some (c, seq) =>
    let o := recOff s r c
    let len := fld s Reg.PST_RECLEN 15 0
    let (d, _, s) := pstGroups (masNib m) ((len + 7) / 8) (o + 16) s
    let h := leBytes 4 seq ++ leBytes 4 len
    let s := pstStore (o + 8) (leBytes 4 (crc32c (h ++ d.take len)).toNat ++ [0, 0, 0, 0]) s
    let s := putNat (putFlag (pstStore o h s) Reg.PST_RECSTAT 6 true) Reg.PST_RECSEQ seq
    { s with pst := { s.pst with selected := alDel s.pst.selected r } }

/-- The record command in progress completes. -/
def recDone (s : State) : State :=
  match s.pst.busy with
  | none => s
  | some (r, op, m) =>
    let s := if op = 2 then writeHeader m r s else s
    putFlag (putFlag { s with pst := { s.pst with busy := none } } Reg.PST_RECSTAT 7 false) Reg.PST_STAT 0 false

end Sys2Proof.Machine
end

