-- ==== Sys2Proof/Machine/EvrOps.lean ====
section
/-! DEFINITION. The event recorder: its ring and control block, the masters' cursors and the clear (R398 to R405). -/

namespace Sys2Proof.Machine

/-- EVR.BASE. -/
def evrBase (s : State) : Nat := fld s Reg.EVR_BASE_LO 31 26 * 2 ^ 26 + fld s Reg.EVR_BASE_HI 0 0 * 2 ^ 32

def evrNext (s : State) : Nat := pair s Reg.EVR_NEXT_LO
def evrOldest (s : State) : Nat := pair s Reg.EVR_OLDEST_LO

/-- How many records the ring holds. -/
def ringSlots : Nat := 65536

/-- The address of the slot of record `q`. -/
def evrSlot (s : State) (q : Nat) : Nat := evrBase s + q % ringSlots * 512

/-- The address of the control block. (Log 112, DEDUCED.) -/
def evrCtl (s : State) : Nat := evrBase s + 0x200_0000

/-- The control block: the next number, the oldest number, and their CRC. -/
def ctlBytes (next oldest : Nat) : List Byte :=
  let b := leBytes 8 next ++ leBytes 8 oldest
  b ++ leBytes 4 (crc32c b).toNat

/-- NEXT and OLDEST, in the registers and in the control block. -/
def putRing (next oldest : Nat) (s : State) : State :=
  let s := putPair (putPair s Reg.EVR_NEXT_LO next) Reg.EVR_OLDEST_LO oldest
  unitStore (evrCtl s) (ctlBytes next oldest) s

/-- EVR checks the control block at a start; one that fails empties the ring (R398). -/
def evrStart (s : State) : State :=
  match unitLoad (evrCtl s) 20 s with
  | some b =>
    if leNat (b.drop 16) = (crc32c (b.take 16)).toNat then
      putPair (putPair s Reg.EVR_NEXT_LO (leNat (b.take 8))) Reg.EVR_OLDEST_LO (leNat ((b.drop 8).take 8))
    else raise 0x4202 1 (putRing 1 1 s)
  | none => raise 0x4202 1 (putRing 1 1 s)

/-! Cursors (R403). -/

def cursorOf (s : State) (m : Nat) : Nat := (alGet s.evr.cursors m).getD 0

/-- A master's record is gone. -/
def markGone (m : Nat) (s : State) : State :=
  if s.evr.gone.contains m then s else { s with evr := { s.evr with gone := m :: s.evr.gone } }

/-- A write of a master's cursor. -/
def setCursor (m v : Nat) (s : State) : State :=
  let s := { s with evr := { s.evr with cursors := alPut s.evr.cursors m v, gone := s.evr.gone.filter (· ≠ m) } }
  if v < evrOldest s then markGone m s else s

/-- The records numbered from `a` up to `b` are removed. -/
def removeRecords (a b : Nat) (s : State) : State :=
  forAll ((List.range 5).filter fun m => a ≤ cursorOf s m && cursorOf s m < b && (alGet s.evr.cursors m).isSome) (fun s m => markGone m s) s

/-! Commands (R399, R404). -/

/-- EVR.CMD; false is a refusal. -/
def evrCommand (m : Master) (v : Nat) (s : State) : Bool × State :=
  if bits v 31 16 ≠ 0x4552 then (false, s)
  else match bits v 1 0 with
    | 0 => (true, s)
    | 1 =>
      let s := removeRecords (evrOldest s) (evrNext s) s
      (true, raiseBy m 0x4203 0 (putNat (putRing (evrNext s) (evrNext s) s) Reg.EVR_DROPCNT 0))
    | _ => (false, s)

/-- EVR.STAT as a master reads it. -/
def evrStat (s : State) (m : Nat) : Nat :=
  let n := s.evr.queue.length
  (if n = 0 then 0 else if n ≤ 8 then 1 else if n < 16 then 2 else 3) * 8 +
    b2n (evrNext s ≤ cursorOf s m) * 2 + b2n (s.evr.gone.contains m)

/-! Records (R400 to R402). -/

/-- A snapshot entry: the address, its width and what the read gave. -/
structure Snap where
  addr : Nat
  wide : Bool
  value : Option Nat
  deriving DecidableEq, Repr

/-- The bytes of an entry. -/
def snapBytes (e : Snap) : List Byte :=
  leBytes 8 (e.addr % 2 ^ 40 + b2n e.value.isNone * 2 ^ 62 + b2n e.wide * 2 ^ 63) ++ leBytes 8 (e.value.getD 0)

/-- The 512 bytes of record `q` of a firing. -/
def recordBytes (s : State) (q : Nat) (f : Firing) (l : List Snap) : List Byte :=
  let h := leBytes 8 q ++ leBytes 8 (s.pst.optime % 2 ^ 48 + f.src * 2 ^ 48 + l.length * 2 ^ 56) ++
    leBytes 4 s.pst.pwrcyc ++ leBytes 4 (f.code.toNat + f.master * 2 ^ 16) ++ leBytes 8 f.time ++ leBytes 8 f.fnum
  let e := l.flatMap snapBytes
  h ++ leBytes 4 (crc32c (h ++ e)).toNat ++ List.replicate 20 0 ++ e ++ List.replicate (448 - e.length) 0

/-- Writes the record of a firing into the ring; a full ring loses its oldest record. -/
def writeRecordAt (f : Firing) (l : List Snap) (s : State) : State :=
  let q := evrNext s
  let old := evrOldest s
  let full := decide (ringSlots ≤ q - old)
  let s := when full (removeRecords (q - ringSlots) (q - ringSlots + 1)) s
  let s := unitStore (evrSlot s q) (recordBytes s q f l) s
  cause 11 (putRing (q + 1) (if full then old + 1 else old) s)

end Sys2Proof.Machine
end

