-- ==== Sys2Proof/Machine/PnlOps.lean ====
section
/-! DEFINITION. The status panel: frame memory and levels, waveforms and polarity, updates, the journal and repaints (R407 to
R418). -/

namespace Sys2Proof.Machine

/-! Levels and waveforms (R407 to R410). -/

/-- The address of pixel (x, y) of layer `l` in frame memory. -/
def pixelAddr (l y x : Nat) : Nat := pnlBase + l * 0x14000 + y * 320 + x

/-- The size of the three layers of frame memory. -/
def pnlBytes : Nat := 245760

/-- The drive level of a frame-memory value of layer `l`. -/
def gammaLevel (s : State) (l v : Nat) : Nat :=
  fld s (Reg.PNL_GAMMA l (v / 8)) (v % 8 * 4 + 2) (v % 8 * 4)

/-- The code of phase `p` of a waveform entry; polarity 1 swaps the two drive voltages. -/
def phaseCode (w : Word) (p : Nat) (pol : Bool) : Nat :=
  let c := bits w.toNat (2 * p + 1) (2 * p)
  if pol && (c = 1 || c = 2) then 3 - c else c

/-- The polarity of common `y` in a pass that begins at count `u`. -/
def commonPol (y u : Nat) : Bool := (y + u) % 2 = 1

/-- What drives a pixel from one level to another in phase `p` of its common. -/
def columnDrive (j : PnlJob) (l a b p y u : Nat) : Nat :=
  phaseCode ((j.wave.getD l []).getD (8 * a + b) 0) p (commonPol y u)

/-! Temperature (R413). -/

/-- The panel temperature in 0.1 °C, where one is known. -/
def pnlTemp (s : State) : Option Int :=
  if flag s Reg.PNL_CFG 30 then some (BitVec.ofNat 16 (fld s Reg.PNL_TEMP 15 0)).toInt
  else
    match s.pnl.validAt with
    | some r => if s.raw ≤ r + 4 * 10 ^ 9 then some s.pnl.valid else none
    | none => none

/-- The band of a temperature. -/
def pnlBand (s : State) (t : Int) : Nat :=
  ((List.range 7).filter fun k => decide ((BitVec.ofNat 16 (fld s (Reg.PNL_BANDT k) 15 0)).toInt ≤ t)).length

/-- A thermistor reading in 0.1 °C. -/
def thermistor (t : Int) (s : State) : State :=
  let s := putFld s Reg.PNL_TEMP 31 16 (BitVec.ofInt 16 t).toNat
  if -300 ≤ t ∧ t ≤ 800 then
    { putFlag s Reg.PNL_STAT 8 false with pnl := { s.pnl with validAt := some s.raw, valid := t } }
  else if flag s Reg.PNL_STAT 8 then s
  else raise 0x4302 0 (putFlag s Reg.PNL_STAT 8 true)

/-! The journal (R415). -/

/-- PNL.STAT.STATE: 0 IDLE, 1 CHECK, 2 DRIVING, 3 REPAINT, 4 WAITTEMP. -/
def pnlState (s : State) : Nat := fld s Reg.PNL_STAT 2 0

/-- Writes the journal's header. (Log 115, DEDUCED.) -/
def journalHead (st first last band : Nat) (s : State) : State :=
  let b := leBytes 8 (regNat s Reg.PNL_UPDCNT) ++ leBytes 4 st ++ leBytes 4 (first + last * 2 ^ 8 + band * 2 ^ 16)
  unitStore (jBase s) (b ++ leBytes 4 (crc32c b).toNat) s

/-- The header's STATE, FIRST and LAST and its count; none where its CRC fails. -/
def readHead (s : State) : Option (Nat × Nat × Nat × Nat) :=
  match unitLoad (jBase s) 20 s with
  | some b =>
    if leNat (b.drop 16) = (crc32c (b.take 16)).toNat then
      some (leNat ((b.drop 8).take 4), leNat ((b.drop 12).take 1), leNat ((b.drop 13).take 1), leNat (b.take 8))
    else none
  | none => none

/-- Every level byte of the journal reads and is at most 7. -/
def levelsOk (s : State) : Bool :=
  match unitLoad (jBase s + 0x40) 460800 s with
  | some b => b.all fun x => x.toNat ≤ 7
  | none => false

/-- Copies row `y` from SHOWN to TARGET. -/
def keepRow (s : State) (y : Nat) : State :=
  forAll [0, 1, 2] (fun s l => unitStore (targetAddr s l y 0) (memBytes s (shownAddr s l y 0) 320) s) s

/-! Driving (R409 to R412, R417). -/

/-- The entries of a band for every layer. -/
def bandWaves (s : State) (band : Nat) : List (List Word) :=
  [0, 1, 2].map fun l => (List.range 65).map fun t => getReg s (Reg.PNL_WAVE l band t)

/-- The raw counts of the phases of one waveform in a band. -/
def bandTime (s : State) (band : Nat) : Nat :=
  (fld s (Reg.PNL_BANDCFG band) 19 16 + 1) * fld s (Reg.PNL_BANDCFG band) 15 0 * 400

/-- Begins to drive commons in a band, `delay` raw counts from now; an update stands in CHECK until then. (Log 114, DESIGN CHOICE.) -/
def beginDrive (repaint : Bool) (first last band delay : Nat) (s : State) : State :=
  let per := bandTime s band * (if repaint then 2 else 1)
  let j : PnlJob := { repaint := repaint, first := first, last := last, wave := bandWaves s band,
                      startAt := s.raw + delay, per := per }
  let s := putFld (putFld (putFld s Reg.PNL_STAT 2 0 (if repaint then 3 else 1)) Reg.PNL_STAT 18 16 band) Reg.PNL_STAT 31 24 first
  { s with pnl := { s.pnl with job := some j, hven := true, hvenOff := none, waiting := false } }

/-- The CRC of frame memory, into PNL.CRC (R414). -/
def pnlCrc (s : State) : State := putReg s Reg.PNL_CRC (crc32c (memBytes s pnlBase pnlBytes))

/-- Writes the target levels of row `y`. -/
def targetRow (s : State) (y : Nat) : State :=
  forAll [0, 1, 2] (fun s l => unitStore (targetAddr s l y 0)
    ((memBytes s (pixelAddr l y 0) (pnlCols s)).map fun b => BitVec.ofNat 8 (gammaLevel s l b.toNat)) s) s

/-- The module is a standby whose panel is held (R418). -/
def pnlHeld (s : State) : Bool := haspState s = 3 || haspState s = 4 || haspState s = 5

/-- UPDATE (R412 to R414). (Log 114, DESIGN CHOICE; Log 116, DEDUCED.) -/
def pnlUpdate (m : Master) (s : State) : Resp × State :=
  let f := fld s Reg.PNL_UPD 7 0
  let l := fld s Reg.PNL_UPD 23 16
  if pnlState s ≠ 0 || l < f || pnlRows s ≤ l || !flag s Reg.PNL_CFG 31 || pnlHeld s then (.refused, s)
  else
    let s := pnlCrc s
    if flag s Reg.PNL_CFG 29 && getReg s Reg.PNL_CRC ≠ getReg s Reg.PNL_EXPCRC then
      (.ok, raiseBy m 0x4301 1 (putFlag s Reg.PNL_STAT 9 true))
    else
      match pnlTemp s with
      | none => (.ok, raiseBy m 0x4305 0 s)
      | some t =>
        let band := pnlBand s t
        let s := putFlag s Reg.PNL_STAT 9 false
        let s := forAll ((List.range (l + 1 - f)).map (· + f)) targetRow s
        let (d, s) := takeFree (journalHead 1 f l band s)
        (.ok, beginDrive false f l band (d.toNat % 40001) s)

/-- PNL.CMD (R412, R414). -/
def pnlCommand (m : Master) (v : Nat) (s : State) : Resp × State :=
  if bits v 31 16 ≠ 0x504E then (.refused, s)
  else match bits v 1 0 with
    | 0 => (.ok, s)
    | 1 => pnlUpdate m s
    | 2 => (.ok, pnlCrc s)
    | _ => (.refused, s)

/-- The end of a pass: the count, the duration, the journal and the fall of PNL_HVEN. -/
def endPass (j : PnlJob) (s : State) : State :=
  let n := j.last + 1 - j.first
  let s := putNat (putNat s Reg.PNL_UPDCNT (regNat s Reg.PNL_UPDCNT + 1)) Reg.PNL_LASTUPD (n * j.per / 400)
  let s := putFld (putFld s Reg.PNL_STAT 2 0 0) Reg.PNL_STAT 31 24 0
  cause 12 (journalHead 0 j.first j.last (fld s Reg.PNL_STAT 18 16)
    { s with pnl := { s.pnl with job := none, hvenOff := some (s.raw + 40000) } })

/-- The last common of an update has been driven. -/
def pnlUpdateEnd (s : State) : State :=
  match s.pnl.job with
  | some j =>
    if j.repaint then s
    else endPass j (pnlTo (advanceTo (j.startAt + (j.last + 1 - j.first) * j.per) s))
  | none => s

/-- PNL_HVEN falls 100 µs after the last phase. -/
def pnlHvenOff (s : State) : State :=
  match s.pnl.hvenOff with
  | some r =>
    let s := advanceTo r s
    { s with pnl := { s.pnl with hven := s.pnl.job.isSome, hvenOff := none } }
  | none => s

/-! Repaints (R417). -/

/-- A repaint of the frame in TARGET begins, or waits for a temperature. -/
def startRepaint (s : State) : State :=
  match pnlTemp s with
  | some t =>
    let band := pnlBand s t
    beginDrive true 0 (pnlRows s - 1) band 0 (journalHead 2 0 (pnlRows s - 1) band s)
  | none =>
    let s := journalHead 2 0 (pnlRows s - 1) 0 (putFld s Reg.PNL_STAT 2 0 4)
    { s with pnl := { s.pnl with waiting := true, hven := false } }

/-- A repaint that waited begins, once a valid temperature is known. -/
def repaintStart (s : State) : State :=
  if s.pnl.waiting && (pnlTemp s).isSome && !pnlHeld s then startRepaint s else s

/-- A repaint ends: SHOWN holds the frame. -/
def repaintEnd (s : State) : State :=
  match s.pnl.job with
  | some j =>
    if j.repaint then
      let s := advanceTo (j.startAt + (j.last + 1) * j.per) s
      raise 0x4303 0 (endPass j (forAll (List.range (j.last + 1)) showRow s))
    else s
  | none => s

/-- PNL checks its journal, at a start other than JOIN or after a takeover, and repaints where it must. -/
def pnlCheck (takeover : Bool) (s : State) : State :=
  match readHead s with
  | some (st, f, l, u) =>
    if !levelsOk s then
      startRepaint (unitStore (jBase s + 0x40) (List.replicate 460800 0) (raise 0x4304 1 s))
    else
      let s := putNat s Reg.PNL_UPDCNT u
      match st with
      | 1 => startRepaint (forAll ((List.range 240).filter fun y => y < f || l < y) keepRow s)
      | 2 => startRepaint s
      | _ => if takeover then startRepaint (forAll (List.range 240) keepRow s) else s
  | none => startRepaint (unitStore (jBase s + 0x40) (List.replicate 460800 0) (raise 0x4304 1 s))

end Sys2Proof.Machine
end

