-- ==== Sys2Proof/Machine/RtcOps.lean ====
section
/-! DEFINITION. The calendar clock: the Gregorian calendar and its two layouts, setting and reading the time, the crystal, the
temperature correction and VBAT (R342 to R355). -/

namespace Sys2Proof.Machine

/-! The calendar (R342 to R345). -/

/-- The last second of the calendar. -/
def rtcMax : Nat := 12622780799

def leapYear (y : Nat) : Bool := y % 4 = 0 && (y % 100 ≠ 0 || y % 400 = 0)

/-- The length of month `m` of year `y`. -/
def monthLen (y m : Nat) : Nat :=
  if m = 2 then (if leapYear y then 29 else 28) else if m = 4 || m = 6 || m = 9 || m = 11 then 30 else 31

/-- Days from 2000-01-01 to the first of January of year `y`. -/
def yearDays (y : Nat) : Nat :=
  let n := y - 2000
  n * 365 + (n + 3) / 4 - (n + 99) / 100 + (n + 399) / 400

/-- Days from the first of January to the first of month `m`. -/
def monthDays (y m : Nat) : Nat := ((List.range (m - 1)).map fun i => monthLen y (i + 1)).sum

/-- The year of a day number: the last one that begins at or before it. -/
def yearOf (d : Nat) : Nat :=
  let g := 2000 + d / 366
  ((List.range 3).map (g + ·)).foldl (fun y x => if yearDays x ≤ d then x else y) g

/-- The month of a day of a year. -/
def monthOf (y d : Nat) : Nat :=
  (List.range 12).foldl (fun m i => if monthDays y (i + 1) ≤ d then i + 1 else m) 1

/-- Two decimal digits as BCD. -/
def bcd2 (n : Nat) : Nat := n / 10 % 10 * 16 + n % 10

/-- Four decimal digits as BCD. -/
def bcd4 (n : Nat) : Nat := bcd2 (n / 100) * 256 + bcd2 n

/-- The value of `k` BCD digits; none where one is above 9. -/
def unBcd : Nat → Nat → Option Nat
  | 0, _ => some 0
  | k + 1, v => if v % 16 ≤ 9 then (unBcd k (v / 16)).map fun h => h * 10 + v % 16 else none

/-- CLK0 and CLK1 of a count in BCD. -/
def bcdOf (sec : Nat) : Nat × Nat :=
  let d := sec / 86400
  let t := sec % 86400
  let y := yearOf d
  let m := monthOf y (d - yearDays y)
  (d % 7 * 2 ^ 24 + bcd2 (t / 3600) * 2 ^ 16 + bcd2 (t / 60 % 60) * 2 ^ 8 + bcd2 (t % 60),
   bcd4 y * 2 ^ 16 + bcd2 m * 2 ^ 8 + bcd2 (d - yearDays y - monthDays y m + 1))

/-- The count of a date in BCD; none where R347 finds it invalid. -/
def bcdCount (c0 c1 : Nat) : Option Nat :=
  match unBcd 2 (bits c0 6 0), unBcd 2 (bits c0 14 8), unBcd 2 (bits c0 21 16),
      unBcd 4 (bits c1 31 16), unBcd 2 (bits c1 12 8), unBcd 2 (bits c1 5 0) with
  | some sec, some mi, some h, some y, some m, some d =>
    if sec ≤ 59 && mi ≤ 59 && h ≤ 23 && 1 ≤ m && m ≤ 12 && 2000 ≤ y && y ≤ 2399 && 1 ≤ d && d ≤ monthLen y m then
      some ((yearDays y + monthDays y m + d - 1) * 86400 + h * 3600 + mi * 60 + sec)
    else none
  | _, _, _, _, _, _ => none

/-! The two layouts (R345, R348). -/

def rtcBcd (s : State) : Bool := flag s Reg.RTC_CTL 1
def rtcHalted (s : State) : Bool := flag s Reg.RTC_CTL 0

/-- CLK0 or CLK1 of a held time in the selected layout. What the binary layout shows of a held date that is none, and the BCD
layout of a count beyond the calendar, the manual does not say, nor the weekday of a date that is none: free values. (Log 103,
DESIGN CHOICE.) -/
def clkView (hi : Bool) (sec : Nat) (raw : Option (Word × Word)) (s : State) : Word × State :=
  let free : Word × State :=
    let (f, s) := takeFree s
    (f.truncate 32, s)
  match raw with
  | some (c0, c1) =>
    if !rtcBcd s then free
    else if hi then (c1, s)
    else
      let (f, s) := takeFree s
      (BitVec.ofNat 32 (withBits c0.toNat 26 24 f.toNat), s)
  | none =>
    if rtcBcd s then
      if rtcMax < sec then free
      else (BitVec.ofNat 32 (if hi then (bcdOf sec).2 else (bcdOf sec).1), s)
    else (BitVec.ofNat 32 (if hi then sec / 2 ^ 32 % 2 ^ 16 else sec), s)

/-- CLK0 or CLK1 as a master reads it. -/
def clkRead (m : Option Master) (hi : Bool) (s : State) : Word × State :=
  match m.bind fun m => alGet s.rtc.snaps (Master.num m) with
  | some (sec, raw) => clkView hi sec raw s
  | none => clkView hi s.rtc.sec s.rtc.raw s

/-- The crystal has moved on inside its sixteenth of a second: how far is the crystal's, so a free value says. (Log 102, DESIGN CHOICE.) -/
def subNow (s : State) : State :=
  if rtcHalted s || s.rtc.stopped then s
  else
    let stop := (s.rtc.sub / 2048 + 1) * 2048
    let (f, s) := takeFree s
    { s with rtc := { s.rtc with sub := s.rtc.sub + f.toNat % (stop - s.rtc.sub) } }

/-- A read of RTC.SNAP by a master. -/
def rtcSnap (m : Master) (s : State) : Word × State :=
  let s := subNow s
  (BitVec.ofNat 32 s.rtc.sub, { s with rtc := { s.rtc with snaps := alPut s.rtc.snaps (Master.num m) (s.rtc.sec, s.rtc.raw) } })

/-! The correction (R351 to R353). -/

/-- The factory curve at a temperature in 0.1 °C, times 50. -/
def curveAt (l : List Int) (t : Int) : Int :=
  let u := (min 850 (max (-400) t) + 400).toNat
  let a := l.getD (u / 50) 0
  a * 50 + (l.getD (u / 50 + 1) a - a) * (u % 50 : Nat)

/-- The applied correction, from the trim in force and the latest reading. (Log 104, DESIGN CHOICE.) -/
def refreshCorr (s : State) : State :=
  let t := (BitVec.ofNat 16 (fld s Reg.RTC_TEMP 15 0)).toInt
  let x := s.rtc.trim * 50 - curveAt s.rtc.curve t
  let sat := decide (x < -32767 * 50 ∨ 32767 * 50 < x)
  let (c, s) := divOpen x 50 s
  let c := min 32767 (max (-32767) c)
  putFlag (putFld s Reg.RTC_TEMP 31 16 (BitVec.ofInt 16 c).toNat) Reg.RTC_STAT 6 sat

/-- A sensor reading. -/
def rtcTemp (t : Int) (s : State) : State := refreshCorr (putFld s Reg.RTC_TEMP 15 0 (BitVec.ofInt 16 t).toNat)

/-- A crystal edge has come. (Log 105, DEDUCED.) -/
def crystalRuns (s : State) : State := { s with rtc := { s.rtc with stopped := false } }

/-- The end of a sixteenth of a second: the accumulator takes the correction of 2,048 cycles, and carries the remainder when
it adds or drops a whole cycle. -/
def correctSixteenth (s : State) : State :=
  let a := s.rtc.acc + (BitVec.ofNat 16 (fld s Reg.RTC_TEMP 31 16)).toInt * 2048
  let a := if 10 ^ 8 ≤ a then a - 10 ^ 8 else if a ≤ -10 ^ 8 then a + 10 ^ 8 else a
  let b := (s.rtc.sub / 2048 + 1) * 2048
  { s with rtc := { s.rtc with acc := a, sub := if b < 32768 then b else s.rtc.sub } }

/-- The RTC copies and checks the factory curve at a POR or DRST. -/
def copyCurve (s : State) : State :=
  let b := memBytes s (pstBase + 0x40) 56
  let bad := (s.ecc.any fun p => p.2 = .double && pstBase + 0x40 ≤ p.1 && p.1 < pstBase + 0x78) ||
    leNat (b.drop 52) ≠ (crc32c (b.take 52)).toNat
  if bad then raise 0x2103 0 (putFlag s Reg.RTC_STAT 4 true)
  else
    let c := (List.range 26).map fun i => (BitVec.ofNat 16 (leNat ((b.drop (2 * i)).take 2))).toInt
    { putFlag s Reg.RTC_STAT 4 false with rtc := { s.rtc with curve := c } }

/-! Counting (R344, R346, R347, R355). -/

/-- The alarm fires when the count steps into its second. -/
def rtcAlarm (s : State) : State :=
  let alm := regNat s Reg.RTC_ALM_LO + fld s Reg.RTC_ALM_HI 15 0 * 2 ^ 32
  if flag s Reg.RTC_ALM_HI 31 && alm = s.rtc.sec then
    let s := putFlag s Reg.RTC_STAT 2 true
    if alive s then trigger 7 0 (now s) (cause 14 s) else s
  else s

/-- The step to the next second, with the range roll-over and the alarm. -/
def stepSecond (s : State) : State :=
  let s := { s with rtc := { s.rtc with sub := 0, trim := (BitVec.ofNat 16 (fld s Reg.RTC_TRIM 15 0)).toInt } }
  let s := refreshCorr s
  if s.rtc.sec = rtcMax then
    let s := putFlag { s with rtc := { s.rtc with sec := 0 } } Reg.RTC_STAT 3 true
    rtcAlarm (if alive s then raise 0x2104 0 s else s)
  else rtcAlarm { s with rtc := { s.rtc with sec := s.rtc.sec + 1 } }

/-- HALT = 1 takes effect at the crystal edge that brings the subsecond to `k`, after the second that it may complete. -/
def haltAt (k : Nat) (s : State) : State :=
  let s := if k = 32768 then stepSecond s else { s with rtc := { s.rtc with sub := k } }
  putFlag { s with rtc := { s.rtc with haltDue := false } } Reg.RTC_CTL 0 true

/-- A write of HALT = 1: which cycle of its sixteenth the next edge ends, a free value says; while the crystal is stopped, the
write waits for an edge. -/
def rtcHaltNow (s : State) : State :=
  if s.rtc.stopped then { s with rtc := { s.rtc with haltDue := true } }
  else
    let stop := (s.rtc.sub / 2048 + 1) * 2048
    let (f, s) := takeFree s
    haltAt (s.rtc.sub + 1 + f.toNat % (stop - s.rtc.sub)) s

/-- The crystal shows edges; the first after a stop halts the count if a write of HALT = 1 waits, and `f` acts otherwise. -/
def onEdge (f : State → State) (s : State) : State :=
  if rtcHalted s then s
  else if s.rtc.haltDue then haltAt (s.rtc.sub + 1) (crystalRuns s)
  else f (crystalRuns s)

/-- The crystal completes a second. -/
def rtcSecond (s : State) : State := onEdge stepSecond s

/-- HALT = 0 validates the held time and starts counting, or sets DATE_INVALID. -/
def rtcStart (m : Master) (s : State) : State :=
  if s.rtc.raw.isNone && decide (s.rtc.sec ≤ rtcMax) then putFlag (putFlag s Reg.RTC_CTL 0 false) Reg.RTC_STAT 1 false
  else raiseBy m 0x2102 0 (putFlag s Reg.RTC_STAT 1 true)

/-- A write of RTC.CTL; false is a refusal. -/
def rtcCtl (m : Master) (v : Nat) (s : State) : Bool × State :=
  let fmt := bits v 1 1 = 1
  let halt := bits v 0 0 = 1
  if fmt ≠ rtcBcd s && !rtcHalted s then (false, s)
  else
    let s := putFlag s Reg.RTC_CTL 1 fmt
    if halt = rtcHalted s then (true, s)
    else if halt then (true, rtcHaltNow s)
    else (true, rtcStart m s)

/-- The held time with one of its registers written, in the selected layout; the other keeps what it shows. -/
def rtcSet (hi : Bool) (v : Nat) (s : State) : State :=
  let (w, s) := clkView (!hi) s.rtc.sec s.rtc.raw s
  let r := s.rtc
  if rtcBcd s then
    let c0 := (if hi then w.toNat else v) &&& 0x003F7F7F
    let c1 := (if hi then v else w.toNat) &&& 0xFFFF1F3F
    match bcdCount c0 c1 with
    | some n => { s with rtc := { r with sec := n, raw := none, sub := 0 } }
    | none => { s with rtc := { r with raw := some (BitVec.ofNat 32 c0, BitVec.ofNat 32 c1), sub := 0 } }
  else
    let n := if hi then w.toNat + v % 2 ^ 16 * 2 ^ 32 else w.toNat % 2 ^ 16 * 2 ^ 32 + v
    { s with rtc := { r with sec := n, raw := none, sub := 0 } }

/-- A write of RTC.CLK0 or CLK1; false is a refusal. -/
def rtcClkWrite (hi : Bool) (v : Nat) (s : State) : Bool × State :=
  if rtcHalted s then (true, rtcSet hi v s) else (false, s)

/-- RTC.STAT is W1C; OSF stays while the crystal is stopped. -/
def rtcStatWrite (v : Nat) (s : State) : State :=
  let clr := v &&& (if s.rtc.stopped then 0xC else 0xD)
  putNat s Reg.RTC_STAT (regNat s Reg.RTC_STAT &&& (0xFFFFFFFF - clr))

/-- RTC_CORRECTION (R352). -/
def rtcCorrect (s : State) : State := onEdge correctSixteenth s

/-! The crystal and VBAT (R349, R350, R354). -/

/-- The crystal has shown no edge for 1 ms: it stands at a subsecond of its sixteenth. (Log 102, DESIGN CHOICE; Log 106,
DEDUCED.) -/
def oscStop (s : State) : State :=
  if s.rtc.stopped then s
  else
    let s := subNow s
    let s := putFlag { s with rtc := { s.rtc with stopped := true } } Reg.RTC_STAT 0 true
    if alive s then raise 0x2101 1 s else { s with rtc := { s.rtc with stopPending := true } }

/-- VBAT is measured on main power, in mV. -/
def vbatCheck (mv : Nat) (s : State) : State :=
  if mv < 2000 then
    if flag s Reg.RTC_STAT 5 then s else raise 0x2105 0 (putFlag s Reg.RTC_STAT 5 true)
  else if 2100 < mv then putFlag s Reg.RTC_STAT 5 false
  else s

/-- OSC_STOP of the start of the RTC domain, or of a stop on VBAT alone. -/
def rtcReport (s : State) : State :=
  if s.rtc.stopPending then raise 0x2101 1 { s with rtc := { s.rtc with stopPending := false } } else s

end Sys2Proof.Machine
end

