-- ==== Sys2Proof/Machine/Reset.lean ====
section
/-! DEFINITION. CDR, DRST, POR, power failure and the commands of FLT (R13, R26 to R35, R48, R208, R226 to R230, R271, R374 to
R379, R434, R435, R454 to R460, R469). -/

namespace Sys2Proof.Machine

/-! The causes of resets (R35). -/

/-- A reset sets a bit of SYS.RSTCAUSE, and MASTER. -/
def resetCause (bit master : Nat) (s : State) : State :=
  putFld (putFlag s Reg.SYS_RSTCAUSE bit true) Reg.SYS_RSTCAUSE 10 8 master

/-- FABLOCK and LEAFLOCK. -/
def putLocks (v : Nat) (s : State) : State := putFld s Reg.SYS_CLKSTAT 1 0 v

/-! CDR (R375). -/

/-- A CDR requested by a write of SYS.RESET. One requested before the first tick of a start lies inside the DRST or POR. (Log 18, DEDUCED.) -/
def requestCdr (m : Master) (s : State) : State :=
  if !s.frm.ticking then discardReset s
  else if s.flt.cdr.isSome || flag s Reg.FLT_STAT 1 then s
  else cdrCourse (2 + Master.num m) s

/-- What the CDR writes to SYS.RSTCAUSE: CDRSW or CDRF2, and which of the two for a CDR that an F3 release began is free.
(Log 47, DESIGN CHOICE.) -/
def cdrCause (s : State) : State :=
  match s.flt.why with
  | 0 => resetCause 5 7 s
  | 1 =>
    let (f, s) := takeFree s
    resetCause (if f.getLsbD 0 then 5 else 6) 7 s
  | k => resetCause 6 (k - 2) s

/-- The CDR begins, 3 µs after its request: the rollback, the redo of an installation and the restore. (Log 48, DEDUCED.) -/
def cdrBegin (s : State) : State :=
  if s.flt.cdr.isNone || s.flt.restored then s
  else
    let s := cdrCause (advanceTo (s.flt.since + 1200) s)
    let held := s.frm.reqHeld
    let s := dropRequests (resetSlots (dropAhead s))
    let s := refreshPend { s with frm := { s.frm with reqHeld := held, discarded := true } }
    let s := restoreCheckpoint (redoInstall (rollback s))
    if s.flt.cdr.isNone then s
    else { s with flt := { s.flt with restored := true } }

/-! The commands of FLT (R374, R376, R435). -/

/-- POP. -/
def fltPop (s : State) : State := { s with flt := { s.flt with queue := s.flt.queue.drop 1 } }

/-- CLEAR. (Log 16, DEDUCED.) -/
def fltClear (s : State) : State :=
  let s := { s with flt := { s.flt with queue := [] } }
  putNat (forAll [0, 1, 2, 3] (fun s c => putNat s (Reg.FLT_CNT c) 0) s) Reg.FLT_LOST 0

/-- The F3 state ends: the hardware lines come back, a standby sends its heartbeats again, and the leaves stand as a CDR or a
start needs them. -/
def endF3 (s : State) : State :=
  let s := if haspState s = 3 || haspState s = 4 then { s with hasp := { s.hasp with hbStopped := false } } else s
  setHwEnable true (putNat (putFlag s Reg.FLT_STAT 1 false) Reg.FLT_CUR3 0)

/-- BOOT.STAT.STATE of the step at which a held start stands. (Log 17, DEDUCED; Log 172, DEDUCED.) -/
def heldStep (s : State) : Nat :=
  if !s.boot.running then 4 else if s.boot.modeDecided then 3 else if s.boot.imageOk then 1 else 2

/-- A held start goes on from its step (R435): RESTORE_FAIL, or JOURNAL_BAD over a lost installation, continues as COLD. -/
def releaseStart (code : Nat) (s : State) : State :=
  let cold := code = codeRestoreFail || (code = 0x0210 && s.boot.instLost)
  let s := putFld (endF3 s) Reg.BOOT_STAT 3 0 (heldStep s)
  let s := { s with flt := { s.flt with held := none, toStop := true },
                    boot := { s.boot with forceCold := s.boot.forceCold || cold },
                    leaf := { s.leaf with actHalt := false } }
  let s := if wardState s = 4 && s.ward.counting then enterWindow 1 s else s
  if s.boot.running || !mayBolt s then s
  else if haspState s = 0 then setBolt true s
  else if haspState s = 2 then
    if s.pads.boltIn then toUnsync s
    else if s.flt.contest then
      raise 0x060A 0 { s with flt := { s.flt with contest := false }, hasp := { s.hasp with retry := some s.raw } }
    else setBolt true { s with hasp := { s.hasp with hbStopped := false } }
  else s

/-- RELEASE; false is a refusal. -/
def fltRelease (s : State) : Bool × State :=
  if !flag s Reg.FLT_STAT 1 then (true, s)
  else if !flag s Reg.FLT_CUR3 1 then (false, s)
  else
    match s.flt.held with
    | some c => (true, releaseStart c.toNat s)
    | none =>
      let s := endF3 s
      (true, { s with flt := { s.flt with cdr := some false, restored := false, toStop := true, retake := true,
                                          since := s.raw, why := 1 } })

/-- FLT.CMD; false is a refusal. -/
def fltCommand (v : Nat) (s : State) : Bool × State :=
  if bits v 31 16 ≠ 0x464C then (false, s)
  else match bits v 1 0 with
    | 0 => (true, s)
    | 1 => (true, fltPop s)
    | 2 => (true, fltClear s)
    | _ => fltRelease s

/-! What a reset restarts (R29, R33, R48, R208). -/

/-- The registers that keep their value through a reset (R9): their own descriptions say so. -/
def keptReg (por vbat : Bool) (o : Nat) : Bool :=
  (0x20000 ≤ o && o < 0x20200) || (0x210000 ≤ o && o < 0x210024 && (!por || vbat)) ||
  o = Reg.OLC_PROGID_LO || o = Reg.OLC_PROGID_HI || o = Reg.OLC_INSTCNT || o = Reg.RET_LASTDUMP || o = Reg.BOOT_LASTSEQ ||
  o = Reg.PST_STAT || o = Reg.RET_SPARE || (Reg.EVR_NEXT_LO ≤ o && o ≤ Reg.EVR_OLDEST_HI) ||
  (!por && (o = Reg.SYS_RSTCAUSE || o = Reg.SYS_CLKSTAT || o = Reg.BOOT_CFG || o = Reg.SYS_TEMP || o = Reg.MEM_SCRUB ||
    o = Reg.MEM_STAT))

/-- The register file after a reset. -/
def resetRegs (por vbat : Bool) (s : State) : State :=
  let s := { s with regs := s.regs.filter fun p => keptReg por vbat p.1, latch := [], low := [], once := [] }
  let s := putNat s Reg.PST_STAT (regNat s Reg.PST_STAT &&& 4)
  let s := putFld (putFld s Reg.SYS_TEMP 15 0 0) Reg.MEM_SCRUB 15 0 0
  putNat s Reg.SYS_CLKSTAT (regNat s Reg.SYS_CLKSTAT &&& 0x70)

/-- TXN ends the transactions that were open: RESET, or DISCARDED where the journal is damaged; a damaged PENDING commit is
dropped (R48, R469). -/
def resetJournal (s : State) : State :=
  let dmg := s.txn.damaged
  let s := forAll ([0, 1, 2, 3].filter fun m => (slotState s m = 1 && dmg.contains m) ||
      (slotState s m = 2 && (dmg.contains m || dmg.contains (4 + m)))) (fun s m =>
    endSlot m resDiscarded (clearStaged m s)) s
  let s := resetSlots s
  { s with txn := { s.txn with damaged := dmg } }

/-- The commits that wait, to be processed again from the first boundary: the waiting online change was the first to come. -/
def reorder (s : State) : State :=
  let ms := (s.olc.waiting.map (·.1)).toList ++ (s.olc.refusing.map (·.1)).toList ++ s.txn.order.map (·.1)
  let ms := ms.eraseDups.filter fun m => slotState s m = 2
  { s with txn := { s.txn with order := ms.map fun m => (m, none) } }

/-- OLC keeps an installation in progress, and the values of R208. -/
def resetOlc (s : State) : State :=
  let s := redoInstall s
  let o := s.olc
  { s with olc := { installing := o.installing, newTasks := o.newTasks, newMap := o.newMap, redo := o.redo,
                    kept := if s.txn.damaged.contains 10 then none else o.kept, instAt := o.instAt,
                    tableHeld := o.installing.isSome } }

/-- What a lane keeps: its counts, which lie with its retained queues. (Log 49, DEDUCED.) -/
def resetLane (l : LaneState) : LaneState :=
  { arr0 := l.arr0, arr1 := l.arr1, rd0 := l.rd0, rd1 := l.rd1, recNo := l.recNo, order := l.order,
    entries := l.entries }

/-- What FRM keeps: the unforced inputs, the images, the tables and the marks of the checkpoint banks (R471). -/
def resetFrm (f : FrmState) : FrmState :=
  { unforced := f.unforced, last := f.last, runImg := f.runImg, lastFail := f.lastFail, tasks := f.tasks, iomap := f.iomap, marks := f.marks }

/-- What BOOT keeps: the configuration flash itself. -/
def resetBoot (por : Bool) (b : BootState) : BootState :=
  { flash := b.flash, density := b.density, answers := b.answers, octal := b.octal, sector := b.sector, afterPor := por,
    por := por }

/-- The levels at the pads are the environment's. -/
def resetDio (m : SMap DioCh) : SMap DioCh :=
  m.filterMap fun (p : Nat × DioCh) =>
    if p.2.level || p.2.lastRun then some (p.1, { level := p.2.level, lastRun := p.2.lastRun }) else none

/-- What POR and DRST leave of the loop outputs: the code of the last RUN image, which only a COLD start drops (R324). -/
def resetAo (m : SMap AoCh) : SMap AoCh :=
  m.filterMap fun (p : Nat × AoCh) => if p.2.lastRun = 0 then none else some (p.1, { lastRun := p.2.lastRun })

/-- What POR and DRST restart outside the register file, the transactions and OLC. -/
def resetUnits (por : Bool) (s : State) : State :=
  let mm : MemState := { s.mm with inject := [], stalled := false, covered := 0, holdLow := false, base := powered s }
  let pst : PstState := { optime := s.pst.optime, pwrcyc := s.pst.pwrcyc }
  let s := { s with raw := 0, frm := resetFrm s.frm, spec := {}, leaf := { oldBase := s.leaf.oldBase }, flt := {} }
  let s := { s with hasp := { sent := if por then [] else s.hasp.sent }, mm := mm, lanes := s.lanes.map fun (p : Nat × LaneState) => (p.1, resetLane p.2) }
  let s := { s with time := {}, dio := resetDio s.dio, ao := resetAo s.ao, rtc := { s.rtc with snaps := [] }, ward := {}, pst := pst }
  { s with evr := {}, pnl := {}, host := {}, boot := resetBoot por s.boot,
           pads := { boltIn := s.pads.boltIn, pfailB := !por } }

/-- Everything that POR and DRST restart; memory is its caller's. -/
def resetAll (por vbat : Bool) (s : State) : State :=
  let s := forAll (List.range 12) (fun s n => requeue n s) (pnlStop s)
  let s := judgeForced (resetUnits por (resetRegs por vbat (resetOlc (reorder (resetJournal s)))))
  refreshEnable (putFlag s Reg.DBG_STAT 16 (s.tap.ir = 3 || s.tap.ir = 4 || s.tap.ir = 5))

/-! The start (R13, R434). -/

/-- SYS compares the identity mirror with the identity registers (R13). -/
def identCheck (s : State) : State :=
  let want := identRegs.flatMap fun o => leBytes 4 (regNat s o)
  let bad := s.ecc.any fun p => p.2 = .double && pstBase ≤ p.1 && p.1 < pstBase + 0x20
  if bad || memBytes s pstBase 0x20 ≠ want then raise 0x01F0 0 s else s

/-- An erased byte of the configuration flash. -/
def flashErased (_ : Nat) : Byte := 0xFF

/-- `n` bytes of the configuration flash. -/
def flashBytes (s : State) (a n : Nat) : List Byte := (List.range n).map fun i => smGet flashErased s.boot.flash (a + i)

/-- The density that BOOT uses, in bytes: at most 512 MiB (R421). -/
def flashSize (s : State) : Nat := min 512 s.boot.density * 2 ^ 20

/-- The flash offset at which a slot begins (R422). -/
def slotBase (s : State) (b : Nat) : Nat := b * (flashSize s / 2)

/-- A little-endian number in a slot. -/
def slotNat (s : State) (b o n : Nat) : Nat := leNat (flashBytes s (slotBase s b + o) n)

/-- The flash answers, and is large enough. (Log 146, DESIGN CHOICE.) -/
def flashFound (s : State) : Bool := s.boot.answers && 16 ≤ s.boot.density

/-- A slot's header passes R423. -/
def headerOk (s : State) (b : Nat) : Bool :=
  let n (o k : Nat) : Nat := slotNat s b o k
  let l := n 0x18 4
  flashFound s && n 0xFC 4 = (crc32c (flashBytes s (slotBase s b) 0xFC)).toNat && n 0 4 = 0x49474D44 && n 4 4 = 1 &&
    n 0xC 4 < 4 && l % 8 = 0 && 0x100 ≤ l && l ≤ 2 ^ 28 && l ≤ flashSize s / 2 && 4 ≤ n 0x1C 4 && n 0x1C 4 ≤ 11 &&
    (List.range 11).all (fun i => i < n 0x1C 4 || flashBytes s (slotBase s b + 0x40 + 16 * i) 16 = List.replicate 16 0) &&
    n 0xF0 12 = 0

/-- BOOT has no valid slot (R428). -/
def noImage (s : State) : State := raise 0x5101 1 (putFld s Reg.BOOT_STAT 3 0 5)

/-- BOOT reads the flash's tables and both headers, and chooses a slot (R421, R422, R427). -/
def bootDiscover (s : State) : State :=
  let s := putFld s Reg.BOOT_INFO 15 0 (if s.boot.answers then min 65535 s.boot.density else 0)
  let s := putFld s Reg.BOOT_PGSTAT 11 8 (if s.boot.answers then s.boot.sector else 0)
  let s := if s.boot.answers && !s.boot.octal then raise 0x5104 0 (putFlag s Reg.BOOT_STAT 7 true) else s
  let a := headerOk s 0
  let b := headerOk s 1
  let s := putFlag (putFlag s Reg.BOOT_STAT 10 a) Reg.BOOT_STAT 11 b
  let sa := slotNat s 0 8 4
  let sb := slotNat s 1 8 4
  let s := putNat (putNat s Reg.BOOT_SEQA (if a then sa else 0)) Reg.BOOT_SEQB (if b then sb else 0)
  let pick (k : Nat) (s : State) : State :=
    { putFld (putFlag s Reg.BOOT_STAT 4 (k = 1)) Reg.BOOT_STAT 3 0 2 with boot := { s.boot with slot := k } }
  match a, b with
  | false, false => noImage s
  | true, false => pick 0 s
  | false, true => pick 1 s
  | true, true =>
    if recNewer sa sb then pick 0 s
    else if recNewer sb sa then pick 1 s
    else if slotNat s 0 0x18 4 = slotNat s 1 0x18 4 &&
        flashBytes s (slotBase s 0 + 0x20) 32 = flashBytes s (slotBase s 1 + 0x20) 32 then pick 0 s
    else pick 0 (raise 0x5103 0 (putFlag s Reg.BOOT_STAT 9 true))

/-- The release of POR or DRST: what happens before BOOT reads an image. -/
def beginStart (s : State) : State :=
  let por := s.boot.afterPor
  let s := { s with boot := { s.boot with running := true, releaseAt := s.raw, retained := !por,
                                          waitRestore := por && s.mm.dump ≠ .absent, waitMem := por && s.mm.dump = .absent } }
  let s := putLocks 3 s
  let s := identCheck s
  let s := if por then countPor s else s
  bootDiscover (rtcReport (copyCurve s))

/-- The cause of the F3 state in force, which a DRST ends. -/
def f3Cause (s : State) : Option Nat :=
  if s.flt.clkLoss then some codeClkLoss
  else if flag s Reg.FLT_STAT 1 then some (fld s Reg.FLT_CUR3 31 16)
  else none

/-- The cause of an F3 state that a DRST has ended is entered anew, without its action (R28, R379). -/
def enterAnew (c : Option Nat) (s : State) : State :=
  match c with
  | some code =>
    bump { s with flt := { s.flt with arrived := [{ code := BitVec.ofNat 16 code, cls := 3, esc := false, master := 0xF }] } }
      (Reg.FLT_CNT 3) 31 0
  | none => s

/-- A DRST, with what it writes to SYS.RSTCAUSE. One that ends a clock loss sets CLK (R28). -/
def drstWith (mark : State → State) (s : State) : State :=
  let clk := s.flt.clkLoss
  let c := f3Cause s
  let s := mark (resetAll false true (stopHb s))
  beginStart (enterAnew c (if clk then putFlag s Reg.SYS_RSTCAUSE 4 true else s))

/-- A DRST that sets a bit of SYS.RSTCAUSE. While POR holds the device it is discarded (R32). (Log 45, DEDUCED.) -/
def drst (bit master : Nat) (s : State) : State :=
  if s.boot.por then discardReset s else drstWith (resetCause bit master) s

/-- The journal of TXN is lost: what it holds and its registers are those of an empty journal (R50). -/
def loseJournal (s : State) : State :=
  { s with txn := {}, regs := s.regs.filter fun p => !(0x20000 ≤ p.1 && p.1 < 0x20200) }

/-- The memory that POR loses: everything but the parameter store. What TXN, FRM and the undo log hold lies in retained
memory, and is lost where no sealed dump keeps it. -/
def loseMemory (s : State) : State :=
  let keep (a : Nat) : Bool := pstBase ≤ a && a < pstBase + pstSize
  let s := { s with mem := s.mem.filter fun p => keep p.1, ecc := s.ecc.filter fun p => keep p.1 }
  let s := judgeForced { s with mm := { s.mm with known := [], dirty := [] } }
  if s.mm.dump = .sealed then s
  else
    loseJournal { s with mm := { s.mm with undo := [] }, frm := {}, leaf := {}, olc := {}, lanes := [],
                         regs := s.regs.filter fun p => !(Reg.EVR_NEXT_LO ≤ p.1 && p.1 ≤ Reg.EVR_OLDEST_HI) }

/-- Power-up: the device is held in POR until VIN has stood above its threshold (R29, R350, R454). Without VBAT the calendar
clock has lost what it kept, its copy of the factory curve among it (R351). -/
def powerOn (vbat : Bool) (s : State) : State :=
  let s := loseMemory (resetAll true vbat s)
  if vbat then s else { s with rtc := { stopPending := true } }

/-- POR is released: VIN is back in its range, which ends the episodes of R454 and takes the bleeder off HLD, so that
hold-up can charge (R230). (Log 125, DEDUCED.) -/
def porRelease (s : State) : State :=
  if s.boot.por then
    beginStart { s with
      raw := 0, mm := { s.mm with base := powered s }, boot := { s.boot with por := false },
      pads := { s.pads with pfailB := true, bleeder := false, vinLow := false, vinHigh := false, vinAt := 0 } }
  else s

/-- A low pulse on RST_B, in ns (R30). (Log 130, DEDUCED.) -/
def rstB (ns : Nat) (s : State) : Out :=
  if ns < 200 then .next s
  else if ns < 1000 then .fault .rstPulseUndefined
  else run (drst 1 7) s

/-- A write of SYS.RESET (R34); false is a refusal. -/
def sysReset (m : Master) (v : Nat) (s : State) : Bool × State :=
  if bits v 31 16 ≠ 0xD5A7 then (false, s)
  else match bits v 1 0 with
    | 1 => (true, drst 2 (Master.num m) s)
    | 2 => (true, requestCdr m s)
    | _ => (false, s)

/-- A write of HOST.RSTREQ (R35, R441); false is a refusal. -/
def hostResetReq (v : Nat) (s : State) : Bool × State :=
  if bits v 31 16 ≠ 0x4852 then (false, s) else (true, if v % 2 = 1 then drst 3 1 s else s)

/-! Clock loss and power (R28, R226, R227, R454 to R460). -/

/-- The clock monitor declares a clock lost. Whether the PLLs that the clock concerns are still in lock is free: a clock
without edges, or off its frequency, is declared lost too (R27). (Log 46, DEDUCED.) -/
def clockLoss (c : ClockId) (s : State) : State :=
  let (i, held) : Nat × Nat := match c with
    | .ref => (4, 0)
    | .leaf => (5, 2)
    | .fab => (6, 1)
  let (f, s) := takeFree s
  let s := putLocks (fld s Reg.SYS_CLKSTAT 1 0 &&& (held ||| f.toNat)) s
  let s := putFlag s Reg.SYS_CLKSTAT i true
  f3Action codeClkLoss { s with flt := { s.flt with clkLoss := true, fabDead := s.flt.fabDead || c ≠ .leaf } }

/-- PFAIL on a lane: a frame that stands in its ACK delimiter or its end-of-frame field is completed, and any other leaves the
wire without being sent (R226). Which field a frame stands in no command tells; the answer is free. (Log 43, DEDUCED.) -/
def pfailLane (n : Nat) (s : State) : State :=
  if (lane s n).wire.isNone then s
  else
    let (f, s) := takeFree s
    if f.getLsbD 0 then wireSent n s else requeue n s

/-- VIN has stayed below 33 V for 50 µs. -/
def pfail (s : State) : State :=
  if !s.pads.pfailB then s
  else
    let s := haltLeaves (dropBolt (stopHb s))
    let s := forAll (List.range 12) (fun s n => pfailLane n s) (pnlStop (storeCounts s))
    let s := setBolt false { s with pads := { s.pads with pfailB := false } }
    putFlag (setHwEnable false s) Reg.RET_STAT 30 false

/-- The dump begins. (Log 43, DEDUCED.) -/
def dumpStart (s : State) : State :=
  if s.pads.pfailB then s else { s with mm := { s.mm with dump := .unsealed } }

/-- The pages that the dump writes. -/
def dumpPages (s : State) : Nat := s.mm.dirty.length

/-- Writes every dirty page to retention flash. -/
def dumpAll (s : State) : State := forAll (s.mm.dirty.map (·.1)) (fun s p => cleanPage p s) s

/-- The dump completes and is sealed; the device holds itself in POR, with the bleeder connected (R457), or starts by DRST
where VIN is back. LASTDUMP shows MiB rounded up and the whole milliseconds that the bytes take at 3.2 GB/s, rounded up.
(Log 44, DEDUCED.) That DRST sets no cause bit of its own and MASTER 7; a leaf clock loss that it ends sets CLK. (Log 170,
DESIGN CHOICE.) -/
def dumpSeal (vinBack : Bool) (s : State) : State :=
  if s.mm.dump ≠ .unsealed || s.pads.pfailB then s
  else
    let n := dumpPages s
    let s := dumpAll s
    let s := putNat s Reg.RET_LASTDUMP ((n + 255) / 256 * 2 ^ 16 + (n * 4096 + 3199999) / 3200000)
    let s := { s with mm := { s.mm with dump := .sealed } }
    if vinBack then
      drstWith (fun s => putFld s Reg.SYS_RSTCAUSE 10 8 7) { s with mm := { s.mm with dump := .absent } }
    else { s with boot := { s.boot with por := true }, pads := { s.pads with bleeder := true } }

/-- The bleeder is connected across HLD. -/
def bleeder (s : State) : State :=
  if s.pads.pfailB then s else { s with pads := { s.pads with bleeder := true } }

/-- The 1 ms slot of the raw count in which SYS.VIN is updated (R454). -/
def vinSlot (s : State) : Nat := s.raw / 400000

/-- SYS.VIN shows a voltage, in units of 10 mV, until its next update. -/
def showVin (v : Nat) (s : State) : State :=
  { putFld s Reg.SYS_VIN 15 0 v with pads := { s.pads with vinAt := vinSlot s } }

/-- A read of SYS.VIN, which is updated every 1 ms with the voltage present, a free value. (Log 125, DEDUCED.) -/
def vinMeasure (s : State) : State :=
  if s.pads.vinAt = vinSlot s then s
  else
    let (f, s) := takeFree s
    showVin (f.truncate 16).toNat s

/-- A reported voltage raises its fault once per episode. No row reports the end of an episode, so whether a report during
one begins another is free. (Log 126, DEDUCED; Log 144, DESIGN CHOICE.) -/
def vinEpisode (code cls : Nat) (within : Bool) (s : State) : State :=
  if within then
    let (f, s) := takeFree s
    if f.getLsbD 0 then raise code cls s else s
  else raise code cls s

def vinLow (v : Nat) (s : State) : State :=
  if 3300 ≤ v ∧ v < 3600 then
    let t := showVin v s
    vinEpisode 0x0130 0 s.pads.vinLow { t with pads := { t.pads with vinLow := true, vinHigh := false } }
  else s

def vinHigh (v : Nat) (s : State) : State :=
  if 7500 < v then
    let t := showVin v s
    vinEpisode 0x0131 1 s.pads.vinHigh { t with pads := { t.pads with vinHigh := true, vinLow := false } }
  else s

/-- FLT.CUR3.RELOK follows a condition that comes and goes. -/
def setRelok (code : Nat) (ok : Bool) (s : State) : State :=
  if flag s Reg.FLT_STAT 1 && fld s Reg.FLT_CUR3 31 16 = code then putFlag s Reg.FLT_CUR3 1 ok else s

/-- Every reading for 1 s has lain above 95 °C; `t` is in 0.1 °C. -/
def lidHot (t : Int) (s : State) : State :=
  if 950 < t ∧ !s.pads.lidHot then raise 0x0132 1 { s with pads := { s.pads with lidHot := true } } else s

/-- A 1 ms reading of the lid sensor, in 0.1 °C; the first one of each second is shown as TEMP.T. (Log 125, DEDUCED.) -/
def lidReading (t : Int) (s : State) : State :=
  let m := (BitVec.ofNat 16 (fld s Reg.SYS_TEMP 31 16)).toInt
  let s := putFld s Reg.SYS_TEMP 31 16 (BitVec.ofInt 16 (max m t)).toNat
  let s := if s.raw % 400000000 < 400000 then putFld s Reg.SYS_TEMP 15 0 (BitVec.ofInt 16 t).toNat else s
  let s := if t ≤ 950 then { s with pads := { s.pads with lidHot := false } } else s
  let cool := if t < 1000 then some (s.pads.coolAt.getD s.raw) else none
  let s := { s with pads := { s.pads with coolAt := cool } }
  let ok := match cool with
    | some r => decide (r + 4 * 10 ^ 9 ≤ s.raw)
    | none => false
  let s := setRelok codeLidLimit ok s
  if 1100 < t && !(flag s Reg.FLT_STAT 1 && fld s Reg.FLT_CUR3 31 16 = codeLidLimit) then raise codeLidLimit 3 s else s

/-! Retention flash at a start (R228, R229, R434). -/

/-- MEM has written a valid code into every word. -/
def memInitDone (s : State) : State := { s with boot := { s.boot with waitMem := false } }

/-- The addresses that a restore brings back: retained memory without the image copy. -/
def restored (a : Nat) : Bool := inRetained a && !inImageCopy (a / 4096)

/-- The retained memory as the flash holds it, without the image copy. -/
def restoreMemory (s : State) : State :=
  let s := { s with mem := s.mem.filter fun (p : Nat × Byte) => !restored p.1,
                    ecc := s.ecc.filter fun (p : Nat × Ecc) => !restored p.1 }
  let s := forAll (s.mm.flash.filter fun (p : Nat × Byte) => restored p.1) (fun s p => putByte s p.1 p.2) s
  let s := forAll (s.mm.flashEcc.filter fun (p : Nat × Ecc) => restored p.1) (fun s p => putEcc s p.1 p.2) s
  judgeForced { s with mm := { s.mm with dirty := [] } }

/-- RET has read the flash back and checked the seal. -/
def restoreComplete (pageBad : Bool) (s : State) : State :=
  if !s.boot.waitRestore || s.boot.por then s
  else
    let ok := s.mm.dump = .sealed && !pageBad
    let s := restoreMemory s
    let s := { s with mm := { s.mm with dump := .absent }, boot := { s.boot with waitRestore := false, retained := ok } }
    if ok then raise 0x0721 0 (putFld s Reg.RET_STAT 2 0 2)
    else raise codeRestoreFail 3 (putFld (loseJournal { s with olc := {}, frm := {}, lanes := [] }) Reg.RET_STAT 2 0 3)

/-! The instant before the first tick (R271, R432, R434). -/

/-- The EPOCH of the calendar clock. -/
def epoch (s : State) : Nat := regNat s Reg.TIME_EPOCH_LO + fld s Reg.TIME_EPOCH_HI 15 0 * 2 ^ 32

/-- The device time that the calendar clock gives. -/
def calendarTime (s : State) : Nat := if flag s Reg.RTC_STAT 0 then 0 else (s.rtc.sec - epoch s) * 10 ^ 9

/-- The frame base and the period in force come from a checkpoint or a partner; a committed K that differs waits for its
switch. -/
def putBase (k tb nb : Nat) (s : State) : State :=
  let s := putFld (putPair (putPair s Reg.FRM_FBASET_LO tb) Reg.FRM_FBASEN_LO nb) Reg.FRM_KNOW 7 0 k
  let c := fld s Reg.FRM_CFG 7 0
  showPair { s with frm := { s.frm with switchTo := if c = k then none else some c } }

/-- Device time and the frame base are set (R271). (Log 127, DEDUCED.) -/
def setStartTime (s : State) : State :=
  let (t1, k, tb, nb) := match ckFrame s with
    | some (f, k, tb, nb) => (tb + (f + 1 - nb) * k * 62500, k, tb, nb)
    | none => (0, fld s Reg.FRM_CFG 7 0, 0, 0)
  let t := max t1 (calendarTime s)
  let s := putBase k tb nb (jumpFilters (now s) t (newPiece t 0 s))
  { s with frm := { s.frm with first := true, firstAt := t } }

/-- BOOT.STAT.MODE: 0 COLD, 1 WARM, 2 JOIN. -/
def startMode (s : State) : Nat := fld s Reg.BOOT_STAT 6 5

/-- OLC completes the installation that a reset or a loss of power interrupted: its tables, its identity and its writes take
effect before the leaves load the checkpoint (R211, R434). -/
def completeInstall (s : State) : State :=
  match s.olc.installing with
  | some (m, _, toid) =>
    let (ws, s') := finishInstall m toid s
    unitsTake [fld s' Reg.FRM_CFG 7 0 * 62500] ws s s'
  | none => s

/-- The rollback, the redo and the restore of a WARM start; the mode is that of a CDR. -/
def warmRestore (s : State) : State :=
  let s := restoreCheckpoint (completeInstall (rollback s))
  { s with frm := { s.frm with resumeMode := cdrMode s } }

/-- TXN writes the last committed values of its journal over the settings of the image (R432). -/
def journalOver (s : State) : State := forAll s.txn.jregs (fun s w => putSetting s w.1 w.2) s

/-- The steps between the end of BOOT, or the winning of the bolt, and the first tick. The image defaults of a COLD start
replace the values that the journal holds (R36, R431). -/
def preTick (s : State) : State :=
  let s := if startMode s = 1 then warmRestore s else { s with txn := { s.txn with jregs := [] } }
  let s := if s.flt.toStop then { s with frm := { s.frm with resumeMode := modeStop } } else s
  if s.flt.held.isSome then s else pnlCheck false (setStartTime s)

end Sys2Proof.Machine
end

