-- ==== Sys2Proof/Machine/HaspOps.lean ====
section
/-! DEFINITION. The hot-standby pair: the bolt, heartbeats, shadowing, takeover, joining and the commands of HASP (R167 to R196,
R275, R375). -/

namespace Sys2Proof.Machine

/-! Roles (R167, R190 to R192). -/

/-- The bytes of working memory that a first COPY pass leaves. -/
def allBytes : Nat := 2 ^ 33

/-- XFERSTAT and XFERLEFT as a join begins its first COPY pass. (Log 70, DEDUCED.) -/
def beginCopy (s : State) : State :=
  putPair (putFld (putFld s Reg.HASP_XFERSTAT 2 0 1) Reg.HASP_XFERSTAT 31 24 1) Reg.HASP_XFERLEFT_LO allBytes

/-- A module that has not had its first tick starts as JOIN, with the settings of a WARM start (R433): it completes an
installation that the reset interrupted (R211), its delta is verified no more (R208), and RET shows no start from retained
memory (R238). -/
def startJoin (s : State) : State :=
  let s := putFld (journalOver (completeInstall s)) Reg.BOOT_STAT 6 5 2
  let s := putFld s Reg.RET_STAT 2 0 (if fld s Reg.RET_STAT 2 0 = 3 then 3 else 0)
  { putFld s Reg.OLC_STAT 2 0 0 with olc := { s.olc with kept := none } }

/-- The module goes to JOINING. -/
def goJoining (s : State) : State :=
  let s := dropShadow s
  let s := { s with hasp := { s.hasp with hbStopped := false, copied := [] } }
  let s := if s.frm.ticking then s else startJoin s
  wardRefresh (followSource (beginCopy (setHaspState 3 s)))

/-- The primary begins the COPY phase for its partner (R190). -/
def startCopy (s : State) : State :=
  sendRec "COPY"
    (beginCopy { s with hasp := { s.hasp with copyDirty := [], mirroring := false, finalDue := false, mirrorQ := 0, rejoin := none } })

/-! Taking the bolt (R181, R184, R185, R188). -/

/-- The standby's own receptions that `p` admits enter the input image, in order (R185). -/
def takeReceptions (p : Reception → Bool) (s : State) : State :=
  let l := s.hasp.rx.filter p
  let s := { s with hasp := { s.hasp with rx := s.hasp.rx.filter fun q => !p q } }
  forAll l (fun s q =>
    match q.node with
    | some j => acceptFrame false q.lane q.frame j s
    | none => s) s

/-- The new primary's input image of a frame whose CLOSE it lacks (R185). -/
def ownImage (n : Nat) (s : State) : State :=
  if s.hasp.imgFrame = some n then s
  else
    let ic := rawAt s (icAt s n)
    let s := { s with frm := { s.frm with unforced := applyOver s.frm.unforced s.hasp.ownSample } }
    let s := takeReceptions (fun q => q.at' < ic) s
    if s.frm.phase = 1 then specClose (closeImage s) else s

/-- The new primary releases the cyclic tasks of the frame that no record has released. -/
def ownReleases (n : Nat) (s : State) : State :=
  if curMode s = modeRun then
    forAll ((List.range 32).filter fun t => (getInst s t).isNone) (cyclicRelease n) s
  else s

/-- The new primary goes on with the frame it is in (R185). With the CC record of the frame held, the old primary has committed
it: the new one follows its positions to the shadow close, and commits there as the record says. Otherwise it completes the
frame on its own. -/
def continueFrame (s : State) : State :=
  let n := fnum s
  let closed := s.hasp.imgFrame = some n && s.hasp.shadow.any fun w => w.frame = n && w.cc.isSome
  let s := takeReceptions (fun _ => true) (ownImage n s)
  let s := { s with hasp := { s.hasp with accQ := [], imgFrame := none, watch := none, retry := none } }
  let done := s.frm.phase = 2
  let s := if done then s else { s with hasp := { s.hasp with takeoverFrame := some n } }
  if !done && closed then s
  else
    let s := { s with hasp := { s.hasp with posQ := [], shadow := [] } }
    if done then s
    else
      let s := ownReleases n s
      if s.frm.phase = 0 then s
      else if s.frm.compute then schedule (releaseLater n (resumeInsts s))
      else beginCompute n s

/-- A standby in SHADOW has won the bolt. -/
def takeover (s : State) : State :=
  let s := setPartner partnerNone (setHaspState 2 s)
  let s := raise 0x0605 1 (bump s Reg.HASP_EVCNT 31 16)
  let s := { s with hasp := { s.hasp with hbStopped := false } }
  pnlCheck true (continueFrame (followSource s))

/-- A module that handed over takes the bolt back, as one without a partner in step (R188). -/
def retakeYielded (s : State) : State :=
  let s := { s with hasp := { s.hasp with yielded := none, hbStopped := false }, flt := { s.flt with cdr := s.flt.cdr.map fun _ => false } }
  releaseFail (failNow (raise 0x060D 1 (setPartner partnerNone s)))

/-- The bolt is won: what follows depends on the state that tried. -/
def boltWon (s : State) : State :=
  match haspState s with
  | 1 => preTick (followSource (setHaspState 2 s))
  | 4 => takeover s
  | 2 => if s.hasp.yielded.isSome then retakeYielded s else { s with hasp := { s.hasp with hbStopped := false } }
  | _ => s

/-- A module tries the bolt; `contested` says that BOLT_IN is asserted within 1 µs of the attempt. (Log 64, DEDUCED.) -/
def tryBolt (contested : Bool) (s : State) : State :=
  if s.pads.boltIn || !mayBolt s then s
  else if contested then raise 0x060A 0 { s with hasp := { s.hasp with retry := some s.raw } }
  else boltWon (setBolt true s)

/-- The time that a contested try waits, in raw counts. -/
def retryWait (s : State) : Nat := if s.hasp.side then 12000 else 2000

/-- A contested bolt is tried again if the conditions to try still hold. -/
def boltRetry (contested : Bool) (s : State) : State :=
  match s.hasp.retry with
  | none => s
  | some r =>
    let s := advanceTo (r + retryWait s) { s with hasp := { s.hasp with retry := none } }
    match haspState s with
    | 1 => if s.pads.boltIn then goJoining s else tryBolt contested s
    | 4 =>
      if flag s Reg.HASP_STAT 11 then s
      else if s.pads.boltIn then { s with hasp := { s.hasp with watch := some (s.hasp.watch.getD s.raw) } }
      else tryBolt contested s
    | 2 =>
      if s.pads.boltOut then s
      else if s.hasp.yielded.isSome then
        if s.pads.boltIn then { s with hasp := { s.hasp with yielded := none } } else tryBolt contested s
      else if s.pads.boltIn then leaveStep s
      else tryBolt contested s
    | _ => s

/-- A PAIR module has heard no partner by the end of its wait (R168). -/
def arbitrationTimeout (contested : Bool) (s : State) : State :=
  if haspState s ≠ 1 || s.hasp.retry.isSome || s.flt.held.isSome then s
  else
    let s := advanceTo (s.hasp.since + 40000 + (if s.hasp.side then 10000 else 0)) s
    if s.pads.boltIn then goJoining s else tryBolt contested s

/-- BOLT_IN changes (R168, R179, R180, R184, R188). -/
def boltInChange (level contested : Bool) (s : State) : State :=
  if s.pads.boltIn = level then s
  else
    let s := offerOpen (refreshEnable { s with pads := { s.pads with boltIn := level } })
    match haspState s with
    | 0 => if level && !s.boot.running then raise 0x060A 0 s else s
    | 1 => if level then goJoining s else s
    | 4 => if !level && s.hasp.watch.isSome then tryBolt contested { s with hasp := { s.hasp with watch := none } } else s
    | 2 => if level && s.hasp.yielded.isSome then { s with hasp := { s.hasp with yielded := none } } else s
    | _ => s

/-! Heartbeats (R170, R171, R273, R275). -/

/-- A heartbeat goes out at the next multiple of 12.5 µs of device time. -/
def heartbeatSend (s : State) : State :=
  let st := haspState s
  if (st = 2 || st = 3 || st = 4) && s.frm.ticking && !s.hasp.hbStopped && !flag s Reg.FLT_STAT 1 && s.pads.pfailB then
    sendRec "HEARTBEAT" (advanceToTime ((now s / 12500 + 1) * 12500) s)
  else s

/-- A joining start takes the partner's time and frame base before its first tick (R275). -/
def joinTime (q : HbRec) (t : Nat) (s : State) : State :=
  let s := newPiece t 0 s
  let s := match q.base with
    | some (k, tb, nb) => putBase k tb nb s
    | none => s
  { s with frm := { s.frm with first := true, firstAt := t } }

/-- The time sample of a primary's heartbeat. -/
def heartbeatTime (q : HbRec) (s : State) : State :=
  match q.time with
  | some t =>
    if sourceNow s ≠ 3 then s
    else if haspState s = 3 && !s.frm.ticking then joinTime q (t + q.delay) s
    else sample ((now s : Int) - (t + q.delay : Nat)) s
  | none => s

/-- The conditions of INSTEP, at a heartbeat that reports SHADOW (R177). -/
def mayInstep (s : State) : Bool :=
  (match s.hasp.hbOther with
    | some r => decide (r + 20000 < s.raw)
    | none => true) && !s.hasp.digestBad && s.hasp.overdue.isEmpty

/-- What a primary does on a heartbeat that reports its partner's state. -/
def partnerState (st : Nat) (s : State) : State :=
  match st with
  | 4 =>
    let s := if fld s Reg.HASP_XFERSTAT 2 0 = 3 then
        raise 0x0607 0 (putFld { s with hasp := { s.hasp with digestBad := false, undigested := [], overdue := [] } } Reg.HASP_XFERSTAT 2 0 4)
      else s
    if mayInstep s then setPartner partnerInstep s else s
  | 3 =>
    let s := if fld s Reg.HASP_STAT 27 25 ≠ partnerJoining then startCopy s else s
    setPartner partnerJoining s
  | _ => setPartner partnerUnsync { s with hasp := { s.hasp with undigested := [], overdue := [] } }

/-- A heartbeat arrives (R168, R170). -/
def heartbeat (q : HbRec) (s : State) : State :=
  if haspState s = 0 then s
  else
    let other := if q.state = 4 then s.hasp.hbOther else some s.raw
    let s := putFlag { s with hasp := { s.hasp with lastHb := some (s.raw, q.state), hbOther := other } } Reg.HASP_STAT 11 true
    let s := if haspState s = 1 then goJoining s else s
    if haspState s = 2 then partnerState q.state s
    else
      let s := if fld s Reg.HASP_STAT 27 25 = partnerUnreachable then setPartner partnerNone s else s
      heartbeatTime q s

/-- The partner's heartbeat is lost; `left` says that a LEAVE record said so (R171, R192). -/
def hbLost (left : Bool) (s : State) : State :=
  let s := bump (putFlag s Reg.HASP_STAT 11 false) Reg.HASP_HBMISS 31 16
  let s := if left then s else raise 0x0601 1 s
  if haspState s = 2 then
    let s := { s with hasp := { s.hasp with undigested := [], overdue := [], mirroring := false, finalDue := false, mirrorQ := 0, copyDirty := [] } }
    setPartner partnerNone (putFld s Reg.HASP_XFERSTAT 2 0 0)
  else s

/-- A standby in SHADOW that has lost its partner takes the bolt, or watches BOLT_IN (R184). -/
def takeoverCheck (contested : Bool) (s : State) : State :=
  if haspState s ≠ 4 then s
  else if s.pads.boltIn then { s with hasp := { s.hasp with watch := some s.raw } }
  else tryBolt contested s

/-- 50 µs have passed without a heartbeat. -/
def heartbeatLost (contested : Bool) (s : State) : State :=
  match s.hasp.lastHb with
  | some (r, _) =>
    if flag s Reg.HASP_STAT 11 && haspState s ≠ 0 then takeoverCheck contested (hbLost false (advanceTo (r + 20000) s)) else s
  | none => s

/-- A YIELD record arrives. -/
def yieldRecord (contested : Bool) (s : State) : State :=
  if flag s Reg.HASP_STAT 11 && haspState s ≠ 0 then takeoverCheck contested (hbLost false s) else s

/-- A LEAVE record arrives: the heartbeat is lost at once on every module of a pair (R171), and a primary raises PARTNER_LEFT
(R192). (Log 162, DEDUCED.) -/
def leaveRecord (s : State) : State :=
  match haspState s with
  | 0 => s
  | 2 => raise 0x0609 0 (hbLost true s)
  | _ =>
    if flag s Reg.HASP_STAT 11 then
      let (f, s) := takeFree (hbLost true s)
      takeoverCheck (f.getLsbD 0) s
    else s

/-- BOLT_IN stayed asserted for 12.5 µs after the loss (R184). -/
def unreachable (s : State) : State :=
  match s.hasp.watch with
  | some r =>
    if haspState s = 4 && s.pads.boltIn then
      raise 0x0602 1 (leaveStep (setPartner partnerUnreachable (advanceTo (r + 5000) s)))
    else s
  | none => s

/-- The partner has not asserted its bolt within 10 µs of a YIELD (R188). -/
def handoverFail (contested : Bool) (s : State) : State :=
  match s.hasp.yielded with
  | some r => if haspState s = 2 && !s.pads.boltIn && s.hasp.retry.isNone then tryBolt contested (advanceTo (r + 4000) s) else s
  | none => s

/-- A hasp lane goes down or comes up (R169). -/
def haspLaneDown (l : Fin 2) (s : State) : State :=
  if haspState s ≠ 0 && flag s Reg.HASP_STAT (16 + l.val) then raise 0x0606 0 (putFlag s Reg.HASP_STAT (16 + l.val) false) else s

def haspLaneUp (l : Fin 2) (s : State) : State :=
  if haspState s ≠ 0 then putFlag s Reg.HASP_STAT (16 + l.val) true else s

/-! Shadowing (R173 to R177). -/

/-- The module takes the records of a frame: in SHADOW, or with the FINAL checkpoint before the next IC (R190). -/
def follows (s : State) : Bool := haspState s = 4 || (haspState s = 3 && s.hasp.finalHeld)

def shadowDefault (f : Nat) : ShadowFrame := { frame := f }

/-- What the standby holds of a frame. -/
def shadowOf (s : State) (f : Nat) : ShadowFrame := (s.hasp.shadow.find? fun w => w.frame = f).getD (shadowDefault f)

def putShadow (w : ShadowFrame) (s : State) : State :=
  { s with hasp := { s.hasp with shadow := w :: s.hasp.shadow.filter fun v => v.frame ≠ w.frame } }

/-- A frame that node `n` sent enters the standby's input image for an ACCEPT record. -/
def takeAccept (q : AcceptRec) (n : Option Nat) (f : BusFrame) (s : State) : State :=
  let s := match n with
    | some j => acceptFrame false q.lane f j s
    | none => s
  let w := shadowOf s q.frame
  putShadow { w with accepts := w.accepts ++ [q] } s

/-- The standby's own reception that an ACCEPT record names (R173). (Log 66, DEDUCED.) -/
def ownReception (s : State) (q : AcceptRec) : Option Reception :=
  s.hasp.rx.find? fun p => p.lane = q.lane && p.frame.stamp = q.stamp && p.frame.crc = q.crc

/-- The ACCEPT records that wait are applied in order; one whose message is missing holds those behind it. -/
def drainAccepts : List AcceptRec → State → State
  | [], s => { s with hasp := { s.hasp with accQ := [] } }
  | q :: r, s =>
    match ownReception s q with
    | some f =>
      let s := { s with hasp := { s.hasp with rx := s.hasp.rx.filter fun p => !(p.lane = q.lane && p.frame.stamp = q.stamp && p.frame.crc = q.crc) } }
      drainAccepts r (takeAccept q f.node f.frame s)
    | none => { s with hasp := { s.hasp with accQ := q :: r } }

/-- A write that the standby issues as M2 (R182, R200). -/
def m2Write (a : Nat) (b : List Byte) (s : State) : State :=
  if inForce a then (forceWrite .m2 a b s).2
  else if a = regBase + Reg.OLC_FCLR then (forceClearWrite (leNat b) s).2
  else if b.length ≤ 8 && a % 8 + b.length ≤ 8 && (inWorking a || inMarkers a) then (memStore .m2 a b s).2
  else s

/-- The priority order's release instant of an event task that a record releases. -/
def recordTime (n : Nat) (s : State) : Nat :=
  (s.frm.insts.map fun p => p.2.relTime + 1).foldl max (icAt s n)

/-- A POSITION record releases a task on the standby (R174). (Log 67, DEDUCED.) -/
def releaseByRecord (q : PosRec) (s : State) : State :=
  let t := q.released.getD q.tid
  let s := { s with frm := { s.frm with later := alDel s.frm.later t, pend := s.frm.pend.filter (· ≠ t) } }
  let per := fld s (taskCfg t) 20 10
  let at' := if isEvent t then recordTime q.frame s else tickAt s q.frame
  releaseTask t q.frame (q.frame + per - 1) at' s.frm.compute s

/-- A program position is reached (R175): its instance has executed so many instructions, and no other executes. In STOP and
HOLD no instance executes, and behind the commit of the frame none does any more, so that every position is reached. (Log 67,
DEDUCED.) -/
def reached (f t n : Nat) (s : State) : Bool :=
  f < fnum s || (f = fnum s &&
    (curMode s ≠ modeRun || s.frm.phase = 2 ||
      ((s.frm.running.isNone || s.frm.running = some t) &&
        (match getInst s t with
          | some i => decide (n ≤ i.count)
          | none => n = 0))))

/-- The instance of task `t` gives the leaves up until a record, or the next frame, resumes it. -/
def holdInst (t : Nat) (s : State) : State :=
  match getInst s t with
  | some i =>
    let s := if isReady i then putInst t { i with st := .suspended } s else s
    { s with frm := { s.frm with running := if s.frm.running = some t then none else s.frm.running } }
  | none => s

/-- The instance of task `t` can execute again. -/
def resumeInst (t : Nat) (s : State) : State :=
  match getInst s t with
  | some i => if i.st = .suspended then putInst t { i with st := .ready } s else s
  | none => s

/-- One record at the front of the queue, at its position: the state after it, or none while its position is not reached. A
release between instances precedes what executes next. -/
def applyPos (it : PosItem) (s : State) : Option State :=
  match it with
  | .write q => if reached q.frame q.tid q.count s then some (m2Write q.addr q.data s) else none
  | .pos q =>
    match q.kind with
    | .release => if reached q.frame q.tid (if q.released.isSome then q.count else 0) s then some (releaseByRecord q s) else none
    | .preempt => if reached q.frame q.tid q.count s then some (holdInst q.tid s) else none
    | .resume => if reached q.frame q.tid q.count s then some (resumeInst q.tid s) else none
    | .finish =>
      match getInst s q.tid with
      | some i => if q.frame < fnum s || (q.frame = fnum s && i.st = .ended) then some s else none
      | none => if q.frame ≤ fnum s then some s else none

/-- The leaves take the next instance where none runs. -/
def runIdle (s : State) : State := if s.frm.running.isNone then schedule s else s

/-- The records whose positions are reached take effect, in order. -/
def drainPos : List PosItem → State → State
  | [], s => runIdle { s with hasp := { s.hasp with posQ := [] } }
  | it :: r, s =>
    match applyPos it s with
    | some s => drainPos r s
    | none => runIdle { s with hasp := { s.hasp with posQ := it :: r } }

/-- A standby goes on at its positions; every other module has none. -/
def followPos (s : State) : State := if s.hasp.posQ.isEmpty then s else drainPos s.hasp.posQ s

/-- The standby's input image of frame `n` is complete once CLOSE and every ACCEPT record it counts have come, and its own IC
has passed. -/
def closeShadow (s : State) : State :=
  let n := fnum s
  let w := shadowOf s n
  if haspState s ≠ 4 || s.frm.phase ≠ 1 || s.hasp.imgFrame = some n then s
  else match w.close with
    | some c =>
      if w.accepts.length = c then
        let s := specClose (closeImage { s with hasp := { s.hasp with imgFrame := some n } })
        let s := { s with frm := { s.frm with compute := true } }
        if s.leaf.actHalt || curMode s ≠ modeRun then followPos s
        else runIdle (followPos (countLatches (resumeInsts s)))
      else s
    | none => s

/-- A SAMPLE record (R173). -/
def sampleRecord (q : SampleRec) (s : State) : State :=
  if !follows s then s
  else
    let w := shadowOf s q.frame
    let s := putShadow { w with sample := some q.points } s
    closeShadow { s with frm := { s.frm with unforced := applyOver s.frm.unforced q.points } }

/-- An ACCEPT record. -/
def acceptRecord (q : AcceptRec) (s : State) : State :=
  if !follows s then s
  else
    let missing := (ownReception s q).isNone
    let s := if missing then sendRec "PAYLOAD_REQUEST" s else s
    closeShadow (drainAccepts (s.hasp.accQ ++ [q]) s)

/-- A PAYLOAD record: the message that the first waiting ACCEPT of its lane and stamp names. -/
def payloadRecord (frame lane : Nat) (f : BusFrame) (s : State) : State :=
  if !follows s then s
  else
    let l := s.hasp.accQ.filter fun q => q.frame = frame && q.lane = lane && q.stamp = f.stamp && q.crc = f.crc
    if l.isEmpty then s
    else
      let r : Reception := { lane := lane, at' := s.raw, node := nodeOf s lane f.xtd f.id.toNat, frame := f }
      closeShadow (drainAccepts s.hasp.accQ { s with hasp := { s.hasp with rx := s.hasp.rx ++ [r] } })

/-- The primary sends a message that the standby has asked for. -/
def payloadRequest (s : State) : State := if haspState s = 2 then sendRec "PAYLOAD" s else s

/-- A CLOSE record. -/
def closeRecord (frame count : Nat) (s : State) : State :=
  if !follows s then s else closeShadow (putShadow { shadowOf s frame with close := some count } s)

/-- A trigger that the primary's record brings, with the frame it falls in (R62, R174). -/
def recordTrigger (frame : Nat) (s : State) (t : Nat) : State :=
  if !taskEn s t || curMode s = modeStop then s
  else
    let s := latchTrigger t s
    if curMode s = modeHold then setPend t s
    else if (alGet s.frm.tasks t).isNone then noEntry t s
    else if (getInst s t).isSome || s.frm.pend.contains t then setPend t s
    else if (alGet s.frm.later t).isSome then bumpMerged t 1 s
    else { s with frm := { s.frm with later := alPut s.frm.later t frame } }

/-- A TRIGGER record: the event tasks of its source. -/
def triggerRecord (kind index frame : Nat) (s : State) : State :=
  if !follows s then s
  else
    forAll ((List.range 16).filter fun e =>
      fld s (Reg.FRM_EVTSRC e) 15 12 = kind && fld s (Reg.FRM_EVTSRC e) 11 0 = index)
      (fun s e => recordTrigger frame s (32 + e)) s

/-- A record for a program position. -/
def positionRecord (it : PosItem) (s : State) : State :=
  if !follows s then s else drainPos (s.hasp.posQ ++ [it]) s

/-- A COMMITS record. -/
def commitsRecord (q : CommitsRec) (s : State) : State :=
  if haspState s = 3 || haspState s = 4 then { s with hasp := { s.hasp with commitsDue := s.hasp.commitsDue ++ [q] } } else s

/-- What FRM keeps of the primary's instances comes with the checkpoint of the FINAL phase (R190, R471). -/
def finalInsts (q : CcRec) (s : State) : State :=
  let i (r : InstRec) : Nat × Inst :=
    (r.tid, { ctx := {}, deadline := 0, relTime := 0, relT0 := 0, frozen := true, started := true,
              img := applyOver [] r.img, outImg := applyOver [] r.outImg, qw := r.qw, emits := r.emits })
  let m : Mark := { insts := q.insts.map i, last := applyOver [] q.last, runImg := applyOver [] q.runImg }
  { s with frm := { s.frm with marks := [(0, m), (1, m)] } }

/-- A lane's counts come with the FINAL phase, and its queue with the memory that the join brought: what the primary has on its
wire is not done before TXDONE says so (R186, R190). -/
def takeLane (s : State) (r : LaneRec) : State :=
  putLane r.lane.val { lane s r.lane.val with arr0 := r.arr0, arr1 := r.arr1, rd0 := r.rd0, rd1 := r.rd1, recNo := r.recNo,
                                              order := r.order } s

/-- The queues as the join brought them. -/
def takeQueues (s : State) : State :=
  forAll (List.range 12) (fun s n =>
    forAll ((List.range 64).filter fun i => qState s n i = 2) (fun s i => putQState n i 1 s) s) (adoptQueues s)

/-- The standby's leaves load the checkpoint of the FINAL phase, and it enters SHADOW at the next IC (R190). -/
def takeFinal (q : CcRec) (s : State) : State :=
  let s := restoreCheckpoint (finalInsts q (takeQueues (q.lanes.foldl takeLane s)))
  let rel (p : Nat × Inst) : Nat × Inst :=
    (p.1, { p.2 with relTime := tickAt s p.2.ctx.relFrame, relT0 := tickAt s p.2.ctx.relFrame })
  let s := { s with frm := { s.frm with insts := s.frm.insts.map rel }, hasp := { s.hasp with finalHeld := true } }
  putFld (showMode s.frm.resumeMode s) Reg.HASP_XFERSTAT 2 0 3

/-- A CC record. -/
def ccRecord (q : CcRec) (s : State) : State :=
  if haspState s = 3 && !s.hasp.finalHeld then takeFinal q s
  else if haspState s = 4 then putShadow { shadowOf s q.frame with cc := some q } s
  else s

/-- HASP.LAG shows the time from CC to the standby's own commit, in units of 10 ns (R195). (Log 69, DEDUCED.) -/
def showLag (s : State) : State :=
  let l := 600
  putFld (putFld s Reg.HASP_LAG 15 0 l) Reg.HASP_LAG 31 16 (max l (fld s Reg.HASP_LAG 31 16))

/-- The standby commits frame `n` as the CC record says, and compares digests (R176, R177). -/
def shadowCommit (n : Nat) (q : CcRec) (s : State) : State :=
  let late := s.frm.insts.filter fun p => q.overruns.contains p.1
  let s := sendRec "DIGEST" (showLag (commitFrame n late s))
  let s := { s with hasp := { s.hasp with shadow := s.hasp.shadow.filter fun w => n < w.frame } }
  if getReg s Reg.HASP_DIGEST = q.digest then s
  else leaveStep (raise 0x0603 1 (bump s Reg.HASP_EVCNT 15 0))

/-- The item says that the primary has ended an instance by frame `n`, which the standby has not. -/
def endsBy (n : Nat) : PosItem → Bool
  | .pos q => q.kind = .finish && q.frame ≤ n
  | .write _ => false

/-- SC of the current frame (R176). -/
def shadowClose (s : State) : State :=
  let n := fnum s
  if haspState s ≠ 4 || s.frm.phase ≠ 1 || !s.frm.ticking || !s.pads.pfailB then s
  else
    let s := followPos (advanceToTime (ccAt s n + 6000) s)
    match (shadowOf s n).cc with
    | some q =>
      if s.hasp.imgFrame = some n && !s.hasp.posQ.any (endsBy n) && !s.leaf.actHalt then shadowCommit n q s
      else raise 0x0604 1 (leaveStep s)
    | none => raise 0x0604 1 (leaveStep s)

/-- A DIGEST record on the primary. -/
def digestRecord (frame : Nat) (crc : Word) (s : State) : State :=
  match (if haspState s = 2 then alGet s.hasp.undigested frame else none) with
  | none => s
  | some own =>
    let s := { s with hasp := { s.hasp with undigested := alDel s.hasp.undigested frame,
                                            overdue := s.hasp.overdue.filter (· ≠ frame) } }
    if own = crc then s
    else
      let s := raise 0x0603 1 (bump { s with hasp := { s.hasp with digestBad := true } } Reg.HASP_EVCNT 15 0)
      if instep s then setPartner partnerUnsync s else s

/-- No DIGEST has come by SC + 5 µs (R177). -/
def digestTimeout (frame : Nat) (s : State) : State :=
  if haspState s ≠ 2 || (alGet s.hasp.undigested frame).isNone then s
  else
    let s := advanceToTime (ccAt s frame + 11000) s
    let s := { s with hasp := { s.hasp with overdue := frame :: s.hasp.overdue.filter (· ≠ frame) } }
    if instep s then setPartner partnerUnsync s else s

/-- A TXDONE record frees the request's entry (R186). -/
def txdone (n order : Nat) (s : State) : State :=
  if n < 12 && (haspState s = 3 || haspState s = 4) then
    match (List.range 64).find? fun i => qState s n i ≠ 0 && memNat s (qEntry s n i + 0x10) 8 = order with
    | some i => putQState n i 0 s
    | none => s
  else s

/-- A standby has seen a frame on its own lane: a queued request with the same identifier and data is done (R186). -/
def seenOnWire (n : Nat) (f : BusFrame) (s : State) : State :=
  let same (q i : Nat) : Bool :=
    let d := queueDesc s q i
    qState s q i ≠ 0 && dXtd d = f.xtd && dId d = f.id.toNat && dLen d = f.data.length &&
      memBytes s (qEntry s q i + 0x40) f.data.length = f.data
  if follows s && onBus s n then
    forAll ((List.range 12).filter fun q => q = n || servedBy s q = n) (fun s q =>
      match (List.range 64).find? (same q) with
      | some i => putQState q i 0 s
      | none => s) s
  else s

/-! Joining (R190, R191). -/

/-- XFERSTAT.PASS and XFERLEFT on a joining standby as a page arrives: one already received in this pass belongs to the next,
and how much of that is left is the primary's to know. (Log 70, DEDUCED.) -/
def notePage (page : Nat) (s : State) : State :=
  let left := pair s Reg.HASP_XFERLEFT_LO
  if s.hasp.copied.contains page then
    let (f, s) := takeFree s
    let s := bump { s with hasp := { s.hasp with copied := [page] } } Reg.HASP_XFERSTAT 31 24
    putPair s Reg.HASP_XFERLEFT_LO (f.toNat % (allBytes + 1))
  else
    putPair { s with hasp := { s.hasp with copied := page :: s.hasp.copied } } Reg.HASP_XFERLEFT_LO (left - 4096)

/-- A page of the primary's memory arrives: M2 writes it. -/
def copyRecord (page : Nat) (data : List Byte) (s : State) : State :=
  if haspState s = 3 && data.length = 4096 && inRetained (page * 4096) then
    masterStore .m2 (page * 4096) data (watchDelta (page * 4096) 4096 (notePage page s))
  else s

/-- A mirrored write arrives: M2 writes it. -/
def mirrorRecord (a : Nat) (b : List Byte) (s : State) : State :=
  if haspState s = 3 && inWorking a && inWorking (a + b.length - 1) then
    putFld (masterStore .m2 a b (watchDelta a b.length s)) Reg.HASP_XFERSTAT 2 0 2
  else s

/-- HASP.XFERLEFT within a pass on the primary: how far the pass has come is the link's, so the value is free, and never above
what it was. (Log 171, DESIGN CHOICE.) -/
def passLeft (s : State) : State :=
  if haspState s = 2 && (fld s Reg.HASP_XFERSTAT 2 0 = 1 || fld s Reg.HASP_XFERSTAT 2 0 = 2) then
    let (f, s) := takeFree s
    putPair s Reg.HASP_XFERLEFT_LO (f.toNat % (pair s Reg.HASP_XFERLEFT_LO + 1))
  else s

/-- A pass of the join ends on the primary. -/
def copyPassEnd (s : State) : State :=
  if haspState s ≠ 2 then s
  else
    let n := s.hasp.copyDirty.length
    let left := n * 4096
    let clean := { s with hasp := { s.hasp with copyDirty := [] } }
    match fld s Reg.HASP_XFERSTAT 2 0 with
    | 1 =>
      if n ≤ fld s Reg.HASP_XFERCFG 15 0 * 256 || fld s Reg.HASP_XFERCFG 23 16 ≤ fld s Reg.HASP_XFERSTAT 31 24 then
        let s := { clean with hasp := { clean.hasp with mirroring := true } }
        sendRec "COPY" (putPair (putFld s Reg.HASP_XFERSTAT 2 0 2) Reg.HASP_XFERLEFT_LO left)
      else sendRec "COPY" (putPair (bump clean Reg.HASP_XFERSTAT 31 24) Reg.HASP_XFERLEFT_LO left)
    | 2 => putPair { clean with hasp := { clean.hasp with finalDue := true } } Reg.HASP_XFERLEFT_LO 0
    | _ => s

/-- 1 s after an abandoned join it starts again. -/
def joinRestart (s : State) : State :=
  match s.hasp.rejoin with
  | some r => if haspState s = 2 then startCopy (advanceTo (r + 400000000) s) else s
  | none => s

/-- 1 s after entering UNSYNC, with the partner heard. -/
def autojoin (s : State) : State :=
  if haspState s = 5 && flag s Reg.HASP_CFG 8 && flag s Reg.HASP_STAT 11 && !s.hasp.autoSuspended && s.flt.cdr.isNone then
    goJoining (advanceTo (s.hasp.since + 400000000) s)
  else s

/-! The commands of HASP (R189, R191, R192, R195); false is a refusal. -/

def cmdJoin (s : State) : Bool × State :=
  if haspState s = 5 then (true, goJoining { s with hasp := { s.hasp with autoSuspended := false } }) else (false, s)

def cmdLeave (s : State) : Bool × State :=
  if haspState s = 3 || haspState s = 4 || haspState s = 5 then
    let s := sendRec "LEAVE" { s with hasp := { s.hasp with autoSuspended := true, hbStopped := true } }
    (true, leaveStep s)
  else (false, s)

def cmdYield (s : State) : Bool × State :=
  if instep s then
    let s := sendRec "YIELD" (setBolt false { s with hasp := { s.hasp with hbStopped := true } })
    (true, leaveStep s)
  else (false, s)

/-- ASSUME is a CDR from the module's own latest checkpoint. -/
def cmdAssume (contested : Bool) (s : State) : Bool × State :=
  if haspState s ≠ 5 || s.pads.boltIn || !mayBolt s then (false, s)
  else if contested then (false, raise 0x060A 0 s)
  else
    let s := setBolt true { s with hasp := { s.hasp with hbStopped := false } }
    let s := pnlCheck true (followSource (setPartner partnerNone (setHaspState 2 s)))
    (true, cdrCourse 1 (wardRefresh s))

/-- HASP.CMD. -/
def haspCommand (contested : Bool) (v : Nat) (s : State) : Bool × State :=
  if bits v 31 16 ≠ 0x4B50 then (false, s)
  else match bits v 2 0 with
    | 0 => (true, s)
    | 1 => cmdJoin s
    | 2 => cmdLeave s
    | 3 => cmdYield s
    | 4 => cmdAssume contested s
    | _ => (false, s)

/-- HASP.CTRCLR. -/
def haspCtrClr (s : State) : State :=
  putNat (putNat (putFld s Reg.HASP_LAG 31 16 0) Reg.HASP_HBMISS 0) Reg.HASP_EVCNT 0

end Sys2Proof.Machine
end

