-- ==== Sys2Proof/Machine/HostOps.lean ====
section
/-! DEFINITION. HOST, the flash commands of BOOT, DBG and the JTAG port beside their accesses (R77, R437 to R447). -/

namespace Sys2Proof.Machine

/-! MSI-X and the port (R441, R442). -/

/-- A vector that is pending and no longer held back sends its message. (Log 141, DEDUCED.) -/
def sendPending (s : State) (v : Nat) : State :=
  let p := if v < 32 then Reg.HOST_PBA_LO else Reg.HOST_PBA_HI
  if flag s p (v % 32) && flag s Reg.HOST_STAT 7 && flag s Reg.HOST_STAT 6 && !flag s (Reg.HOST_MSIX v + 0xC) 0 then
    let s := putFlag s p (v % 32) false
    { s with host := { s.host with msgs := v :: s.host.msgs } }
  else s

/-- A configuration write of the host leaves these enables (R449). -/
def hostConfig (msixen bme : Bool) (s : State) : State :=
  forAll (List.range 64) sendPending (putFlag (putFlag s Reg.HOST_STAT 7 msixen) Reg.HOST_STAT 6 bme)

/-- What a reset of the host port clears: the link, the MSI-X table, WINB and HOST.CFG. -/
def resetPort (s : State) : State :=
  let s := putNat (putNat s Reg.HOST_STAT 0) Reg.HOST_CFG 0
  let s := putNat (putNat s Reg.HOST_WINB_LO 0) Reg.HOST_WINB_HI 0
  let s := putNat (putNat s Reg.HOST_PBA_LO 0) Reg.HOST_PBA_HI 0
  { s with regs := s.regs.filter fun (p : Nat × Word) => !(Reg.HOST_MSIX 0 ≤ p.1 && p.1 < Reg.HOST_MSIX 64),
           low := s.low.filter fun (p : Nat × Word) => p.1 ≠ 2 ^ 24 + Reg.HOST_WINB_LO }

/-- The link comes up with a speed and a width as HOST.STAT encodes them. -/
def hostLinkUp (speed width : Nat) (s : State) : State :=
  putFld (putFld (putFlag s Reg.HOST_STAT 0 true) Reg.HOST_STAT 3 2 speed) Reg.HOST_STAT 5 4 width

/-- A link that was up is lost. -/
def hostLinkDown (s : State) : State := if flag s Reg.HOST_STAT 0 then raise 0x5001 0 (resetPort s) else s

/-- PERST_B or an FLR. (Log 122, DEDUCED.) -/
def hostPortReset (s : State) : State := raise 0x5002 0 (resetPort s)

/-- A base that window B may take (R439). -/
def winbOk (b : Nat) : Bool :=
  (b % 0x1000_0000 = 0 && b < 0x2_0000_0000) || b = pstBase || b = pnlBase || b = lmmBase

/-- The doorbells that a write rings (R443). (Log 123, DEDUCED.) -/
def ringBells (v : Nat) (s : State) : State :=
  forAll ((List.range 16).filter fun k => v.testBit k) (fun s k => trigger 5 k (now s) s) s

/-- The signals that a write raises (R443). -/
def raiseSignals (v : Nat) (s : State) : State :=
  forAll ((List.range 16).filter fun k => v.testBit k) (fun s k => cause (40 + k) s) s

/-! The flash commands (R437). -/

/-- The bytes that a flash command changes: its first offset and their number. -/
def flashSpan (s : State) (op a : Nat) : Nat × Nat :=
  if op = 1 then (a, 2 ^ (s.boot.sector + 10)) else (a, 256)

/-- BOOT.PGCMD; false is a refusal. -/
def flashCommand (v : Nat) (s : State) : Bool × State :=
  let op := bits v 1 0
  if bits v 31 16 ≠ 0x4246 || op = 3 then (false, s)
  else if op = 0 then (true, s)
  else
    let a := fld s Reg.BOOT_PGADDR 28 0
    let (lo, n) := flashSpan s op a
    let st := bootState s
    let half := flashSize s / 2
    let own := st = 4 && slotBase s s.boot.slot < lo + n && lo < slotBase s s.boot.slot + half
    if (st ≠ 4 && st ≠ 5) || flag s Reg.BOOT_PGSTAT 0 || a % n ≠ 0 || s.boot.density * 2 ^ 20 < lo + n || !s.boot.answers || own then
      (false, s)
    else
      let s := putFld s Reg.BOOT_PGSTAT 2 0 1
      (true, { s with boot := { s.boot with cmd := some (op, a) } })

/-- Writes a byte of the configuration flash. -/
def putFlash (s : State) (a : Nat) (b : Byte) : State :=
  { s with boot := { s.boot with flash := smSet flashErased s.boot.flash a b } }

/-- The page that BOOT.PGBUF holds. -/
def pageByte (s : State) (i : Nat) : Byte := BitVec.ofNat 8 (bits (regNat s (Reg.BOOT_PGBUF (i / 4))) (8 * (i % 4) + 7) (8 * (i % 4)))

/-- The flash command is found done. A failed one leaves bytes that the manual does not state: free values. (Log 120, DESIGN CHOICE; Log 121, DEDUCED.) -/
def flashEnd (ok : Bool) (s : State) : State :=
  match s.boot.cmd with
  | none => s
  | some (op, a) =>
    let (lo, n) := flashSpan s op a
    let s := { s with boot := { s.boot with cmd := none } }
    let s := if !ok then forAll (List.range n) (fun s i =>
        let (f, s) := takeFree s
        putFlash s (lo + i) (f.truncate 8)) s
      else if op = 1 then
        { s with boot := { s.boot with flash := s.boot.flash.filter fun (p : Nat × Byte) => p.1 < lo || lo + n ≤ p.1 } }
      else forAll (List.range n) (fun s i => putFlash s (lo + i) (pageByte s i)) s
    let s := cause 8 (putFld s Reg.BOOT_PGSTAT 2 0 (if ok then 2 else 4))
    if ok then s else raise 0x5106 0 s

/-! Debug (R77, R446, R447). -/

/-- The leaves halt by debug: 1 a command, 2 BRK, 3 a breakpoint. -/
def debugHalt (reason bp : Nat) (s : State) : State :=
  if s.leaf.dbgHalt then s
  else
    let t := if leavesRun s then s.frm.running else none
    let e := t.getD 0
    let s := putNat s Reg.DBG_STAT (b2n (flag s Reg.DBG_STAT 16) * 2 ^ 16 + e % 32 * 2 ^ 11 + b2n (isEvent e) * 2 ^ 10 +
      bp * 2 ^ 8 + curMode s * 2 ^ 4 + reason * 2 + 1)
    let s := { s with leaf := { s.leaf with dbgHalt := true, resuming := false, haltedInst := t, stepReq := false } }
    let s := (modeRequest 0x20 (wardRefresh (refreshHalted s))).2
    cause 15 (raise 0x5202 0 s)

/-- DBG.CTL; false is a refusal. STEP is executed by the command that carried the write. -/
def debugCommand (v : Nat) (s : State) : Bool × State :=
  let op := bits v 1 0
  if bits v 31 16 ≠ 0x4447 then (false, s)
  else if op = 0 then (true, s)
  else if haspState s = 3 || haspState s = 4 then (false, s)
  else if op = 1 then (true, debugHalt 1 0 s)
  else if op = 2 then
    if s.leaf.dbgHalt then
      let s := (modeRequest (fld s Reg.DBG_STAT 5 4 * 2 ^ 4) s).2
      (true, { s with leaf := { s.leaf with resuming := true, passBp := s.leaf.haltedInst } })
    else (false, s)
  else if curMode s ≠ modeHold || s.leaf.haltedInst.isNone then (false, s)
  else (true, { s with leaf := { s.leaf with stepReq := true } })

/-- The bytes that DBG.CTX shows: the halted instance's state in the layout of R155, else 0. -/
def debugCtx (s : State) (o : Nat) : Word :=
  match s.leaf.dbgHalt, s.leaf.haltedInst.bind (getInst s) with
  | true, some i => BitVec.ofNat 32 (leNat (((ctxBytes i.ctx).drop o).take 4))
  | _, _ => 0

/-! JTAG (R444). -/

/-- What the data register of the selected instruction captures: the identification code (version 2, part 0x9192,
manufacturer 0x5C3), or the status and the read data of the access that DBGACC made before (R445). A boundary cell captures
its pad and BYPASS 0. -/
def tapCapture (s : State) : Nat :=
  if s.tap.ir = 1 then 0x29192B87 else if s.tap.ir = 8 then s.tap.status + s.tap.rdata.toNat * 4 else 0

/-- The instruction takes over the pads. -/
def scanCode (c : Nat) : Bool := c = 3 || c = 4 || c = 5

/-- The TAP selects an instruction. -/
def tapSelect (c : Nat) (s : State) : State :=
  let s := { s with tap := { s.tap with ir := c } }
  let s := putFlag s Reg.DBG_STAT 16 (scanCode c)
  if scanCode c then raise codeScan 3 (setRelok codeScan false s)
  else setRelok codeScan true s

end Sys2Proof.Machine
end

