-- ==== Sys2Proof/Machine/Bus.lean ====
section
/-! DEFINITION. The fabric: reads and writes by a master at an address, what a register shows and what a write to it does
(R4 to R8, R16 to R25, R182, R183, R439, R440). -/

namespace Sys2Proof.Machine

/-! Targets (R21 to R25). -/

/-- The address lies in the image window (R23). -/
def inImage (a : Nat) : Bool := imageBase ≤ a && a < imageBase + 0x400_0000

/-- What an address belongs to. -/
inductive Target where
  | working | points | force | predicted | reg | pst | pnl
  | lmm (n : Nat)
  | unmapped
  deriving DecidableEq, Repr

/-- An offset into the predicted input images: the IX and the IW region (R23). -/
def inPredicted (a : Nat) : Bool :=
  predBase ≤ a && (a < predBase + 0x8000 || (predBase + 0x40_0000 ≤ a && a < predBase + 0x50_0000))

def targetOf (a : Nat) : Target :=
  if inWorking a then .working
  else if inPoints a then .points
  else if inForce a then .force
  else if inPredicted a then .predicted
  else if regBase ≤ a ∧ a < regBase + 0x100_0000 then (if blockAssigned ((a - regBase) / 0x10000) then .reg else .unmapped)
  else if pstBase ≤ a ∧ a < pstBase + pstSize then .pst
  else if pnlBase ≤ a ∧ a < pnlBase + 0x40000 then .pnl
  else if lmmBase ≤ a ∧ a < lmmBase + 0xC0000 then .lmm ((a - lmmBase) / 0x10000)
  else .unmapped

/-- The fault byte of the unit that owns a block of the register range (R5). -/
def unitByte (u : Nat) : Nat := if u ≤ 1 then 1 else if u = 8 then 7 else if u = 0xA then 8 else u

/-- The notice of an access error (R5, R18, R22). -/
def noticeCode (write : Bool) (a : Nat) : Nat :=
  match targetOf a with
  | .working => 0x07FF
  | .points => 0x01FF
  | .force => if write then 0x0801 else 0x08FF
  | .predicted => if write then 0x01FD else 0x01FF
  | .reg => unitByte ((a - regBase) / 0x10000) * 0x100 + 0xFF
  | .pst => 0x41FF
  | .pnl => 0x43FF
  | .lmm n => (0x10 + n) * 0x100 + 0xFF
  | .unmapped => 0x01FE

/-- The target accepts an access of `n` bytes at the address (R4, R18, R199). -/
def accessOk (a n : Nat) : Bool :=
  if targetOf a = .reg then n = 4 && a % 4 = 0
  else if targetOf a = .force then (n = 4 || n = 8) && a % n = 0
  else (n = 1 || n = 2 || n = 4 || n = 8) && a % n = 0

/-! Pairs and latches (R6, R163, R297, R318, R340, R380). -/

/-- The low halves of the register pairs, as rows of the map. (Log 54, DEDUCED.) -/
def pairLows : List (Nat × List (Nat × Nat)) := [
  (0x8, []), (0x18, []), (0x20000, []), (0x20108, [(4, 0x40)]), (0x20110, [(4, 0x40)]), (0x20118, [(4, 0x40)]),
  (0x30018, []), (0x30034, []), (0x3003C, []), (0x40020, []), (0x40028, []), (0x50010, []), (0x50018, []),
  (0x60014, []), (0xA0000, []), (0xA0020, []), (0x7000C, []), (0x70018, []), (0x80010, [])] ++ [
  (0x100024, [(12, 0x10000)]), (0x100080, [(12, 0x10000), (2, 0x20)]), (0x10008C, [(12, 0x10000), (2, 0x20)]),
  (0x200010, []), (0x200018, []), (0x200020, [(2, 0x20)]), (0x200028, [(2, 0x20)]), (0x200060, []), (0x200068, []),
  (0x200074, []), (0x200400, [(16, 0x10)]), (0x20101C, [(12, 0x400)]), (0x30011C, [(12, 0x1000), (16, 0x40)]),
  (0x300124, [(12, 0x1000), (16, 0x40)])] ++ [
  (0x210014, []), (0x10018, []), (0x420010, []), (0x420018, []), (0x420020, []), (0x420028, []), (0x420030, []),
  (0x422000, [(32, 0x80), (16, 0x8)]), (0x43001C, []), (0x500008, []), (0x500018, []), (0x502000, [])]

def isPairLow (o : Nat) : Bool :=
  pairLows.any fun p => decide (p.1 ≤ o) && (matchDims (o - p.1) p.2).isSome

/-- The registers that a read of a register latches for the reading master. -/
def latchedBy (o : Nat) : List Nat :=
  if o = Reg.LEAF_TRAPLOG then [Reg.LEAF_TRAPPC, Reg.LEAF_TRAPITER, Reg.LEAF_TRAPFN]
  else if o = Reg.FLT_HEAD_CODE then [Reg.FLT_HEAD_FNUM, Reg.FLT_HEAD_TIME_LO, Reg.FLT_HEAD_TIME_HI]
  else if o = Reg.TIME_NOW_LO then [Reg.TIME_NOW_HI, Reg.TIME_RAW_LO, Reg.TIME_RAW_HI]
  else if o = Reg.TIME_MAP_RAW_LO 0 || o = Reg.TIME_MAP_RAW_LO 1 then [o + 4, o + 8, o + 0xC, o + 0x10]
  else if 0x300000 ≤ o && o < 0x30C000 && 0x100 ≤ o % 0x1000 && o % 0x40 = 0x18 then [o + 4, o + 8, o + 0xC, o + 0x10]
  else if 0x310000 ≤ o && o < 0x31C000 && o % 0x400 = Reg.AO_CH_RB 0 % 0x400 then
    [Reg.AO_CH_MEAS 0 + (o - Reg.AO_CH_RB 0), Reg.AO_CH_VSUP 0 + (o - Reg.AO_CH_RB 0)]
  else if isPairLow o then [o + 4]
  else []

/-- The key of a master's latch or staged half of a register. -/
def masterKey (m : Master) (o : Nat) : Nat := Master.num m * 2 ^ 24 + o

/-! What registers show. -/

/-- The oldest entry of the fault queue (R380). -/
def headCode (s : State) : Nat :=
  match s.flt.queue with
  | e :: _ => e.code.toNat * 2 ^ 16 + e.cls.val * 2 ^ 14 + b2n e.esc * 2 ^ 13 + 2 ^ 12 + e.master.toNat * 2 ^ 8 + e.rep
  | [] => 0

def headFnum (s : State) : Nat := (s.flt.queue.head?.map (·.fnum)).getD 0
def headTime (s : State) : Nat := (s.flt.queue.head?.map (·.time)).getD 0

/-- A cold page, which the governor alone keeps from cleaning (R224). -/
def coldPage (s : State) : Bool :=
  match s.mm.dirty with
  | (_, r) :: _ => decide (r + fld s Reg.RET_CFG 15 0 * 4000000 ≤ powered s)
  | [] => false

/-- RET.STAT with HOLDOK and the cleaning bits. -/
def retStat (s : State) : Nat :=
  let v := withBits (regNat s Reg.RET_STAT) 31 31 (b2n (decide (dirtyMax s ≤ s.mm.covered)))
  withBits (withBits v 29 29 (b2n s.mm.forced)) 28 28 (b2n (!s.mm.forced && !governed s && coldPage s))

/-- RET.BUDGET. -/
def retBudget (s : State) : Nat := b2n (ahead s) * 2 ^ 31 + min 65535 (s.mm.written / 10 ^ 11)

/-- TASKSTAT or EVTSTAT with the state of the task's instance (R84). (Log 23, DEDUCED.) -/
def taskView (s : State) (t : Nat) : Nat :=
  withBits (regNat s (taskStat t)) 2 0 (match getInst s t with
    | some i => stateCode i.st
    | none => 0)

/-- The valid force entries of input and of output points (R202). -/
def forceCounts (s : State) : Nat := (outputForces s).length * 2 ^ 16 + (inputForces s).length

/-- LANEn registers that show more than they hold (R264, R266). -/
def laneView (s : State) (n r : Nat) : Option Nat :=
  let o := 0x100000 + n * 0x10000
  if r = Reg.LANE_STAT 0 % 0x10000 then
    some (withBits (withBits (regNat s (o + r)) 16 16 (b2n (enabled s))) 8 8 (b2n (servedBy s n ≠ n)))
  else if r = Reg.LANE_TXQ 0 % 0x10000 then
    let f := ((List.range 12).map fun k => if k ≠ n && servedBy s k = n then qPend s k else 0).sum
    some (f * 2 ^ 16 + qPend s n)
  else if r = Reg.LANE_RXQ_STAT 0 0 % 0x10000 then some (withBits (regNat s (o + r)) 12 0 (rxqFill (lane s n) 0))
  else if r = Reg.LANE_RXQ_STAT 0 1 % 0x10000 then some (withBits (regNat s (o + r)) 12 0 (rxqFill (lane s n) 1))
  else none

/-- The value that a register shows where it is not what the register file holds, as a number. -/
def viewNat (m : Master) (o : Nat) (s : State) : Option Nat :=
  let k := Master.num m
  let hi (v : Nat) : Nat := v / 2 ^ 32
  if o < 0x20000 then
    if o = Reg.FLT_STAT then some (withBits (regNat s o) 22 16 s.flt.queue.length)
    else if o = Reg.FLT_HEAD_CODE then some (headCode s)
    else if o = Reg.FLT_HEAD_FNUM then some (headFnum s)
    else if o = Reg.FLT_HEAD_TIME_LO then some (headTime s)
    else if o = Reg.FLT_HEAD_TIME_HI then some (hi (headTime s))
    else none
  else if o < 0x40000 then
    if 0x30100 ≤ o && o < 0x30300 && o % 16 = 4 then some (taskView s ((o - 0x30100) / 16))
    else if 0x30300 ≤ o && o < 0x30400 && o % 16 = 0xC then some (taskView s (32 + (o - 0x30300) / 16))
    else none
  else if o = Reg.MEM_UNDO then some s.mm.undo.length
  else if o = Reg.RET_STAT then some (retStat s)
  else if o = Reg.RET_DIRTY then some (limitBytes s / 2 ^ 20 * 2 ^ 16 + (s.mm.dirty.length + 255) / 256)
  else if o = Reg.RET_WRITTEN_LO then some s.mm.written
  else if o = Reg.RET_WRITTEN_HI then some (hi s.mm.written)
  else if o = Reg.RET_PTIME then some s.mm.ptime
  else if o = Reg.RET_BUDGET then some (retBudget s)
  else if o = Reg.OLC_FSTAT then some (forceCounts s)
  else if 0x100000 ≤ o && o < 0x1C0000 then laneView s ((o - 0x100000) / 0x10000) (o % 0x10000)
  else if o = Reg.TIME_NOW_LO then some (now s)
  else if o = Reg.TIME_NOW_HI then some (hi (now s))
  else if o = Reg.TIME_RAW_LO then some s.raw
  else if o = Reg.TIME_RAW_HI then some (hi s.raw)
  else if o = Reg.EVR_STAT then some (evrStat s k)
  else if o = Reg.EVR_CURSOR_LO then some (cursorOf s k)
  else if o = Reg.EVR_CURSOR_HI then some (hi (cursorOf s k))
  else if o = Reg.EVR_OPTIME_LO then some s.pst.optime
  else if o = Reg.EVR_OPTIME_HI then some (hi s.pst.optime)
  else if o = Reg.EVR_PWRCYC then some s.pst.pwrcyc
  else if 0x421000 ≤ o && o < 0x421200 then
    some (memNat s (evrSlot s (cursorOf s k) + (o - 0x421000)) 4)
  else if 0x520400 ≤ o && o < 0x520560 then some (debugCtx s (o - 0x520400)).toNat
  else none

/-- HOST.ERRCNT.RECOV while the link is up: how often it has recovered since the latest read no command tells, so the value is
free, and never below what it was. (Log 173, DESIGN CHOICE.) -/
def linkRecoveries (s : State) : State :=
  if flag s Reg.HOST_STAT 0 then
    let (f, s) := takeFree s
    let v := fld s Reg.HOST_ERRCNT 31 16
    putFld s Reg.HOST_ERRCNT 31 16 (v + f.toNat % (2 ^ 16 - v))
  else s

/-- Brings up to date what a read of a register shows (R303, R332, R410). -/
def refreshRead (o : Nat) (s : State) : State :=
  if 0x300000 ≤ o && o < 0x30C000 && 0x100 ≤ o % 0x1000 then
    let n := (o - 0x300000) / 0x1000 * 16 + (o % 0x1000 - 0x100) / 0x40
    if 192 ≤ n then s
    else if (o % 0x1000 - 0x100) % 0x40 = 0x2C then dioMeasure n s
    else filterTo n (now s) s
  else if 0x300000 ≤ o && o < 0x30C000 && o % 0x1000 = 0 then bankMeasure ((o - 0x300000) / 0x1000) s
  else if 0x310000 ≤ o && o < 0x31C000 then
    if o % 0x400 = Reg.AO_CH_RB 0 % 0x400 || o % 0x400 = Reg.AO_CH_MEAS 0 % 0x400 || o % 0x400 = Reg.AO_CH_VSUP 0 % 0x400 then
      convert ((o - 0x310000) / 0x400) s
    else s
  else if 0x31C000 ≤ o && o < 0x31C060 && o % 0x10 = 0 then groupMeasure ((o - 0x31C000) / 0x10) s
  else if o = Reg.PNL_STAT then pnlTo s
  else if o = Reg.SYS_VIN then vinMeasure s
  else if o = Reg.HASP_XFERLEFT_LO then passLeft s
  else if o = Reg.HOST_ERRCNT then linkRecoveries s
  else s

/-- The register's value as a master sees it, its latches aside. -/
def regView (m : Master) (o : Nat) (s : State) : Word × State :=
  if o = Reg.RTC_CLK0 then clkRead (some m) false s
  else if o = Reg.RTC_CLK1 then clkRead (some m) true s
  else if o = Reg.RTC_SNAP then rtcSnap m s
  else
    match viewNat m o s with
    | some v => (BitVec.ofNat 32 v, s)
    | none => (getReg s o, s)

/-- Latches registers for a master. -/
def latchAll (m : Master) : List Nat → State → State
  | [], s => s
  | o :: r, s =>
    let (v, s) := regView m o s
    latchAll m r { s with latch := alPut s.latch (masterKey m o) v }

/-- The offset is a register that reads as a value; a register whose every field is WO reads as 0 (R7). -/
def readable (o : Nat) : Bool := (regRow? o).isSome || (0x421000 ≤ o && o < 0x421200) || (0x520400 ≤ o && o < 0x520560)

/-- A read of the register at an offset by a master. What a read has latched, TIME.RAW and the MAP registers among it, a read
of it returns until the latching register is read again: the spec gives the latch no end. (Log 148, DESIGN CHOICE.) -/
def regRead (m : Master) (o : Nat) (s : State) : Option Word × State :=
  if !readable o then (none, s)
  else
    let s := refreshRead o s
    match alGet s.latch (masterKey m o) with
    | some v => (some v, s)
    | none =>
      let (v, s) := regView m o s
      let wo := match regRow? o with
        | some (r, _) => BitVec.ofNat 32 r.wo
        | none => 0
      (some (v &&& ~~~wo), latchAll m (latchedBy o) s)

/-! Writes to registers. -/

/-- A module in JOINING or SHADOW refuses these writes of its own M1 and M3 (R183). (Log 10, DEDUCED.) -/
def standbyBars (m : Master) (s : State) : Bool := (m = .m1 || m = .m3) && (haspState s = 3 || haspState s = 4)

/-- A refusal that raises STBY_WRITE in place of the notice. (Log 71, DEDUCED.) -/
def standbyRefusal (m : Master) (s : State) : Resp × State := (.raised, raiseBy m 0x060C 0 s)

/-- A write to a register of type RWT (R16, R36, R40). -/
def settingWrite (m : Master) (o : Nat) (v : Word) (s : State) : Resp × State :=
  if standbyBars m s then standbyRefusal m s
  else if m = .m4 then
    if s.boot.running && stageOk m o v.toNat s then (.ok, putSetting s o (if o = Reg.OLC_CHG then 0 else v)) else (.refused, s)
  else
    match stageWrite m o v s with
    | (.ok, s) => (.ok, s)
    | (.refused, s) => (.refused, s)
    | (.overflow, s) => (.raised, raiseBy m 0x0202 0 s)

/-- The low halves of the RW pairs, whose writes are staged (R6). -/
def rwPairLow (o : Nat) : Bool :=
  o = Reg.OLC_DBASE_LO || o = Reg.TIME_SETTIME_LO || o = Reg.RTC_ALM_LO || o = Reg.EVR_CURSOR_LO || o = Reg.HOST_WINB_LO ||
    (0x200400 ≤ o && o < 0x200500 && o % 16 = 0)

/-- A pair of type RW takes its value. -/
def applyPair (m : Master) (o lo hi : Nat) (s : State) : State :=
  let v := lo + hi * 2 ^ 32
  if o = Reg.EVR_CURSOR_LO then setCursor (Master.num m) v s
  else
    let s := putPair s o v
    if o = Reg.OLC_DBASE_LO then unverify (putFld s Reg.OLC_STAT 2 0 0)
    else if 0x200400 ≤ o && o < 0x200500 then
      let i := (o - 0x200400) / 16
      if tevEn s i && decide (tevAt s i ≤ now s) then timeEvent i s else s
    else s

/-- A write of the high half of an RW pair at `o` applies both halves (R6). -/
def writeHigh (m : Master) (o hi : Nat) (s : State) : Resp × State :=
  let cur := if o = Reg.EVR_CURSOR_LO then cursorOf s (Master.num m) % 2 ^ 32 else regNat s o
  let lo := ((alGet s.low (masterKey m o)).map (·.toNat)).getD cur
  if o = Reg.HOST_WINB_LO && !winbOk (lo + hi * 2 ^ 32) then (.refused, s)
  else (.ok, applyPair m o lo hi { s with low := alDel s.low (masterKey m o) })

/-- The value that a plain register takes from a write, field by field (R7, R8). -/
def fieldWrite (r : RegRow) (old v : Nat) : Nat :=
  let keep := old &&& (0xFFFFFFFF - (r.rw ||| r.w1c ||| r.w1s ||| r.rwo))
  keep ||| (v &&& (r.rw ||| r.rwo)) ||| (old &&& r.w1c &&& (0xFFFFFFFF - v)) ||| ((old ||| v) &&& r.w1s)

/-- A register with a CLEAR bit and nothing else. -/
def clearWrite (v : Nat) (f : State → State) (s : State) : Resp × State := (.ok, if v % 2 = 1 then f s else s)

/-- SPEC.CTRCLR (R139). -/
def specCtrClr (s : State) : State :=
  let s := putNat (putNat s Reg.SPEC_BUFPEAK 0) Reg.SPEC_DISCARDS 0
  let s := putPair (putPair s Reg.SPEC_RETIRED_LO 0) Reg.SPEC_REPLAYED_LO 0
  forAll (List.range 6) (fun s c => putNat s (Reg.SPEC_CAUSE c) 0) s

/-- MEM.CTRCLR (R237). -/
def memCtrClr (s : State) : State :=
  putNat (putNat (putNat s Reg.MEM_CECNT 0) Reg.MEM_UECNT 0) Reg.MEM_UNDOPEAK 0

/-- LANEn.CTRCLR (R266): the counters, the FIFO peaks and the filter hits. -/
def laneCtrClr (n : Nat) (s : State) : State :=
  let s := putNat (putNat s (Reg.LANE_RXCNT n) 0) (Reg.LANE_TXCNT n) 0
  let s := putNat (putNat s (Reg.LANE_REJCNT n) 0) (Reg.LANE_DROPCNT n) 0
  let s := forAll [0, 1] (fun s q => putFld s (Reg.LANE_RXQ_STAT n q) 28 16 0) s
  forAll (List.range 128) (fun s f => putNat s (Reg.LANE_ACF_HITS n f) 0) s

/-- MEM.INJECT; false is a refusal (R237). -/
def injectWrite (m : Master) (v : Nat) (s : State) : Bool × State :=
  if bits v 31 16 ≠ 0x4D45 then (false, s)
  else if bits v 7 7 = 1 then
    (true, { s with mm := { s.mm with inject := alPut s.mm.inject (Master.num m) (BitVec.ofNat 32 v) } })
  else (true, s)

/-- A write of OLC.FCLR, which R182 and R183 treat as a write to the force table (R200). -/
def forceClearReg (m : Master) (v : Nat) (s : State) : Resp × State :=
  if standbyBars m s then standbyRefusal m s
  else match forceClearWrite v s with
    | (true, s) => (.ok, when ((m = .m1 || m = .m3) && haspState s = 2) (sendRec "WRITE") s)
    | (false, s) => (.refused, s)

/-- LANEn.CMD; false is a refusal (R262). -/
def laneCommand (n v : Nat) (s : State) : Bool × State :=
  if bits v 31 16 ≠ 0x4C4E then (false, s)
  else match bits v 1 0 with
    | 0 => (true, s)
    | 1 => laneRecover n s
    | _ => (false, s)

/-- OLC.DLEN (R203, R206). -/
def dlenWrite (v : Nat) (s : State) : Bool × State :=
  if v % 8 = 0 && 64 ≤ v && v ≤ 134217728 then (true, unverify (putFld (putNat s Reg.OLC_DLEN v) Reg.OLC_STAT 2 0 0)) else (false, s)

/-- A command written to TXN.SLOT[m].CTL (R38, R39, R183). -/
def slotWrite (m : Master) (slot v : Nat) (s : State) : Resp × State :=
  if standbyBars m s then standbyRefusal m s
  else
    match slotCommand slot (v % 4) s with
    | (true, s) => (.ok, s)
    | (false, s) => (.raised, raiseBy m 0x0203 0 s)

/-- A response from an operation that answers a Bool. -/
def respond (r : Bool × State) : Resp × State := (respOf r.1, r.2)

/-- Registers of the control block below 0x10_0000 whose write is more than a change of their fields. -/
def lowWrite (m : Master) (o v : Nat) (s : State) : Option (Resp × State) :=
  if o = Reg.SYS_RESET then some (respond (sysReset m v s))
  else if o = Reg.FLT_CMD then some (respond (fltCommand v s))
  else if 0x20100 ≤ o && o < 0x20200 && o % 0x40 = 0 then some (slotWrite m ((o - 0x20100) / 0x40) v s)
  else if o = Reg.FRM_MODE then some (respond (modeRequest v s))
  else if o = Reg.FRM_CTRCLR then some (clearWrite v frmCtrClr s)
  else if o = Reg.SPEC_CTRCLR then some (clearWrite v specCtrClr s)
  else if o = Reg.LEAF_CMD then some (respond (leafCommand v s))
  else if o = Reg.LEAF_CTRCLR then some (clearWrite v leafCtrClr s)
  else if o = Reg.HASP_CMD then some (respond (haspCommand false v s))
  else if o = Reg.HASP_CTRCLR then some (clearWrite v haspCtrClr s)
  else if o = Reg.MEM_INJECT then some (respond (injectWrite m v s))
  else if o = Reg.MEM_CTRCLR then some (clearWrite v memCtrClr s)
  else if o = Reg.RET_CTRCLR then some (clearWrite v (fun s => putNat s Reg.RET_STALLCNT 0) s)
  else if o = Reg.OLC_DLEN then some (respond (dlenWrite v s))
  else if o = Reg.OLC_CMD then some (respond (olcCommand v s))
  else if o = Reg.OLC_FCLR then some (forceClearReg m v s)
  else none

/-- TIME.TEV[i].CFG (R296). -/
def tevCfgWrite (i v : Nat) (s : State) : State :=
  let s := putFlag s (Reg.TIME_TEV_CFG i) 31 (bits v 31 31 = 1)
  if tevEn s i && decide (tevAt s i ≤ now s) then timeEvent i s else s

/-- DIO.CH[n].STAT (R312). -/
def dioStatWrite (n v : Nat) (s : State) : State := refreshDio (putNat s (dioStat n) (regNat s (dioStat n) &&& (0xFFFFFFFF - (v &&& 0x4200)))) n

/-- Registers from 0x10_0000 on whose write is more than a change of their fields. -/
def highWrite (m : Master) (o v : Nat) (s : State) : Option (Resp × State) :=
  if 0x100000 ≤ o && o < 0x1C0000 then
    let n := (o - 0x100000) / 0x10000
    if o = Reg.LANE_CMD n then some (respond (laneCommand n v s))
    else if o = Reg.LANE_CTRCLR n then some (clearWrite v (laneCtrClr n) s)
    else none
  else if o = Reg.TIME_CMD then some (respond (timeCommand v s))
  else if o = Reg.TIME_CTRCLR then some (clearWrite v timeCtrClr s)
  else if 0x200400 ≤ o && o < 0x200500 && o % 16 = 0xC then some (.ok, tevCfgWrite ((o - 0x200400) / 16) v s)
  else if o = Reg.RTC_CTL then some (respond (rtcCtl m v s))
  else if o = Reg.RTC_STAT then some (.ok, rtcStatWrite v s)
  else if o = Reg.RTC_CLK0 then some (respond (rtcClkWrite false v s))
  else if o = Reg.RTC_CLK1 then some (respond (rtcClkWrite true v s))
  else if 0x300100 ≤ o && o < 0x30C000 && 0x100 ≤ o % 0x1000 && o % 0x1000 < 0x500 && o % 0x40 = Reg.DIO_CH_STAT 0 0 % 0x40 then
    some (.ok, dioStatWrite ((o - 0x300000) / 0x1000 * 16 + (o % 0x1000 - 0x100) / 0x40) v s)
  else if 0x400000 ≤ o && o < 0x410000 then some (respond (wardWrite m o v s))
  else if o = Reg.PST_P1LOCK then some (respond (pageLock v s))
  else if o = Reg.PST_RECCMD then some (recCommand m v s)
  else if o = Reg.PST_CTRCLR then some (clearWrite v (fun s => putNat s Reg.PST_CECNT 0) s)
  else if o = Reg.EVR_CMD then some (respond (evrCommand m v s))
  else if o = Reg.EVR_TRIG then some (.ok, fireSource (v % 32) (Master.num m) s)
  else if o = Reg.PNL_CMD then some (pnlCommand m v s)
  else if o = Reg.BOOT_PGCMD then some (respond (flashCommand v s))
  else if o = Reg.HOST_DOORBELL then some (.ok, ringBells v s)
  else if o = Reg.HOST_SIGNAL then some (.ok, raiseSignals v s)
  else if o = Reg.HOST_RSTREQ then some (respond (hostResetReq v s))
  else if 0x501000 ≤ o && o < 0x501400 && o % 16 = 0xC then some (.ok, sendPending (putNat s o (v % 2)) ((o - 0x501000) / 16))
  else if o = Reg.DBG_CTL then some (respond (debugCommand v s))
  else none

/-- A refused write to an offset of WARD that no command takes breaks the disable sequence too (R369). -/
def wardTouched (o : Nat) (s : State) : State := if 0x400000 ≤ o && o < 0x410000 then breakKey s else s

/-- A write of `v` to the register at an offset by a master: the register's own effect, a staged setting, or a change field
by field. -/
def regWrite (m : Master) (o : Nat) (v : Word) (s : State) : Resp × State :=
  match regRow? o with
  | none => (.refused, wardTouched o s)
  | some (r, _) =>
    let n := v.toNat
    if r.rwt ≠ 0 then settingWrite m o (v &&& BitVec.ofNat 32 r.rwt) s
    else if 0x20000 ≤ o && o < 0x20200 && standbyBars m s then standbyRefusal m s
    else if r.rw = 0 ∧ r.wo = 0 ∧ r.w1c = 0 ∧ r.w1s = 0 ∧ r.rwo = 0 then (.refused, wardTouched o s)
    else if rwPairLow o then (.ok, { s with low := alPut s.low (masterKey m o) (BitVec.ofNat 32 (n &&& r.rw)) })
    else if 4 ≤ o && rwPairLow (o - 4) then writeHigh m (o - 4) (n &&& r.rw) s
    else
      match (if o < 0x100000 then lowWrite m o n s else highWrite m o n s) with
      | some x => x
      | none =>
        if r.rwo ≠ 0 && s.once.contains o then (.refused, s)
        else
          let s := if r.rwo ≠ 0 then { s with once := o :: s.once } else s
          (.ok, putNat s o (fieldWrite r (regNat s o) n))

/-! Accesses by a master. -/

/-- A read that completes with an error response. -/
def readError (m : Master) (a : Nat) (s : State) : Option Nat × State := (none, accessNotice m (noticeCode false a) s)

/-- A read of `n` bytes at an address by a master; none is an error response, with its fault raised. -/
def busRead (m : Master) (a n : Nat) (s : State) : Option Nat × State :=
  if !accessOk a n then readError m a s
  else
    match targetOf a with
    | .working | .points | .force => memLoad (masNib m) a n s
    | .predicted => (some (memNat s a n), s)
    | .reg =>
      match regRead m (a - regBase) s with
      | (some v, s) => (some v.toNat, s)
      | (none, s) => readError m a s
    | .pst =>
      match pstRead (masNib m) (a - pstBase) n s with
      | (some v, s) => (some v, s)
      | (none, s) => readError m a s
    | .pnl => if a - pnlBase < pnlBytes then (some (memNat s a n), pnlTo s) else readError m a s
    | .lmm _ => if (a - lmmBase) % 0x10000 < 0x6C00 then (some (memNat s a n), s) else readError m a s
    | .unmapped => readError m a s

/-- A write that completes with an error response. -/
def writeError (m : Master) (a : Nat) (s : State) : Bool × State := (false, accessNotice m (noticeCode true a) s)

/-- The standby gets the primary's successful writes of M1 and M3 that tasks can see (R182). -/
def forwardWrite (m : Master) (a : Nat) (r : Bool × State) : Bool × State :=
  if r.1 && (m = .m1 || m = .m3) && haspState r.2 = 2 && (inWorking a || inMarkers a || inForce a) then
    (true, sendRec "WRITE" r.2)
  else r

/-- A write of bytes at an address by a master; false is an error response, with its fault raised. -/
def busWrite (m : Master) (a : Nat) (b : List Byte) (s : State) : Bool × State :=
  let t := targetOf a
  if (t = .working || inImage a) && standbyBars m s then (false, (standbyRefusal m s).2)
  else if !accessOk a b.length then writeError m a s
  else
    match t with
    | .working | .points => forwardWrite m a (memStore m a b s)
    | .force => forwardWrite m a (forceWrite m a b s)
    | .predicted => writeError m a s
    | .reg =>
      match regWrite m (a - regBase) (BitVec.ofNat 32 (leNat b)) s with
      | (.ok, s) => (true, s)
      | (.raised, s) => (false, s)
      | (.refused, s) => writeError m a s
    | .pst =>
      match pstWrite m (a - pstBase) b s with
      | (.ok, s) => (true, s)
      | (.raised, s) => (false, s)
      | (.refused, s) => writeError m a s
    | .pnl => if a - pnlBase < pnlBytes then (true, putBytes (pnlTo s) a b) else writeError m a s
    | .lmm _ => if (a - lmmBase) % 0x10000 < 0x4800 then (true, putBytes s a b) else writeError m a s
    | .unmapped => writeError m a s

/-- A register write that a command makes: the answer stands in the state. (Log 52, DEDUCED.) -/
def writeReg (m : Master) (o : Nat) (v : Word) (s : State) : State :=
  let (ok, s) := busWrite m (regBase + o) (leBytes 4 v.toNat) s
  { s with answer := if ok then .done else .error }

/-- A register read that a command makes. -/
def readReg (m : Master) (o : Nat) (s : State) : State :=
  let (r, s) := busRead m (regBase + o) 4 s
  { s with answer := match r with
      | some v => .data v
      | none => .error }

/-! Bursts and the host's windows (R18, R439, R440). -/

/-- The size of the next piece of a burst of `n` bytes at an address: the largest that is naturally aligned. -/
def pieceSize (a n : Nat) : Nat :=
  if a % 8 = 0 ∧ 8 ≤ n then 8 else if a % 4 = 0 ∧ 4 ≤ n then 4 else if a % 2 = 0 ∧ 2 ≤ n then 2 else 1

/-- The pieces of a burst, as addresses and lengths; `fuel` bounds their number. -/
def pieces : Nat → Nat → Nat → List (Nat × Nat)
  | 0, _, _ => []
  | f + 1, a, n => if n = 0 then [] else (a, pieceSize a n) :: pieces f (a + pieceSize a n) (n - pieceSize a n)

/-- The accesses that a request makes: single 32-bit ones to unit registers, one up to 8 bytes, or a split burst. (Log 55, DEDUCED.) -/
def splitRequest (a n : Nat) : List (Nat × Nat) :=
  if targetOf a = .reg then (if a % 4 = 0 ∧ n % 4 = 0 then (List.range (n / 4)).map fun i => (a + 4 * i, 4) else [(a, n)])
  else if n ≤ 8 then [(a, n)]
  else pieces n a n

/-- The address of a host request, if a window takes it. -/
def windowAddr (s : State) (q : HostReq) : Option Nat :=
  if q.bar2 then
    if q.off < 0x1000_0000 then some (pair s Reg.HOST_WINB_LO + q.off) else none
  else if q.off < 0x100_0000 then some (regBase + q.off)
  else if q.off < 0x400_0000 then some (imageBase + (q.off - 0x100_0000))
  else none

/-- Reads the pieces of a request; the Bool says that every one succeeded. -/
def readPieces : List (Nat × Nat) → State → Bool × List Byte × State
  | [], s => (true, [], s)
  | (a, n) :: r, s =>
    let (v, s) := busRead .m1 a n s
    let (ok, d, s) := readPieces r (settleFaults s)
    (v.isSome && ok, leBytes n (v.getD 0) ++ d, s)

/-- A burst that began in the parameter store runs past its last byte (R385). -/
def pastArray (base a : Nat) : Bool := pstBase ≤ base && base < a && a = pstBase + pstSize

/-- Writes the pieces of a request; those behind the last byte of the parameter store are discarded. -/
def writePieces (base : Nat) (d : List Byte) : List (Nat × Nat) → State → Bool × State
  | [], s => (true, s)
  | (a, n) :: r, s =>
    if pastArray base a then (false, settleFaults (raiseBy .m1 0x4105 0 s)) else
    let (ok, s) := busWrite .m1 a ((d.drop (a - base)).take n) s
    let (ok', s) := writePieces base d r (settleFaults s)
    (ok && ok', s)

/-- An error response to a host request. -/
def countErr (ok : Bool) (s : State) : State := if ok then s else bump s Reg.HOST_ERRCNT 15 0

/-- A host request while the link is up. -/
def hostAccess (q : HostReq) (s : State) : State :=
  match q.cfg with
  | some (x, b) => hostConfig x b s
  | none =>
    match windowAddr s q with
    | none => s
    | some a =>
      if q.write then
        let (ok, s) := writePieces a q.data (splitRequest a q.data.length) s
        { countErr ok s with answer := if ok then .done else .error }
      else
        let (ok, d, s) := readPieces (splitRequest a q.len) s
        let ca := !ok && flag s Reg.HOST_CFG 0
        let s := countErr ok s
        { s with answer := if ok then .data (leNat d) else .error,
                 host := { s.host with cpl := some (!ca, if ok then d else if ca then [] else List.replicate q.len 0) } }

/-- The host sends requests only over a link that is up. -/
def hostAct (q : HostReq) (s : State) : State := if flag s Reg.HOST_STAT 0 then hostAccess q s else s

/-! DBGACC (R445). -/

/-- Update-DR of DBGACC: one aligned 32-bit access by M3. -/
def debugAccess (dr : BitVec 80) (s : State) : State :=
  let op := (dr.extractLsb' 0 2).toNat
  let a := (dr.extractLsb' 2 40).toNat
  let d := (dr.extractLsb' 42 32).toNat
  let fin (ok : Bool) (v : Nat) (s : State) : State :=
    { s with tap := { s.tap with status := if ok then 0 else 2, rdata := BitVec.ofNat 32 v } }
  if op = 1 then
    let (v, s) := busRead .m3 a 4 s
    fin v.isSome (v.getD 0) s
  else if op = 2 then
    let (ok, s) := busWrite .m3 a (leBytes 4 d) s
    fin ok 0 s
  else s

end Sys2Proof.Machine
end

