-- ==== Sys2Proof/Machine/Boot.lean ====
section
/-! DEFINITION. The image: its checks, the choice of the other slot, the settings and the loads of a start, and the end of BOOT
(R422 to R434, R469). -/

namespace Sys2Proof.Machine

/-! The image (R423 to R426). -/

/-- A section of the chosen slot. -/
structure Section where
  kind : Nat
  off : Nat
  len : Nat
  crc : Nat
  deriving DecidableEq, Repr

def sectionAt (s : State) (b i : Nat) : Section :=
  let n (o : Nat) : Nat := slotNat s b (0x40 + 16 * i + o) 4
  { kind := n 0, off := n 4, len := n 8, crc := n 12 }

def sections (s : State) (b : Nat) : List Section := (List.range (min 11 (slotNat s b 0x1C 4))).map (sectionAt s b)

/-- The bytes of a section, from the flash. -/
def sectionBytes (s : State) (b : Nat) (x : Section) : List Byte := flashBytes s (slotBase s b + x.off) x.len

def imageLen (s : State) (b : Nat) : Nat := slotNat s b 0x18 4

/-- The index of the first section that fails a test. -/
def firstBad (l : List Section) (p : Nat → Section → Bool) : Option Nat :=
  ((List.range l.length).filter fun i =>
    match l[i]? with
    | some x => !p i x
    | none => false).head?

/-- The sections before the `i`-th do not overlap `x`. -/
def apart (l : List Section) (i : Nat) (x : Section) : Bool :=
  (l.take i).all fun y => y.len = 0 || x.len = 0 || x.off + x.len ≤ y.off || y.off + y.len ≤ x.off

/-- The little-endian word `i` of bytes. -/
def wordOf (d : List Byte) (i : Nat) : Nat := leNat ((d.drop (4 * i)).take 4)

/-- The records of a SETTINGS section: offset words and values. -/
def settingsOf (d : List Byte) : List (Nat × Nat) := (List.range (d.length / 8)).map fun i => (wordOf d (2 * i), wordOf d (2 * i + 1))

/-- The I/O map entries of an IOMAP section. -/
def iomapOf (d : List Byte) : List IoEntry := (List.range (d.length / 24)).map fun i => entryOf ((d.drop (24 * i)).take 24)

/-- Point keys rise. -/
def keysRise : List IoEntry → Bool
  | a :: b :: r => decide (a.key < b.key) && keysRise (b :: r)
  | _ => true

/-- The number of words of the CODE section. -/
def codeWords (l : List Section) : Nat := ((l.find? fun x => x.kind = 2).map fun x => x.len / 4).getD 0

/-- The contents of a section keep R424 to R426. -/
def contentOk (l : List Section) (x : Section) (d : List Byte) : Bool :=
  match x.kind with
  | 1 => x.len % 8 = 0 && (settingsOf d).all fun r => decide (r.1 < 0x100_0000) && r.1 % 4 = 0
  | 2 => x.len % 4 = 0 && x.len ≤ 2 ^ 26
  | 3 => x.len = 192 && (List.range 48).all fun t =>
      let w := wordOf d t
      if bits w 31 31 = 1 then bits w 30 24 = 0 else decide (w < codeWords l)
  | 4 => x.len % 24 = 0 && (iomapOf d).all entryOk && keysRise (iomapOf d) && mapConsistent (iomapOf d)
  | 5 =>
    let n := wordOf d 2
    decide (16 ≤ x.len) && x.len = 16 + (n + 7) / 8 * 8 && wordOf d 3 = 0 && (d.drop (16 + n)).all (· = 0) &&
      dataRange (leNat (d.take 8)) n
  | _ => false

/-- The kinds occur as R424 says. -/
def kindsOk (l : List Section) : Bool :=
  [1, 2, 3, 4].all (fun k => (l.filter fun x => x.kind = k).length = 1) && l.all fun x => 1 ≤ x.kind && x.kind ≤ 5

/-- Why a slot fails R426, as BOOT.ERR shows it: the cause and the section. (Log 118, DEDUCED.) -/
def slotFault (s : State) (b : Nat) : Option (Nat × Nat) :=
  let l := sections s b
  let at' (c : Nat) (o : Option Nat) : Option (Nat × Nat) := o.map fun i => (c, i)
  if !flashFound s then some (1, 0)
  else if !headerOk s b then some (2, 0)
  else
    match at' 6 (firstBad l fun _ x => x.off + x.len ≤ imageLen s b) with
    | some r => some r
    | none =>
      match at' 3 (firstBad l fun i x => apart l i x && x.crc = (crc32c (sectionBytes s b x)).toNat) with
      | some r => some r
      | none =>
        if !kindsOk l then some (3, 0)
        else if sha256 (flashBytes s (slotBase s b + 0x100) (imageLen s b - 0x100)) ≠ flashBytes s (slotBase s b + 0x20) 32 then
          some (4, 0)
        else at' 5 (firstBad l fun _ x => contentOk l x (sectionBytes s b x))

/-! The loads (R431). -/

/-- A write by M4 of a start's data; the undo log does not cover it. (Log 53, DEDUCED.) -/
def bootStore (a : Nat) (b : List Byte) (s : State) : State := masterStore .m4 a b (watchWrite .m4 a b [] s)

/-- The task table that a TASKS section names. -/
def tasksOf (d : List Byte) : List (Nat × Nat) :=
  ((List.range 48).map fun t => (t, wordOf d t)).filter fun p => bits p.2 31 31 = 0

/-- Loads one section; sections come in their order. -/
def loadSection (d : List Byte) (kind : Nat) (s : State) : State :=
  match kind with
  | 2 => bootStore (codeBase s) d s
  | 3 => { s with frm := { s.frm with tasks := tasksOf d, noEntry := [] } }
  | 4 => { s with frm := { s.frm with iomap := iomapOf d } }
  | 5 => bootStore (leNat (d.take 8)) ((d.drop 16).take (wordOf d 2)) s
  | _ => s

/-- Clears the state words of a lane's queue, and its FIFOs are empty (R431). -/
def emptyLane (s : State) (n : Nat) : State :=
  let s := forAll (List.range 64) (fun s i => if qState s n i = 0 then s else putQState n i 0 s) s
  let l := lane s n
  putLane n { l with rd0 := l.arr0, rd1 := l.arr1 } s

/-- The image copy's section bytes. -/
def copyBytes (s : State) (x : Section) : List Byte := memBytes s (imageCopy + x.off) x.len

/-- What a COLD start loads and clears. -/
def coldLoads (s : State) : State :=
  let b := s.boot.slot
  let s := forAll ((sections s b).filter fun x => x.kind = 2) (fun s x => loadSection (copyBytes s x) x.kind s) s
  let s := forAll ((sections s b).filter fun x => x.kind ≠ 2) (fun s x => loadSection (copyBytes s x) x.kind s) s
  let s := unitStore forceBase (List.replicate 0x8000 0) s
  let s := forAll [0, 1] (fun s k => unitStore (bankAt (ckBase s) k + 0xC) (leBytes 4 0) s) s
  let s := refreshCkstat { s with mm := { s.mm with undo := [] }, leaf := { s.leaf with oldBase := none } }
  let s := forAll (List.range 12) emptyLane s
  let s := putNat (putPair s Reg.OLC_PROGID_LO (slotNat s b 0x10 8)) Reg.OLC_INSTCNT 0
  let s := putNat s Reg.BOOT_LASTSEQ (slotNat s b 8 4)
  let s := { s with dio := (s.dio.map fun p => (p.1, { p.2 with lastRun := false })).filter fun p => p.2 ≠ {},
                    ao := (s.ao.map fun p => (p.1, { p.2 with lastRun := 0 })).filter fun p => p.2 ≠ {} }
  let auto := slotNat s b 0xC 4 % 2 = 1 && !s.boot.refused && !s.flt.toStop
  { s with frm := { s.frm with unforced := [], last := [], runImg := [], marks := [],
                               lastFail := true, resumeMode := if auto then modeRun else modeStop } }

/-! The start (R430 to R433, R469). -/

/-- The SETTINGS records of the image. -/
def imageSettings (s : State) : List (Nat × Nat) :=
  ((sections s s.boot.slot).filter fun x => x.kind = 1).flatMap fun x => settingsOf (copyBytes s x)

/-- M4 writes the SETTINGS records in their order. -/
def applySettings (s : State) : State :=
  forAll (imageSettings s) (fun s r =>
    let (ok, s) := busWrite .m4 (regBase + r.1) (leBytes 4 r.2) s
    if ok then s else raise 0x5105 1 { s with boot := { s.boot with refused := true } }) s

/-- The sequence numbers in the intact entries of the slots: BEGSEQ in a slot's state, APPSEQ in its applied commit. -/
def slotSeqs (d : List Nat) (s : State) : List Nat :=
  ([0, 1, 2, 3].filter fun m => !d.contains m).map (fun m => pair s (Reg.TXN_SLOT_BEGSEQ_LO m)) ++
    ([0, 1, 2, 3].filter fun m => !d.contains (4 + m)).map fun m => pair s (Reg.TXN_SLOT_APPSEQ_LO m)

/-- TXN checks its journal (R469). (Log 119, DEDUCED.) -/
def journalCheck (s : State) : State :=
  let d := s.txn.damaged
  if d.isEmpty then s
  else
    let bad (o : Nat) : Bool := d.contains (12 + o)
    let t : TxnState := { s.txn with jregs := s.txn.jregs.filter fun (p : Nat × Word) => !bad p.1,
                                     lastSeq := s.txn.lastSeq.filter fun (p : Nat × Nat) => !bad p.1, damaged := [] }
    let s := { s with txn := t }
    let s := if d.contains 8 then putPair s Reg.TXN_SEQ_LO ((t.lastSeq.map (·.2) ++ slotSeqs d s).foldl max 0) else s
    let s := if d.contains 9 && s.olc.installing.isSome then
        { s with boot := { s.boot with instLost := true } }
      else s
    raise 0x0210 2 s

/-- The mode of R430 for a module that arbitration has not made a standby. -/
def isCold (s : State) : Bool :=
  let b := s.boot.slot
  flag s Reg.BOOT_CFG 0 || s.boot.forceCold || !s.boot.retained || (latestBank s (restoreBase s)).isNone ||
    (bits (slotNat s b 0xC 4) 1 1 = 1 && slotNat s b 8 4 ≠ regNat s Reg.BOOT_LASTSEQ)

/-- A PENDING online change takes its delta's values back in a WARM start, and is refused in another (R208, R211). (Log 76, DEDUCED.) -/
def olcStart (warm : Bool) (s : State) : State :=
  if warm then
    let s := if s.olc.installing.isSome then putFld s Reg.OLC_STAT 6 4 3 else s
    match s.olc.kept, goInFlight s with
    | some (b, n, t), true =>
      putFld (putFld (putNat (putPair s Reg.OLC_DBASE_LO b) Reg.OLC_DLEN n) Reg.OLC_ITIME 23 0 t) Reg.OLC_STAT 2 0 2
    | _, _ => s
  else
    match s.olc.installing with
    | some (m, _, _) => refuseChange m resTimeout 0 s
    | none => s

/-- SETTINGS, the mode and the loads; an image default takes effect at once (R36), and EVR checks its ring at every start
(R398). (Log 21, DEDUCED.) -/
def decideMode (s : State) : State :=
  let s1 := applySettings (putFld s Reg.BOOT_STAT 3 0 3)
  let s2 := journalOver s1
  let cold := isCold s2
  let ws := (imageSettings s).map (·.1) ++ (if cold then [] else s.txn.jregs.map (·.1))
  let s' := olcStart (!cold) (if cold then s1 else refreshCkstat s2)
  let s := unitsTake [fld s' Reg.FRM_CFG 7 0 * 62500] ws s s'
  let s := putFld s Reg.BOOT_STAT 6 5 (if cold then 0 else 1)
  let s := if cold then coldLoads s else s
  let s := if cold then putFld s Reg.RET_STAT 2 0 (if fld s Reg.RET_STAT 2 0 = 3 then 3 else 0)
    else if s.boot.afterPor then s else putFld s Reg.RET_STAT 2 0 1
  evrStart { s with boot := { s.boot with modeDecided := true } }

/-- A start goes on once its image, and after a POR its memory, stand ready, unless a fault holds it. -/
def applyStart (s : State) : State :=
  let b := s.boot
  if !b.running || !b.imageOk || b.waitMem || b.waitRestore || b.modeDecided || s.flt.held.isSome then s
  else
    let s := journalCheck s
    if s.flt.held.isSome then s else decideMode s

/-- The chosen image is in the image copy; STATE shows RESTORE while the start still waits for its memory. (Log 172, DEDUCED.) -/
def imageTaken (b : Nat) (s : State) : State :=
  let s := putFld (masterStore .m4 imageCopy (flashBytes s (slotBase s b) (imageLen s b)) s) Reg.BOOT_STAT 3 0 1
  applyStart { s with boot := { s.boot with imageOk := true } }

/-- The image of the chosen slot has been read (R427). -/
def imageLoaded (s : State) : State :=
  if !s.boot.running || s.boot.imageOk || bootState s ≠ 2 || s.flt.held.isSome then s
  else
    let b := s.boot.slot
    match slotFault s b with
    | none => imageTaken b s
    | some (c, i) =>
      let s := putNat s Reg.BOOT_ERR (c * 2 ^ 28 + b * 2 ^ 27 + i * 2 ^ 23)
      let first := !flag s Reg.BOOT_STAT 8
      let s := raise 0x5102 0 (putFlag s Reg.BOOT_STAT 8 true)
      let o := 1 - b
      if first && headerOk s o then
        { putFlag s Reg.BOOT_STAT 4 (o = 1) with boot := { s.boot with slot := o } }
      else noImage s

/-- BOOT ends (R434). -/
def endOfBoot (s : State) : State :=
  let s := applyStart s
  if !s.boot.running || !s.boot.modeDecided || s.flt.held.isSome then s
  else
    let s := { s with boot := { s.boot with running := false }, ward := { s.ward with counting := true } }
    let s := putFld s Reg.BOOT_STAT 3 0 4
    let s := if wardState s = 0 then s else wardRefresh (enterWindow 0 s)
    if fld s Reg.HASP_CFG 1 0 = 0 then
      let s := if s.pads.boltIn then raise 0x060A 0 s else s
      preTick (if mayBolt s then setBolt true s else s)
    else
      let s := { s with hasp := { s.hasp with side := flag s Reg.HASP_CFG 4 } }
      let s := setHaspState 1 s
      if s.pads.boltIn then goJoining s else s

end Sys2Proof.Machine
end

