-- ==== Sys2Proof/Machine/Operands.lean ====
section
/-! DEFINITION. What an instruction of a task is made of: its accesses as data, the operand forms of R92 to R96, the memory
forms of R106, and the execution of an instruction by the instance that runs (R87 to R119, R133, R135, R447). -/

namespace Sys2Proof.Machine

/-! Traps (R117). -/

def trapIllegal : Nat := 0x80
def trapClass : Nat := 0x81
def trapPointRange : Nat := 0x82
def trapInputWrite : Nat := 0x83
def trapLsOver : Nat := 0x84
def trapLsUnder : Nat := 0x85
def trapRsOver : Nat := 0x86
def trapRsUnder : Nat := 0x87
def trapDivzero : Nat := 0x88
def trapAccess : Nat := 0x89
def trapImageAddr : Nat := 0x8A
def trapStoreTarget : Nat := 0x8B
def trapCodeRange : Nat := 0x8C
def trapRepeat : Nat := 0x8D
def trapEmitFull : Nat := 0x8E

/-- What an instruction does, one access after another. A point is named by its key; a fence answers the trap that it
raises, if any. -/
inductive Act where
  /-- The instruction has completed, with this context. -/
  | done (c : Ctx)
  /-- The trap of a cause: no effect of the instruction stands (R118). -/
  | trap (cause : Nat)
  /-- END. -/
  | ended
  /-- SEG, with the context that follows it. -/
  | seg (c : Ctx)
  /-- BRK, with the context that follows it. -/
  | brk (c : Ctx)
  | readPoint (k : Nat) (f : Word → Act)
  | writePoint (k : Nat) (v : Word) (r : Act)
  /-- A load of `n` bytes from working memory. -/
  | load (a n : Nat) (f : Nat → Act)
  /-- A store to working memory. -/
  | store (a : Nat) (b : List Byte) (r : Act)
  /-- A device load (R106). -/
  | device (a n : Nat) (f : Nat → Act)
  /-- A fence by a task (R115, R116). -/
  | fence (g : Nat → State → Option Nat × State) (r : Act)

/-- What an instruction sees beside its context and the memory: RSWRAP, the tick count and the tick's time of the release
frame, and the word at an index of the code region. -/
structure Env where
  rsWrap : Bool
  q : Nat
  t0 : Nat
  word : Nat → Nat

/-! Registers. -/

/-- X[k]; X0 reads as 0 (R87). -/
def getX (c : Ctx) (k : BitVec 5) : DWord := ctxX c k.toNat

/-- X[k] := v; a write to X0 is discarded. -/
def setX (c : Ctx) (k : BitVec 5) (v : DWord) : Ctx :=
  if k = 0 then c else { c with x := smSet xZero c.x k.toNat v }

/-- A signed 14-bit immediate or offset (R96). -/
def simm (i : BitVec 14) : DWord := i.signExtend 64

/-- The iteration number, 0 outside a repeat. -/
def iterOf (c : Ctx) : Nat := (c.rep.map (·.iter)).getD 0

/-! The program counter and the repeat (R109, R112, R114). -/

/-- The context after an instruction of `n` words: its next iteration, or the next instruction. -/
def advance (n : Nat) (c : Ctx) : Ctx :=
  match c.rep with
  | some r =>
    if r.remaining ≤ 1 then { c with pc := c.pc + n, rep := none }
    else { c with rep := some { r with remaining := r.remaining - 1, iter := r.iter + 1 } }
  | none => { c with pc := c.pc + n }

/-- The instruction of one word completes with this context. -/
def fin1 (c : Ctx) : Act := .done (advance 1 c)

/-- The instruction with an extension completes with this context. -/
def fin2 (c : Ctx) : Act := .done (advance 2 c)

/-- Execution goes on at an index, or traps with CODE_RANGE. (Log 27, DEDUCED.) -/
def goTo (t : Int) (c : Ctx) : Act := if 0 ≤ t ∧ t < 2 ^ 24 then .done { c with pc := t.toNat } else .trap trapCodeRange

/-- A branch by OFF from the index of its first word (R109). -/
def branch (taken : Bool) (off : Int) (n : Nat) (c : Ctx) : Act :=
  if taken then goTo (c.pc + off) c else .done (advance n c)

/-- Traps with ILLEGAL unless the encoding's unused fields are 0 (R97). -/
def legal (ok : Bool) (a : Act) : Act := if ok then a else .trap trapIllegal

/-- An instruction with an extension word, which is fetched from the index that follows (R95); beyond the code region that
fetch traps with CODE_RANGE (R109). -/
def extended (c : Ctx) (a : Act) : Act := if 2 ^ 24 ≤ c.pc + 1 then .trap trapCodeRange else a

/-- A format N instruction. -/
def formN (f : NF) (a : Act) : Act := legal (f.z = 0) a

/-! Point operands (R92 to R94). -/

/-- The key of a point operand of `len` points, or the trap of the lowest cause. `kind` says which classes it takes. -/
def pointKey (kind : Nat → Bool) (write : Bool) (len scale cls idx : Nat) (base : Int) (step : Bool) (c : Ctx) : Except Nat Nat :=
  let i : Int := idx + base + (if step then iterOf c * scale else 0)
  if !kind cls then .error trapClass
  else if i < 0 ∨ 262144 < i + len then .error trapPointRange
  else if write && (cls = clsIX || cls = clsIW) then .error trapInputWrite
  else .ok (pkey cls i.toNat)

/-- An act on a point operand. -/
def onPoint (r : Except Nat Nat) (f : Nat → Act) : Act :=
  match r with
  | .ok k => f k
  | .error t => .trap t

def isBlockCls (c : Nat) : Bool := c = clsMW

/-- The legal MOD bits of format P: STEP anywhere, the mode bit for CRST alone (R96). -/
def modOk (crst : Bool) (f : PF) : Bool := !f.mod.getLsbD 2 && (crst || !f.mod.getLsbD 1)

/-- An instruction on a bit point in format P. -/
def formBit (write : Bool) (f : PF) (c : Ctx) (g : Nat → Act) : Act :=
  legal (modOk false f) (onPoint (pointKey isBitCls write 1 1 f.cls.toNat f.idx.toNat 0 (f.mod.getLsbD 0) c) g)

/-- An instruction on a block of `len` words in format P. -/
def formBlock (len : Nat) (crst : Bool) (f : PF) (c : Ctx) (g : Nat → Act) : Act :=
  legal (modOk crst f) (onPoint (pointKey isBlockCls true len len f.cls.toNat f.idx.toNat 0 (f.mod.getLsbD 0) c) g)

/-- Reads a bit point. -/
def readBit (k : Nat) (f : Bool → Act) : Act := .readPoint k fun w => f (w.getLsbD 0)

/-- Writes a bit point. -/
def writeBit (k : Nat) (b : Bool) (r : Act) : Act := .writePoint k (BitVec.ofNat 32 (b2n b)) r

/-- The reserved and unused fields of format PX are 0 (R96, R104). -/
def pxOk (sgn off rd : Bool) (f : PXF) : Bool :=
  f.top = 0 && (sgn || !f.sgn) && (f.indexed || f.rb = 0) && (off || f.off = 0) && (rd || f.rd = 0)

/-- The key of a PX operand. -/
def pxKey (kind : Nat → Bool) (write : Bool) (f : PXF) (c : Ctx) : Except Nat Nat :=
  pointKey kind write 1 1 f.cls.toNat f.idx.toNat (if f.indexed then (getX c f.rb).toInt else 0) f.step c

/-! Memory forms (R106). -/

/-- The address X[RA] + IMM. -/
def memAddr (c : Ctx) (f : IF) : Nat := (getX c f.ra + simm f.imm).toNat

/-- An LM form of `n` bytes. -/
def loadForm (f : IF) (n : Nat) (c : Ctx) (g : Nat → DWord) : Act :=
  let a := memAddr c f
  let fin (v : Nat) : Act := fin1 (setX c f.rd (g v))
  if 2 ^ 40 ≤ a then .trap trapAccess
  else if inImage a then .trap trapImageAddr
  else if inWorking a then .load a n fin
  else if c.rep.isSome then .trap trapRepeat
  else .device a n fin

/-- An SM form of `n` bytes. -/
def storeForm (f : IF) (n : Nat) (c : Ctx) : Act :=
  let a := memAddr c f
  if 2 ^ 40 ≤ a then .trap trapAccess
  else if inImage a then .trap trapImageAddr
  else if !inWorking a then .trap trapStoreTarget
  else .store a (leBytes n (getX c f.rd).toNat) (fin1 c)

/-! Non-speculative execution. -/

/-- How an instruction ended. -/
inductive Ending where
  | done (c : Ctx)
  | trap (cause : Nat)
  | ended
  | seg (c : Ctx)
  | brk (c : Ctx)
  deriving DecidableEq, Repr

/-- A write of QX or QW through the buffer is checked against the ledgers like every other (R131). -/
def pointStore (t k : Nat) (v : Word) (s : State) : Bool × State :=
  if pcls k = clsQX || pcls k = clsQW then
    let (ok, s) := pointWrite t k v [] s
    (ok, specHit k false (noteCheck true s))
  else pointWrite t k v [k] s

/-- Executes the accesses of an instruction of task `t` non-speculatively, as M0. -/
def runAct (t : Nat) : Act → State → Ending × State
  | .done c, s => (.done c, s)
  | .trap k, s => (.trap k, s)
  | .ended, s => (.ended, s)
  | .seg c, s => (.seg c, s)
  | .brk c, s => (.brk c, s)
  | .readPoint k f, s =>
    match pointRead t k s with
    | (some v, s') => runAct t (f v) s'
    | (none, s') => (.trap trapAccess, s')
  | .writePoint k v r, s =>
    match pointStore t k v s with
    | (true, s') => runAct t r s'
    | (false, s') => (.trap trapAccess, s')
  | .load a n f, s =>
    match busRead .m0 a n s with
    | (some v, s') => runAct t (f v) s'
    | (none, s') => (.trap trapAccess, s')
  | .store a b r, s =>
    match busWrite .m0 a b s with
    | (true, s') => runAct t r s'
    | (false, s') => (.trap trapAccess, s')
  | .device a n f, s =>
    match busRead .m0 a n s with
    | (some v, s') => runAct t (f v) s'
    | (none, s') => (.trap trapAccess, s')
  | .fence g r, s =>
    match g t s with
    | (none, s') => runAct t r s'
    | (some k, s') => (.trap k, s')

/-- The word at an index of the code region (R95). -/
def codeWord (s : State) (j : Nat) : Nat := memNat s (codeBase s + 4 * j) 4

/-- What an instance's instructions see. -/
def envOf (s : State) (i : Inst) : Env :=
  { rsWrap := flag s Reg.LEAF_CORECFG 0, q := i.relT0 / 62500, t0 := i.relT0, word := codeWord s }

/-- Changes an instance, if it still exists. -/
def updInst (t : Nat) (f : Inst → Inst) (s : State) : State :=
  match getInst s t with
  | some i => putInst t (f i) s
  | none => s

/-- LEAF's trap log (R118, R163); TRAPPC takes the low 24 bits of the index. (Log 157, DESIGN CHOICE.) -/
def logTrap (t cause pc iter : Nat) (s : State) : State :=
  let n := min 65535 (fld s Reg.LEAF_TRAPLOG 31 16 + 1)
  let s := putNat s Reg.LEAF_TRAPLOG (n * 2 ^ 16 + cause * 2 ^ 8 + b2n (isEvent t) * 2 ^ 6 + t % 32)
  putNat (putNat (putNat s Reg.LEAF_TRAPPC (pc % 2 ^ 24)) Reg.LEAF_TRAPITER iter) Reg.LEAF_TRAPFN (fnum s)

/-- The instance gives the leaves up as it ends; a replay's remaining segments are discarded. (Log 30, DEDUCED.) -/
def leaveLeaves (t : Nat) (s : State) : State :=
  let s := noteRun t (sendPos s)
  let s := { s with frm := { s.frm with running := if s.frm.running = some t then none else s.frm.running } }
  let s := if s.spec.replaying = some t then takeUp t s else s
  schedule s

/-- A trap of task `t` (R118). -/
def takeTrap (t cause : Nat) (i : Inst) (s : State) : State :=
  let s := logTrap t cause i.ctx.pc (iterOf i.ctx) s
  let stop := taskStop s t
  let s := updInst t (fun j => { j with st := .ended, trapped := true, qw := [], emits := [] }) s
  let s := if stop then { s with frm := { s.frm with trapStop := true } } else s
  leaveLeaves t (raise (0x0500 + cause) (b2n stop) s)

/-- Another instance than that of task `t` can execute. -/
def othersReady (t : Nat) (s : State) : Bool := s.frm.insts.any fun p => p.1 ≠ t && isReady p.2

/-- What an instruction's end does to its instance; behind the last iteration of an RPTU a preemption that it held off takes
effect (R67, R121). -/
def finishInstr (t : Nat) (i : Inst) (e : Ending) (s : State) : State :=
  let keep (c : Ctx) (s : State) : State := updInst t (fun j => { j with ctx := c, count := j.count + 1 }) s
  match e with
  | .done c =>
    let s := keep c s
    if inRptu i && c.rep.isNone && othersReady t s then schedule s else s
  | .trap k => takeTrap t k i s
  | .ended => leaveLeaves t (updInst t (fun j => { j with st := .ended, count := j.count + 1 }) s)
  | .seg c =>
    let s := keep c s
    if s.spec.replaying = some t then schedule (takeUp t s) else s
  | .brk c =>
    let s := keep c s
    if flag s Reg.DBG_BPCFG 0 then debugHalt 2 0 s else s

/-- The words of the instruction with an opcode: formats PX and LX take an extension (R96). -/
def opWords (op : Nat) : Nat := if (0x30 ≤ op && op ≤ 0x35) || op = 0x58 || op = 0x59 then 2 else 1

/-- The indexes of the words that the instruction at the PC is fetched from: its own, and that of its extension or of the
instruction that it repeats (R95, R113). -/
def fetchIdx (word : Nat → Nat) (c : Ctx) : List Nat :=
  let op := word c.pc / 2 ^ 24
  if (opWords op = 2 || op = 0x80 || op = 0x81) && c.pc + 1 < 2 ^ 24 then [c.pc, c.pc + 1] else [c.pc]

/-- M0 fetches the words of the instruction at the PC; false: one of them is uncorrectable (R216). -/
def fetch (c : Ctx) (s : State) : Bool × State :=
  (fetchIdx (codeWord s) c).foldl (fun (r : Bool × State) j =>
    match memLoad 0 (codeBase r.2 + 4 * j) 4 r.2 with
    | (v, u) => (r.1 && v.isSome, u)) (true, s)

/-- Executes one instruction, given as its accesses, for the instance of task `t`. -/
def runInstr (t : Nat) (a : Env → Ctx → Act) (i : Inst) (s : State) : State :=
  let c := i.ctx
  if 2 ^ 24 ≤ c.pc then finishInstr t i (.trap trapCodeRange) s
  else
    let (ok, s) := fetch c s
    let (e, s) := runAct t (if ok then a (envOf s i) c else .trap trapAccess) s
    finishInstr t i e s

/-- The hardware breakpoint that stands before an instance's next instruction (R447). (Log 29, DEDUCED.) -/
def breakpointAt (s : State) (t : Nat) (i : Inst) : Option Nat :=
  if s.leaf.passBp = some t || (i.ctx.rep.isSome && 0 < iterOf i.ctx) then none
  else ((List.range 4).filter fun k => flag s Reg.DBG_BPCFG (4 + k) && regNat s (Reg.DBG_BP k) = i.ctx.pc).head?

/-- The instance that executes: the leaves run it, and it is ready. -/
def runningInst (s : State) : Option (Nat × Inst) :=
  if leavesRun s then
    match s.frm.running with
    | some t =>
      match getInst s t with
      | some i => if i.st = .running then some (t, i) else none
      | none => none
    | none => none
  else none

/-- An instruction of the voted stream: the instance that runs executes it. With no instance running no instruction executes,
and a breakpoint halts the leaves before it. (Log 26, DEDUCED; Log 142, DESIGN CHOICE.) -/
def perform (a : Env → Ctx → Act) (s : State) : Out :=
  act s fun s =>
    match runningInst s with
    | none => s
    | some (t, i) =>
      match breakpointAt s t i with
      | some k => debugHalt 3 k s
      | none =>
        let s := if s.leaf.passBp = some t then { s with leaf := { s.leaf with passBp := none } } else s
        followPos (runInstr t a i s)

end Sys2Proof.Machine
end

