-- ==== Sys2Proof/Machine/Flags.lean ====
section
/-! DEFINITION. The one-bit results of instructions and the blocks that carry them. The device has no condition flags (R87): the
logic accumulator, the comparisons and the evaluation of timer and counter blocks are all it has (R99 to R103). -/

namespace Sys2Proof.Machine

/-- A comparison's result in a register. -/
def truth (b : Bool) : DWord := BitVec.ofNat 64 (b2n b)

/-! Timer blocks (R102). -/

inductive TimerKind where
  | ton | tof | tp
  deriving DecidableEq, Repr

/-- The evaluation of R102: ET and Q from PT, ET, the elapsed units, IN, the previous IN and Q. -/
def timerEval (k : TimerKind) (pt et d : Nat) (inp prev q : Bool) : Nat × Bool :=
  let up := min pt (et + d)
  match k with
  | .ton => if !inp then (0, false) else if !prev then (0, pt = 0) else (up, pt ≤ up)
  | .tof =>
    if inp then (0, true)
    else if q then
      let e := if prev then 0 else up
      (e, e < pt)
    else (et, q)
  | .tp =>
    if !q && inp && !prev then (0, 0 < pt)
    else if q then (up, up < pt)
    else if !inp then (0, q)
    else (et, q)

/-- A timer instruction on its block. -/
def timerAct (k : TimerKind) (f : PF) (e : Env) (c : Ctx) : Act :=
  formBlock 4 false f c fun i =>
    .readPoint i fun pt => .readPoint (i + 1) fun et => .readPoint (i + 2) fun st => .readPoint (i + 3) fun fl =>
      let d := (e.q + (2 ^ 32 - st.toNat)) % 2 ^ 32
      let (et', q) := timerEval k pt.toNat et.toNat d c.la (fl.getLsbD 0) (fl.getLsbD 1)
      .writePoint (i + 1) (BitVec.ofNat 32 et') (.writePoint (i + 2) (BitVec.ofNat 32 e.q)
        (.writePoint (i + 3) (BitVec.ofNat 32 (b2n c.la + 2 * b2n q)) (fin1 { c with la := q })))

/-! Counter blocks (R103). -/

/-- A counter instruction on its block: CTU counts up, CTD down. -/
def counterAct (up : Bool) (f : PF) (c : Ctx) : Act :=
  formBlock 3 false f c fun i =>
    .readPoint i fun pv => .readPoint (i + 1) fun cv => .readPoint (i + 2) fun fl =>
      let n := cv.toInt
      let n' := if c.la && !fl.getLsbD 0 then (if up then min (2 ^ 31 - 1) (n + 1) else max (-2 ^ 31) (n - 1)) else n
      let q := if up then decide (pv.toInt ≤ n') else decide (n' ≤ 0)
      .writePoint (i + 1) (BitVec.ofInt 32 n') (.writePoint (i + 2) (BitVec.ofNat 32 (b2n c.la)) (fin1 { c with la := q }))

/-! Edges (R101). -/

/-- RED and FED: the edge of LA against the memory bit, which then takes the old LA. -/
def edgeAct (rising : Bool) (f : PF) (c : Ctx) : Act :=
  formBit true f c fun k => readBit k fun p =>
    writeBit k c.la (fin1 { c with la := if rising then c.la && !p else !c.la && p })

end Sys2Proof.Machine
end

