-- ==== Sys2Proof/Machine/Float.lean ====
section
/-! DEFINITION. Binary32 and binary64 arithmetic as R86, R107 and R108 have it: exact results in integers, rounded once to nearest,
ties to even. -/

namespace Sys2Proof.Machine

/-- A format: the precision p, the width of the exponent field, and the exponent of a subnormal's unit. -/
structure FFmt where
  prec : Nat
  ebits : Nat
  deriving DecidableEq, Repr

def f32 : FFmt := { prec := 24, ebits := 8 }
def f64 : FFmt := { prec := 53, ebits := 11 }

/-- The width of a format's encoding. -/
def FFmt.width (f : FFmt) : Nat := f.prec + f.ebits

/-- The exponent of the unit in the last place of a subnormal. -/
def FFmt.qmin (f : FFmt) : Int := 3 - 2 ^ (f.ebits - 1) - f.prec

/-- A value: a NaN, an infinity, or m × 2^e with a sign. -/
inductive FVal where
  | nan
  | inf (neg : Bool)
  | num (neg : Bool) (m : Nat) (e : Int)
  deriving DecidableEq, Repr

/-- The value that an encoding stands for. -/
def FFmt.unpack (f : FFmt) (v : Nat) : FVal :=
  let neg := bits v (f.width - 1) (f.width - 1) = 1
  let e := bits v (f.width - 2) (f.prec - 1)
  let m := v % 2 ^ (f.prec - 1)
  if e = 2 ^ f.ebits - 1 then (if m = 0 then .inf neg else .nan)
  else if e = 0 then .num neg m f.qmin
  else .num neg (m + 2 ^ (f.prec - 1)) (f.qmin + (e - 1))

/-- The encodings of the sign bit, an infinity and the canonical NaN. -/
def FFmt.sign (f : FFmt) (neg : Bool) : Nat := b2n neg * 2 ^ (f.width - 1)
def FFmt.inf (f : FFmt) (neg : Bool) : Nat := f.sign neg + (2 ^ f.ebits - 1) * 2 ^ (f.prec - 1)
def FFmt.nan (f : FFmt) : Nat := f.inf false + 2 ^ (f.prec - 2)

/-- m / 2^k rounded to nearest, ties to even. -/
def rne (m k : Nat) : Nat :=
  let q := m / 2 ^ k
  let r := m % 2 ^ k
  if 2 * r < 2 ^ k then q else if 2 ^ k < 2 * r then q + 1 else q + q % 2

/-- The encoding of m × 2^e, rounded; an exact zero keeps the sign. -/
def FFmt.pack (f : FFmt) (neg : Bool) (m : Nat) (e : Int) : Nat :=
  if m = 0 then f.sign neg
  else
    let q : Int := max (e + (m.log2 + 1 : Nat) - f.prec) f.qmin
    let n := if q ≤ e then m * 2 ^ (e - q).toNat else rne m (q - e).toNat
    let (n, q) := if 2 ^ f.prec ≤ n then (n / 2, q + 1) else (n, q)
    if n < 2 ^ (f.prec - 1) then f.sign neg + n
    else
      let b := (q - f.qmin).toNat + 1
      if 2 ^ f.ebits - 1 ≤ b then f.inf neg else f.sign neg + b * 2 ^ (f.prec - 1) + (n - 2 ^ (f.prec - 1))

/-- The encoding of a value. -/
def FFmt.enc (f : FFmt) (v : FVal) : Nat :=
  match v with
  | .nan => f.nan
  | .inf n => f.inf n
  | .num n m e => f.pack n m e

/-- The signed mantissa of a number at an exponent not above its own. -/
def scaled (neg : Bool) (m : Nat) (e q : Int) : Int :=
  let n : Int := m * 2 ^ (e - q).toNat
  if neg then -n else n

def fAdd (a b : FVal) : FVal :=
  match a, b with
  | .nan, _ | _, .nan => .nan
  | .inf x, .inf y => if x = y then .inf x else .nan
  | .inf x, _ => .inf x
  | _, .inf y => .inf y
  | .num x m e, .num y n g =>
    let q := min e g
    let v := scaled x m e q + scaled y n g q
    if v = 0 then .num (x && y) 0 q else .num (v < 0) v.natAbs q

def fNegV (a : FVal) : FVal :=
  match a with
  | .nan => .nan
  | .inf x => .inf (!x)
  | .num x m e => .num (!x) m e

def fMul (a b : FVal) : FVal :=
  match a, b with
  | .nan, _ | _, .nan => .nan
  | .inf x, .inf y => .inf (x ^^ y)
  | .inf x, .num y n _ => if n = 0 then .nan else .inf (x ^^ y)
  | .num x m _, .inf y => if m = 0 then .nan else .inf (x ^^ y)
  | .num x m e, .num y n g => .num (x ^^ y) (m * n) (e + g)

/-- A quotient of mantissas to more bits than any format holds, with a sticky bit. -/
def fDiv (a b : FVal) : FVal :=
  match a, b with
  | .nan, _ | _, .nan => .nan
  | .inf _, .inf _ => .nan
  | .inf x, .num y _ _ => .inf (x ^^ y)
  | .num x _ e, .inf y => .num (x ^^ y) 0 e
  | .num x m e, .num y n g =>
    if n = 0 then (if m = 0 then .nan else .inf (x ^^ y))
    else
      let k := n.log2 + 64
      let q := m * 2 ^ k / n
      .num (x ^^ y) (2 * q + b2n (m * 2 ^ k % n ≠ 0)) (e - g - k - 1)

/-- A square root to more bits than any format holds, with a sticky bit. -/
def fSqrt (a : FVal) : FVal :=
  match a with
  | .nan => .nan
  | .inf x => if x then .nan else .inf false
  | .num x m e =>
    if m = 0 then .num x 0 e
    else if x then .nan
    else
      let k : Nat := 128 + (e % 2).toNat
      let n := m * 2 ^ k
      let r := isqrt 128 n 0
      .num false (2 * r + b2n (r * r ≠ n)) ((e - k) / 2 - 1)

/-- a < b and a = b of values that are no NaN. -/
def fCmp (a b : FVal) : Ordering :=
  let key (v : FVal) (q : Int) : Int :=
    match v with
    | .num x m e => scaled x m e q
    | _ => 0
  match a, b with
  | .inf x, .inf y => if x = y then .eq else if x then .lt else .gt
  | .inf x, _ => if x then .lt else .gt
  | _, .inf y => if y then .gt else .lt
  | .num _ _ e, .num _ _ g =>
    let q := min e g
    compare (key a q) (key b q)
  | _, _ => .eq

def FVal.isNan (a : FVal) : Bool := a = .nan

/-- The format that FN[0] selects, and the operands as it reads them (R107). -/
def fmtOf (fn : BitVec 9) : FFmt := if fn.getLsbD 0 then f64 else f32

def fArg (f : FFmt) (v : DWord) : Nat := v.toNat % 2 ^ f.width

/-- FMIN and FMAX; −0 lies below +0. -/
def fPick (max : Bool) (f : FFmt) (a b : Nat) : Nat :=
  let x := f.unpack a
  let y := f.unpack b
  if x.isNan && y.isNan then f.nan
  else if x.isNan then b
  else if y.isNan then a
  else
    let aLow := match fCmp x y with
      | .lt => true
      | .gt => false
      | .eq => bits a (f.width - 1) (f.width - 1) = 1
    if aLow = max then b else a

/-- Conversion to a signed 64-bit integer: towards zero, saturating, a NaN to 0 (R108). -/
def fToInt (v : FVal) : Int :=
  match v with
  | .nan => 0
  | .inf x => if x then -2 ^ 63 else 2 ^ 63 - 1
  | .num x m e =>
    let n : Int := if 0 ≤ e then m * 2 ^ (min e 64).toNat else m / 2 ^ (-e).toNat
    max (-2 ^ 63) (min (2 ^ 63 - 1) (if x then -n else n))

/-- A signed 64-bit integer as a value. -/
def fOfInt (n : Int) : FVal := .num (n < 0) n.natAbs 0

/-- FCVT by FN[2:0]. -/
def fCvt (k : Nat) (v : DWord) : DWord :=
  let r : Int := match k with
    | 0 => f64.enc (f32.unpack (fArg f32 v))
    | 1 => f32.enc (f64.unpack v.toNat)
    | 2 => f32.enc (fOfInt v.toInt)
    | 3 => f64.enc (fOfInt v.toInt)
    | 4 => fToInt (f32.unpack (fArg f32 v))
    | _ => fToInt (f64.unpack v.toNat)
  BitVec.ofInt 64 r

end Sys2Proof.Machine
end

