-- ==== Sys2Proof/Machine/BitLogic.lean ====
section
/-! DEFINITION. Bit logic and edges (R89, R99 to R101). -/

namespace Sys2Proof.Machine

/-- A pop of the logic stack, and what it makes of LA. -/
def popWith (c : Ctx) (g : Bool → Bool) : Act :=
  match c.ls with
  | [] => .trap trapLsUnder
  | b :: r => fin1 { c with ls := r, la := g b }

/-- NOT inverts LA (R99). -/
def actNotI (f : NF) (_ : Env) (c : Ctx) : Act :=
  formN f (fin1 { c with la := !c.la })

/-- The command: the running instance executes the instruction. -/
def execNotI (f : NF) (s : State) : Out := perform (actNotI f) s

/-- PUSH pushes LA (R89). -/
def actPush (f : NF) (_ : Env) (c : Ctx) : Act :=
  formN f (if 16 ≤ c.ls.length then .trap trapLsOver else fin1 { c with ls := c.la :: c.ls })

/-- The command: the running instance executes the instruction. -/
def execPush (f : NF) (s : State) : Out := perform (actPush f) s

/-- POPAND combines LA with the entry that it pops (R89). -/
def actPopand (f : NF) (_ : Env) (c : Ctx) : Act :=
  formN f (popWith c fun b => c.la && b)

/-- The command: the running instance executes the instruction. -/
def execPopand (f : NF) (s : State) : Out := perform (actPopand f) s

/-- POPOR combines LA with the entry that it pops (R89). -/
def actPopor (f : NF) (_ : Env) (c : Ctx) : Act :=
  formN f (popWith c fun b => c.la || b)

/-- The command: the running instance executes the instruction. -/
def execPopor (f : NF) (s : State) : Out := perform (actPopor f) s

/-- POPXOR combines LA with the entry that it pops (R89). -/
def actPopxor (f : NF) (_ : Env) (c : Ctx) : Act :=
  formN f (popWith c fun b => c.la ^^ b)

/-- The command: the running instance executes the instruction. -/
def execPopxor (f : NF) (s : State) : Out := perform (actPopxor f) s

/-- LDT sets LA (R99). -/
def actLdt (f : NF) (_ : Env) (c : Ctx) : Act :=
  formN f (fin1 { c with la := true })

/-- The command: the running instance executes the instruction. -/
def execLdt (f : NF) (s : State) : Out := perform (actLdt f) s

/-- MOVLA copies LA into a register (R99). -/
def actMovla (f : RF) (_ : Env) (c : Ctx) : Act :=
  legal (f.ra = 0 && f.rb = 0 && f.fn = 0) (fin1 (setX c f.rd (truth c.la)))

/-- The command: the running instance executes the instruction. -/
def execMovla (f : RF) (s : State) : Out := perform (actMovla f) s

/-- SETLA: LA is whether a register is non-zero (R99). -/
def actSetla (f : RF) (_ : Env) (c : Ctx) : Act :=
  legal (f.rd = 0 && f.rb = 0 && f.fn = 0) (fin1 { c with la := getX c f.ra ≠ 0 })

/-- The command: the running instance executes the instruction. -/
def execSetla (f : RF) (s : State) : Out := perform (actSetla f) s

/-- LD loads a bit point into LA (R100). -/
def actLd (f : PF) (_ : Env) (c : Ctx) : Act :=
  formBit false f c fun k => readBit k fun p => fin1 { c with la := p }

/-- The command: the running instance executes the instruction. -/
def execLd (f : PF) (s : State) : Out := perform (actLd f) s

/-- LDN loads the inverse of a bit point into LA (R100). -/
def actLdn (f : PF) (_ : Env) (c : Ctx) : Act :=
  formBit false f c fun k => readBit k fun p => fin1 { c with la := !p }

/-- The command: the running instance executes the instruction. -/
def execLdn (f : PF) (s : State) : Out := perform (actLdn f) s

/-- AND ANDs LA with a bit point (R100). -/
def actAndI (f : PF) (_ : Env) (c : Ctx) : Act :=
  formBit false f c fun k => readBit k fun p => fin1 { c with la := c.la && p }

/-- The command: the running instance executes the instruction. -/
def execAndI (f : PF) (s : State) : Out := perform (actAndI f) s

/-- ANDN ANDs LA with the inverse of a bit point (R100). -/
def actAndn (f : PF) (_ : Env) (c : Ctx) : Act :=
  formBit false f c fun k => readBit k fun p => fin1 { c with la := c.la && !p }

/-- The command: the running instance executes the instruction. -/
def execAndn (f : PF) (s : State) : Out := perform (actAndn f) s

/-- OR ORs LA with a bit point (R100). -/
def actOrI (f : PF) (_ : Env) (c : Ctx) : Act :=
  formBit false f c fun k => readBit k fun p => fin1 { c with la := c.la || p }

/-- The command: the running instance executes the instruction. -/
def execOrI (f : PF) (s : State) : Out := perform (actOrI f) s

/-- ORN ORs LA with the inverse of a bit point (R100). -/
def actOrn (f : PF) (_ : Env) (c : Ctx) : Act :=
  formBit false f c fun k => readBit k fun p => fin1 { c with la := c.la || !p }

/-- The command: the running instance executes the instruction. -/
def execOrn (f : PF) (s : State) : Out := perform (actOrn f) s

/-- XOR exclusive-ORs LA with a bit point (R100). -/
def actXorI (f : PF) (_ : Env) (c : Ctx) : Act :=
  formBit false f c fun k => readBit k fun p => fin1 { c with la := c.la ^^ p }

/-- The command: the running instance executes the instruction. -/
def execXorI (f : PF) (s : State) : Out := perform (actXorI f) s

/-- XORN exclusive-ORs LA with the inverse of a bit point (R100). -/
def actXorn (f : PF) (_ : Env) (c : Ctx) : Act :=
  formBit false f c fun k => readBit k fun p => fin1 { c with la := c.la ^^ !p }

/-- The command: the running instance executes the instruction. -/
def execXorn (f : PF) (s : State) : Out := perform (actXorn f) s

/-- ST writes LA to a bit point (R100). -/
def actSt (f : PF) (_ : Env) (c : Ctx) : Act :=
  formBit true f c fun k => writeBit k c.la (fin1 c)

/-- The command: the running instance executes the instruction. -/
def execSt (f : PF) (s : State) : Out := perform (actSt f) s

/-- STN writes the inverse of LA to a bit point (R100). -/
def actStn (f : PF) (_ : Env) (c : Ctx) : Act :=
  formBit true f c fun k => writeBit k (!c.la) (fin1 c)

/-- The command: the running instance executes the instruction. -/
def execStn (f : PF) (s : State) : Out := perform (actStn f) s

/-- SET writes 1 when LA is 1 (R100). -/
def actSetI (f : PF) (_ : Env) (c : Ctx) : Act :=
  formBit true f c fun k => if c.la then writeBit k true (fin1 c) else fin1 c

/-- The command: the running instance executes the instruction. -/
def execSetI (f : PF) (s : State) : Out := perform (actSetI f) s

/-- RST writes 0 when LA is 1 (R100). -/
def actRst (f : PF) (_ : Env) (c : Ctx) : Act :=
  formBit true f c fun k => if c.la then writeBit k false (fin1 c) else fin1 c

/-- The command: the running instance executes the instruction. -/
def execRst (f : PF) (s : State) : Out := perform (actRst f) s

/-- RED detects a rising edge of LA (R101). -/
def actRed (f : PF) (_ : Env) (c : Ctx) : Act :=
  edgeAct true f c

/-- The command: the running instance executes the instruction. -/
def execRed (f : PF) (s : State) : Out := perform (actRed f) s

/-- FED detects a falling edge of LA (R101). -/
def actFed (f : PF) (_ : Env) (c : Ctx) : Act :=
  edgeAct false f c

/-- The command: the running instance executes the instruction. -/
def execFed (f : PF) (s : State) : Out := perform (actFed f) s

end Sys2Proof.Machine
end

