-- ==== Sys2Proof/Machine/Blocks.lean ====
section
/-! DEFINITION. Timer and counter instructions (R102, R103). -/

namespace Sys2Proof.Machine

/-- TON evaluates an on-delay timer (R102). -/
def actTon (f : PF) (e : Env) (c : Ctx) : Act :=
  timerAct .ton f e c

/-- The command: the running instance executes the instruction. -/
def execTon (f : PF) (s : State) : Out := perform (actTon f) s

/-- TOF evaluates an off-delay timer (R102). -/
def actTof (f : PF) (e : Env) (c : Ctx) : Act :=
  timerAct .tof f e c

/-- The command: the running instance executes the instruction. -/
def execTof (f : PF) (s : State) : Out := perform (actTof f) s

/-- TP evaluates a pulse timer (R102). -/
def actTp (f : PF) (e : Env) (c : Ctx) : Act :=
  timerAct .tp f e c

/-- The command: the running instance executes the instruction. -/
def execTp (f : PF) (s : State) : Out := perform (actTp f) s

/-- CTU counts up (R103). -/
def actCtu (f : PF) (_ : Env) (c : Ctx) : Act :=
  counterAct true f c

/-- The command: the running instance executes the instruction. -/
def execCtu (f : PF) (s : State) : Out := perform (actCtu f) s

/-- CTD counts down (R103). -/
def actCtd (f : PF) (_ : Env) (c : Ctx) : Act :=
  counterAct false f c

/-- The command: the running instance executes the instruction. -/
def execCtd (f : PF) (s : State) : Out := perform (actCtd f) s

/-- CRST resets CV to 0, or loads PV, when LA is 1 (R103). -/
def actCrst (f : PF) (_ : Env) (c : Ctx) : Act :=
  formBlock 3 true f c fun i =>
    if !c.la then fin1 c
    else if f.mod.getLsbD 1 then .readPoint i fun pv => .writePoint (i + 1) pv (fin1 c)
    else .writePoint (i + 1) 0 (fin1 c)

/-- The command: the running instance executes the instruction. -/
def execCrst (f : PF) (s : State) : Out := perform (actCrst f) s

end Sys2Proof.Machine
end

