-- ==== Sys2Proof/Machine/Control.lean ====
section
/-! DEFINITION. Control, repeats and the special registers (R90, R109 to R114). -/

namespace Sys2Proof.Machine

/-- A RET (R110). -/
def popReturn (c : Ctx) : Act :=
  match c.rs with
  | [] => .trap trapRsUnder
  | p :: r => goTo p { c with rs := r }

/-- The index of the instruction that follows a call, as a 24-bit entry holds it (R87, R90). (Log 158, DESIGN CHOICE.) -/
def returnIndex (c : Ctx) : Nat := if c.pc + 1 < 2 ^ 24 then c.pc + 1 else Config.returnPast.toNat

/-- A call: the index of the instruction that follows is pushed; a full stack traps, or loses its oldest entry (R90). -/
def callTo (e : Env) (t : Nat) (c : Ctx) : Act :=
  if c.rs.length < 16 then goTo t { c with rs := returnIndex c :: c.rs }
  else if e.rsWrap then goTo t { c with rs := returnIndex c :: c.rs.take 15 }
  else .trap trapRsOver

/-- The opcodes that cannot be repeated (R113). -/
def unrepeatable (op : Nat) : Bool :=
  [0x02, 0x03, 0x0A, 0x0B, 0x34, 0x35, 0x58, 0x59, 0x70, 0x71, 0x72, 0x73, 0x74, 0x75, 0x78, 0x79, 0x7A, 0x7B, 0x7C, 0x7D,
    0x80, 0x81, 0xA0, 0xA1, 0xA2, 0xA3, 0xA4].contains op

/-- A repeat prefix (R112, R113). -/
def repeatNext (unint : Bool) (f : IF) (e : Env) (c : Ctx) : Act :=
  let n := if f.ra = 0 then f.imm.toNat else (getX c f.ra).toNat % 2 ^ 32
  let op := e.word (c.pc + 1) / 2 ^ 24
  legal (f.rd = 0 && (f.ra = 0 || f.imm = 0))
    (if 2 ^ 24 ≤ c.pc + 1 then .trap trapCodeRange
     else if unrepeatable op || (unint && 256 < n) then .trap trapRepeat
     else if n = 0 then .done { c with pc := c.pc + 1 + opWords op }
     else .done { c with pc := c.pc + 1, rep := some { remaining := n, iter := 0, unint := unint } })

/-- NOP has no effect (R111). -/
def actNop (f : NF) (_ : Env) (c : Ctx) : Act :=
  formN f (fin1 c)

/-- The command: the running instance executes the instruction. -/
def execNop (f : NF) (s : State) : Out := perform (actNop f) s

/-- END ends the instance (R111). -/
def actEndI (f : NF) (_ : Env) (_ : Ctx) : Act :=
  formN f .ended

/-- The command: the running instance executes the instruction. -/
def execEndI (f : NF) (s : State) : Out := perform (actEndI f) s

/-- BRK halts the leaves when DBG enables it (R111). -/
def actBrk (f : NF) (_ : Env) (c : Ctx) : Act :=
  formN f (.brk (advance 1 c))

/-- The command: the running instance executes the instruction. -/
def execBrk (f : NF) (s : State) : Out := perform (actBrk f) s

/-- SEG marks a segment (R111). -/
def actSeg (f : NF) (_ : Env) (c : Ctx) : Act :=
  formN f (.seg (advance 1 c))

/-- The command: the running instance executes the instruction. -/
def execSeg (f : NF) (s : State) : Out := perform (actSeg f) s

/-- RET pops the return stack into the PC (R110). -/
def actRet (f : NF) (_ : Env) (c : Ctx) : Act :=
  formN f (popReturn c)

/-- The command: the running instance executes the instruction. -/
def execRet (f : NF) (s : State) : Out := perform (actRet f) s

/-- BEQ branches if equal (R109). -/
def actBeq (f : BF) (_ : Env) (c : Ctx) : Act :=
  branch (getX c f.ra = getX c f.rb) f.off.toInt 1 c

/-- The command: the running instance executes the instruction. -/
def execBeq (f : BF) (s : State) : Out := perform (actBeq f) s

/-- BNE branches if not equal (R109). -/
def actBne (f : BF) (_ : Env) (c : Ctx) : Act :=
  branch (getX c f.ra ≠ getX c f.rb) f.off.toInt 1 c

/-- The command: the running instance executes the instruction. -/
def execBne (f : BF) (s : State) : Out := perform (actBne f) s

/-- BLT branches if less, signed (R109). -/
def actBlt (f : BF) (_ : Env) (c : Ctx) : Act :=
  branch ((getX c f.ra).slt (getX c f.rb)) f.off.toInt 1 c

/-- The command: the running instance executes the instruction. -/
def execBlt (f : BF) (s : State) : Out := perform (actBlt f) s

/-- BGE branches if at least, signed (R109). -/
def actBge (f : BF) (_ : Env) (c : Ctx) : Act :=
  branch (!(getX c f.ra).slt (getX c f.rb)) f.off.toInt 1 c

/-- The command: the running instance executes the instruction. -/
def execBge (f : BF) (s : State) : Out := perform (actBge f) s

/-- BLTU branches if less, unsigned (R109). -/
def actBltu (f : BF) (_ : Env) (c : Ctx) : Act :=
  branch ((getX c f.ra).ult (getX c f.rb)) f.off.toInt 1 c

/-- The command: the running instance executes the instruction. -/
def execBltu (f : BF) (s : State) : Out := perform (actBltu f) s

/-- BGEU branches if at least, unsigned (R109). -/
def actBgeu (f : BF) (_ : Env) (c : Ctx) : Act :=
  branch (!(getX c f.ra).ult (getX c f.rb)) f.off.toInt 1 c

/-- The command: the running instance executes the instruction. -/
def execBgeu (f : BF) (s : State) : Out := perform (actBgeu f) s

/-- JMP sets the PC (R109). -/
def actJmp (f : JF) (_ : Env) (c : Ctx) : Act :=
  goTo f.tgt.toNat c

/-- The command: the running instance executes the instruction. -/
def execJmp (f : JF) (s : State) : Out := perform (actJmp f) s

/-- CALL pushes the return index and jumps (R90). -/
def actCall (f : JF) (e : Env) (c : Ctx) : Act :=
  callTo e f.tgt.toNat c

/-- The command: the running instance executes the instruction. -/
def execCall (f : JF) (s : State) : Out := perform (actCall f) s

/-- BLAT branches if LA is 1 (R109). -/
def actBlat (f : JF) (_ : Env) (c : Ctx) : Act :=
  branch c.la f.tgt.toInt 1 c

/-- The command: the running instance executes the instruction. -/
def execBlat (f : JF) (s : State) : Out := perform (actBlat f) s

/-- BLAF branches if LA is 0 (R109). -/
def actBlaf (f : JF) (_ : Env) (c : Ctx) : Act :=
  branch (!c.la) f.tgt.toInt 1 c

/-- The command: the running instance executes the instruction. -/
def execBlaf (f : JF) (s : State) : Out := perform (actBlaf f) s

/-- JMPR sets the PC to a register value (R109). -/
def actJmpr (f : RF) (_ : Env) (c : Ctx) : Act :=
  legal (f.rd = 0 && f.rb = 0 && f.fn = 0) (goTo (getX c f.ra).toNat c)

/-- The command: the running instance executes the instruction. -/
def execJmpr (f : RF) (s : State) : Out := perform (actJmpr f) s

/-- CALLR pushes the return index and jumps to a register value (R90). -/
def actCallr (f : RF) (e : Env) (c : Ctx) : Act :=
  legal (f.rd = 0 && f.rb = 0 && f.fn = 0) (callTo e (getX c f.ra).toNat c)

/-- The command: the running instance executes the instruction. -/
def execCallr (f : RF) (s : State) : Out := perform (actCallr f) s

/-- RPTI repeats the next instruction, interruptibly (R112). -/
def actRpti (f : IF) (e : Env) (c : Ctx) : Act :=
  repeatNext false f e c

/-- The command: the running instance executes the instruction. -/
def execRpti (f : IF) (s : State) : Out := perform (actRpti f) s

/-- RPTU repeats the next instruction, uninterruptibly (R112). -/
def actRptu (f : IF) (e : Env) (c : Ctx) : Act :=
  repeatNext true f e c

/-- The command: the running instance executes the instruction. -/
def execRptu (f : IF) (s : State) : Out := perform (actRptu f) s

/-- RDFN returns the release frame number (R111). -/
def actRdfn (f : RF) (_ : Env) (c : Ctx) : Act :=
  legal (f.ra = 0 && f.rb = 0 && f.fn = 0) (fin1 (setX c f.rd (BitVec.ofNat 64 c.relFrame)))

/-- The command: the running instance executes the instruction. -/
def execRdfn (f : RF) (s : State) : Out := perform (actRdfn f) s

/-- RDFT returns the device time of the release frame's tick (R111). -/
def actRdft (f : RF) (e : Env) (c : Ctx) : Act :=
  legal (f.ra = 0 && f.rb = 0 && f.fn = 0) (fin1 (setX c f.rd (BitVec.ofNat 64 e.t0)))

/-- The command: the running instance executes the instruction. -/
def execRdft (f : RF) (s : State) : Out := perform (actRdft f) s

end Sys2Proof.Machine
end

