-- ==== Sys2Proof/Machine/Fences.lean ====
section
/-! DEFINITION. The fences (R115, R116). -/

namespace Sys2Proof.Machine

/-- Reads 8-byte pieces of a descriptor; none where a read fails. -/
def readDesc : Nat → Nat → State → Option (List Byte) × State
  | 0, _, s => (some [], s)
  | n + 1, a, s =>
    match busRead .m0 a 8 s with
    | (some v, s) =>
      match readDesc n (a + 8) s with
      | (some r, s) => (some (leBytes 8 v ++ r), s)
      | (none, s) => (none, s)
    | (none, s) => (none, s)

/-- EMIT of the descriptor at an address, with the EMITs executed so far. -/
def emitFence (a n t : Nat) (s : State) : Option Nat × State :=
  let len := 32 + (bits (seenNat s (a + 8) 4) 11 0 + 7) / 8 * 8
  if a % 8 ≠ 0 || 0x2_0000_0000 < a + 32 || 0x2_0000_0000 < a + len then (some trapAccess, s)
  else
    match readDesc (len / 8) a s with
    | (none, s) => (some trapAccess, s)
    | (some d, s) =>
      if 256 ≤ n then (some trapEmitFull, s) else (none, updInst t (fun i => { i with emits := i.emits ++ [d] }) s)

/-- The targets of UNITW. (Log 28, DEDUCED.) -/
def unitTarget (a : Nat) : Bool :=
  (regBase ≤ a && a < regBase + 0x100_0000) || (pnlBase ≤ a && a < pnlBase + 0x4_0000) || (lmmBase ≤ a && a < lmmBase + 0xC_0000)

/-- A write by M0, which traps with ACCESS where it ends in an error response. -/
def fenceWrite (a : Nat) (b : List Byte) (s : State) : Option Nat × State :=
  match busWrite .m0 a b s with
  | (true, s) => (none, s)
  | (false, s) => (some trapAccess, s)

/-- UNITW. -/
def unitwFence (a : Nat) (b : List Byte) (_ : Nat) (s : State) : Option Nat × State :=
  if 2 ^ 40 ≤ a then (some trapAccess, s)
  else if !unitTarget a then (some trapStoreTarget, s)
  else fenceWrite a b s

/-- PSTW. (Log 111, DEDUCED.) -/
def pstwFence (o : Nat) (b : List Byte) (_ : Nat) (s : State) : Option Nat × State :=
  if pstSize ≤ o then (some trapStoreTarget, s) else fenceWrite (pstBase + o) b s

/-- EMIT copies a transmit descriptor into the buffer (R116). -/
def actEmit (f : RF) (_ : Env) (c : Ctx) : Act :=
  legal (f.rd = 0 && f.rb = 0 && f.fn = 0)
    (.fence (emitFence (getX c f.ra).toNat c.emits) (fin1 { c with emits := c.emits + 1 }))

/-- The command: the running instance executes the instruction. -/
def execEmit (f : RF) (s : State) : Out := perform (actEmit f) s

/-- UNITW writes a register, panel frame memory or lane message memory (R116). -/
def actUnitw (f : RF) (_ : Env) (c : Ctx) : Act :=
  legal (f.rd = 0 && f.fn = 0) (.fence (unitwFence (getX c f.ra).toNat (leBytes 4 (getX c f.rb).toNat)) (fin1 c))

/-- The command: the running instance executes the instruction. -/
def execUnitw (f : RF) (s : State) : Out := perform (actUnitw f) s

/-- WCHK checks in to a ward slot (R116). -/
def actWchk (f : IF) (_ : Env) (c : Ctx) : Act :=
  legal (f.rd = 0 && f.imm.toNat < 32)
    (.fence (fun _ s => (none, checkIn .m0 f.imm.toNat ((getX c f.ra).toNat % 256) s)) (fin1 c))

/-- The command: the running instance executes the instruction. -/
def execWchk (f : IF) (s : State) : Out := perform (actWchk f) s

/-- EVTRIG fires a source of the event recorder (R116). -/
def actEvtrig (f : IF) (_ : Env) (c : Ctx) : Act :=
  legal (f.rd = 0 && f.ra = 0 && f.imm.toNat < 32) (.fence (fun _ s => (none, fireSource f.imm.toNat 0 s)) (fin1 c))

/-- The command: the running instance executes the instruction. -/
def execEvtrig (f : IF) (s : State) : Out := perform (actEvtrig f) s

/-- PSTW writes to the parameter store (R116). -/
def actPstw (f : RF) (_ : Env) (c : Ctx) : Act :=
  legal (f.rd = 0 && f.fn.toNat ≤ 3)
    (.fence (pstwFence (getX c f.ra).toNat (leBytes (2 ^ f.fn.toNat) (getX c f.rb).toNat)) (fin1 c))

/-- The command: the running instance executes the instruction. -/
def execPstw (f : RF) (s : State) : Out := perform (actPstw f) s

end Sys2Proof.Machine
end

