-- ==== Sys2Proof/Machine/FloatInstr.lean ====
section
/-! DEFINITION. Floating-point instructions (R107, R108). -/

namespace Sys2Proof.Machine

/-- An operation on the encodings of both operands. -/
def fBits (f : RF) (c : Ctx) (g : FFmt → Nat → Nat → Nat) : Act :=
  let m := fmtOf f.fn
  fin1 (setX c f.rd (BitVec.ofNat 64 (g m (fArg m (getX c f.ra)) (fArg m (getX c f.rb)))))

/-- An operation on the values of both operands, rounded once. -/
def fBin (f : RF) (c : Ctx) (g : FVal → FVal → FVal) : Act :=
  fBits f c fun m a b => m.enc (g (m.unpack a) (m.unpack b))

/-- A comparison, which a NaN operand fails. -/
def fTest (f : RF) (c : Ctx) (g : Ordering → Bool) : Act :=
  fBits f c fun m a b =>
    let x := m.unpack a
    let y := m.unpack b
    b2n (!x.isNan && !y.isNan && g (fCmp x y))

/-- FADD adds (R107). -/
def actFadd (f : RF) (_ : Env) (c : Ctx) : Act :=
  legal (f.fn.toNat ≤ 1) (fBin f c fun a b => fAdd a b)

/-- The command: the running instance executes the instruction. -/
def execFadd (f : RF) (s : State) : Out := perform (actFadd f) s

/-- FSUB subtracts (R107). -/
def actFsub (f : RF) (_ : Env) (c : Ctx) : Act :=
  legal (f.fn.toNat ≤ 1) (fBin f c fun a b => fAdd a (fNegV b))

/-- The command: the running instance executes the instruction. -/
def execFsub (f : RF) (s : State) : Out := perform (actFsub f) s

/-- FMUL multiplies (R107). -/
def actFmul (f : RF) (_ : Env) (c : Ctx) : Act :=
  legal (f.fn.toNat ≤ 1) (fBin f c fun a b => fMul a b)

/-- The command: the running instance executes the instruction. -/
def execFmul (f : RF) (s : State) : Out := perform (actFmul f) s

/-- FDIV divides (R107). -/
def actFdiv (f : RF) (_ : Env) (c : Ctx) : Act :=
  legal (f.fn.toNat ≤ 1) (fBin f c fun a b => fDiv a b)

/-- The command: the running instance executes the instruction. -/
def execFdiv (f : RF) (s : State) : Out := perform (actFdiv f) s

/-- FSQRT takes a square root (R107). -/
def actFsqrt (f : RF) (_ : Env) (c : Ctx) : Act :=
  legal (f.fn.toNat ≤ 1 && f.rb = 0) (fBin f c fun a _ => fSqrt a)

/-- The command: the running instance executes the instruction. -/
def execFsqrt (f : RF) (s : State) : Out := perform (actFsqrt f) s

/-- FMIN returns the minimum (R107). -/
def actFmin (f : RF) (_ : Env) (c : Ctx) : Act :=
  legal (f.fn.toNat ≤ 1) (fBits f c fun m a b => fPick false m a b)

/-- The command: the running instance executes the instruction. -/
def execFmin (f : RF) (s : State) : Out := perform (actFmin f) s

/-- FMAX returns the maximum (R107). -/
def actFmax (f : RF) (_ : Env) (c : Ctx) : Act :=
  legal (f.fn.toNat ≤ 1) (fBits f c fun m a b => fPick true m a b)

/-- The command: the running instance executes the instruction. -/
def execFmax (f : RF) (s : State) : Out := perform (actFmax f) s

/-- FMADD multiplies and adds with one rounding (R107). -/
def actFmadd (f : RF) (_ : Env) (c : Ctx) : Act :=
  legal (f.fn.toNat ≤ 1) (fBin f c fun a b => fAdd (fMul a b) ((fmtOf f.fn).unpack (fArg (fmtOf f.fn) (getX c f.rd))))

/-- The command: the running instance executes the instruction. -/
def execFmadd (f : RF) (s : State) : Out := perform (actFmadd f) s

/-- FEQ compares for equality (R107). -/
def actFeq (f : RF) (_ : Env) (c : Ctx) : Act :=
  legal (f.fn.toNat ≤ 1) (fTest f c fun o => o = .eq)

/-- The command: the running instance executes the instruction. -/
def execFeq (f : RF) (s : State) : Out := perform (actFeq f) s

/-- FLT compares for less (R107). -/
def actFlt (f : RF) (_ : Env) (c : Ctx) : Act :=
  legal (f.fn.toNat ≤ 1) (fTest f c fun o => o = .lt)

/-- The command: the running instance executes the instruction. -/
def execFlt (f : RF) (s : State) : Out := perform (actFlt f) s

/-- FLE compares for less or equal (R107). -/
def actFle (f : RF) (_ : Env) (c : Ctx) : Act :=
  legal (f.fn.toNat ≤ 1) (fTest f c fun o => o ≠ .gt)

/-- The command: the running instance executes the instruction. -/
def execFle (f : RF) (s : State) : Out := perform (actFle f) s

/-- FNEG inverts the sign bit (R107). -/
def actFneg (f : RF) (_ : Env) (c : Ctx) : Act :=
  legal (f.fn.toNat ≤ 1 && f.rb = 0) (fBits f c fun m a _ => a ^^^ m.sign true)

/-- The command: the running instance executes the instruction. -/
def execFneg (f : RF) (s : State) : Out := perform (actFneg f) s

/-- FABS clears the sign bit (R107). -/
def actFabs (f : RF) (_ : Env) (c : Ctx) : Act :=
  legal (f.fn.toNat ≤ 1 && f.rb = 0) (fBits f c fun m a _ => a % 2 ^ (m.width - 1))

/-- The command: the running instance executes the instruction. -/
def execFabs (f : RF) (s : State) : Out := perform (actFabs f) s

/-- FCVT converts as FN selects (R108). -/
def actFcvt (f : RF) (_ : Env) (c : Ctx) : Act :=
  legal (f.rb = 0 && f.fn.toNat ≤ 5) (fin1 (setX c f.rd (fCvt f.fn.toNat (getX c f.ra))))

/-- The command: the running instance executes the instruction. -/
def execFcvt (f : RF) (s : State) : Out := perform (actFcvt f) s

end Sys2Proof.Machine
end

