-- ==== Sys2Proof/Machine/Integer.lean ====
section
/-! DEFINITION. Integer arithmetic, logic, shifts, comparisons and immediates (R99, R105). -/

namespace Sys2Proof.Machine

/-- The amount of a shift by a register. -/
def shiftBy (v : DWord) : Nat := v.toNat % 64

/-- The high 64 bits of a product. -/
def mulHigh (uns : Bool) (a b : DWord) : DWord :=
  if uns then BitVec.ofNat 64 (a.toNat * b.toNat / 2 ^ 64) else BitVec.ofInt 64 (a.toInt * b.toInt / 2 ^ 64)

/-- A division, which traps with DIVZERO on a zero divisor. -/
def divide (b : DWord) (c : Ctx) : Act := if b = 0 then .trap trapDivzero else fin1 c

/-- The low `n` bits, zero- or sign-extended. -/
def narrow (n : Nat) (sgn : Bool) (v : DWord) : DWord := if sgn then (v.truncate n).signExtend 64 else (v.truncate n).zeroExtend 64

/-- ADD adds (R105). -/
def actAdd (f : RF) (_ : Env) (c : Ctx) : Act :=
  legal (f.fn = 0) (fin1 (setX c f.rd (getX c f.ra + getX c f.rb)))

/-- The command: the running instance executes the instruction. -/
def execAdd (f : RF) (s : State) : Out := perform (actAdd f) s

/-- SUB subtracts (R105). -/
def actSub (f : RF) (_ : Env) (c : Ctx) : Act :=
  legal (f.fn = 0) (fin1 (setX c f.rd (getX c f.ra - getX c f.rb)))

/-- The command: the running instance executes the instruction. -/
def execSub (f : RF) (s : State) : Out := perform (actSub f) s

/-- MUL gives the low 64 bits of the product (R105). -/
def actMul (f : RF) (_ : Env) (c : Ctx) : Act :=
  legal (f.fn = 0) (fin1 (setX c f.rd (getX c f.ra * getX c f.rb)))

/-- The command: the running instance executes the instruction. -/
def execMul (f : RF) (s : State) : Out := perform (actMul f) s

/-- MULH gives the high 64 bits of the product (R105). -/
def actMulh (f : RF) (_ : Env) (c : Ctx) : Act :=
  legal (f.fn.toNat ≤ 1) (fin1 (setX c f.rd (mulHigh (f.fn.getLsbD 0) (getX c f.ra) (getX c f.rb))))

/-- The command: the running instance executes the instruction. -/
def execMulh (f : RF) (s : State) : Out := perform (actMulh f) s

/-- DIV divides, truncating towards zero (R105). -/
def actDiv (f : RF) (_ : Env) (c : Ctx) : Act :=
  legal (f.fn.toNat ≤ 1) (divide (getX c f.rb) (setX c f.rd (if f.fn.getLsbD 0 then getX c f.ra / getX c f.rb else (getX c f.ra).sdiv (getX c f.rb))))

/-- The command: the running instance executes the instruction. -/
def execDiv (f : RF) (s : State) : Out := perform (actDiv f) s

/-- REM gives the remainder, with the sign of the dividend (R105). -/
def actRem (f : RF) (_ : Env) (c : Ctx) : Act :=
  legal (f.fn.toNat ≤ 1) (divide (getX c f.rb) (setX c f.rd (if f.fn.getLsbD 0 then getX c f.ra % getX c f.rb else (getX c f.ra).srem (getX c f.rb))))

/-- The command: the running instance executes the instruction. -/
def execRem (f : RF) (s : State) : Out := perform (actRem f) s

/-- IAND computes a bitwise AND (R99). -/
def actIand (f : RF) (_ : Env) (c : Ctx) : Act :=
  legal (f.fn = 0) (fin1 (setX c f.rd (getX c f.ra &&& getX c f.rb)))

/-- The command: the running instance executes the instruction. -/
def execIand (f : RF) (s : State) : Out := perform (actIand f) s

/-- IOR computes a bitwise OR (R99). -/
def actIor (f : RF) (_ : Env) (c : Ctx) : Act :=
  legal (f.fn = 0) (fin1 (setX c f.rd (getX c f.ra ||| getX c f.rb)))

/-- The command: the running instance executes the instruction. -/
def execIor (f : RF) (s : State) : Out := perform (actIor f) s

/-- IXOR computes a bitwise exclusive OR (R99). -/
def actIxor (f : RF) (_ : Env) (c : Ctx) : Act :=
  legal (f.fn = 0) (fin1 (setX c f.rd (getX c f.ra ^^^ getX c f.rb)))

/-- The command: the running instance executes the instruction. -/
def execIxor (f : RF) (s : State) : Out := perform (actIxor f) s

/-- SHL shifts left by X[RB][5:0] (R99). -/
def actShl (f : RF) (_ : Env) (c : Ctx) : Act :=
  legal (f.fn = 0) (fin1 (setX c f.rd (getX c f.ra <<< shiftBy (getX c f.rb))))

/-- The command: the running instance executes the instruction. -/
def execShl (f : RF) (s : State) : Out := perform (actShl f) s

/-- SHR shifts right logically by X[RB][5:0] (R99). -/
def actShr (f : RF) (_ : Env) (c : Ctx) : Act :=
  legal (f.fn = 0) (fin1 (setX c f.rd (getX c f.ra >>> shiftBy (getX c f.rb))))

/-- The command: the running instance executes the instruction. -/
def execShr (f : RF) (s : State) : Out := perform (actShr f) s

/-- SAR shifts right arithmetically by X[RB][5:0] (R99). -/
def actSar (f : RF) (_ : Env) (c : Ctx) : Act :=
  legal (f.fn = 0) (fin1 (setX c f.rd ((getX c f.ra).sshiftRight (shiftBy (getX c f.rb)))))

/-- The command: the running instance executes the instruction. -/
def execSar (f : RF) (s : State) : Out := perform (actSar f) s

/-- SLT compares, signed or unsigned (R99). -/
def actSlt (f : RF) (_ : Env) (c : Ctx) : Act :=
  legal (f.fn.toNat ≤ 1) (fin1 (setX c f.rd (truth (if f.fn.getLsbD 0 then (getX c f.ra).ult (getX c f.rb) else (getX c f.ra).slt (getX c f.rb)))))

/-- The command: the running instance executes the instruction. -/
def execSlt (f : RF) (s : State) : Out := perform (actSlt f) s

/-- EXT narrows to 8, 16 or 32 bits (R105). -/
def actExt (f : RF) (_ : Env) (c : Ctx) : Act :=
  legal (f.rb = 0 && f.fn.toNat ≤ 7 && f.fn.toNat % 4 ≠ 3) (fin1 (setX c f.rd (narrow (8 * 2 ^ (f.fn.toNat % 4)) (f.fn.getLsbD 2) (getX c f.ra))))

/-- The command: the running instance executes the instruction. -/
def execExt (f : RF) (s : State) : Out := perform (actExt f) s

/-- ADDI adds a signed immediate (R99). -/
def actAddi (f : IF) (_ : Env) (c : Ctx) : Act :=
  fin1 (setX c f.rd (getX c f.ra + simm f.imm))

/-- The command: the running instance executes the instruction. -/
def execAddi (f : IF) (s : State) : Out := perform (actAddi f) s

/-- ANDI ANDs with an immediate (R99). -/
def actAndi (f : IF) (_ : Env) (c : Ctx) : Act :=
  fin1 (setX c f.rd (getX c f.ra &&& simm f.imm))

/-- The command: the running instance executes the instruction. -/
def execAndi (f : IF) (s : State) : Out := perform (actAndi f) s

/-- ORI ORs with an immediate (R99). -/
def actOri (f : IF) (_ : Env) (c : Ctx) : Act :=
  fin1 (setX c f.rd (getX c f.ra ||| simm f.imm))

/-- The command: the running instance executes the instruction. -/
def execOri (f : IF) (s : State) : Out := perform (actOri f) s

/-- XORI exclusive-ORs with an immediate (R99). -/
def actXori (f : IF) (_ : Env) (c : Ctx) : Act :=
  fin1 (setX c f.rd (getX c f.ra ^^^ simm f.imm))

/-- The command: the running instance executes the instruction. -/
def execXori (f : IF) (s : State) : Out := perform (actXori f) s

/-- SHLI shifts left by IMM[5:0] (R99). -/
def actShli (f : IF) (_ : Env) (c : Ctx) : Act :=
  legal (f.imm.toNat < 64) (fin1 (setX c f.rd (getX c f.ra <<< f.imm.toNat)))

/-- The command: the running instance executes the instruction. -/
def execShli (f : IF) (s : State) : Out := perform (actShli f) s

/-- SHRI shifts right logically by IMM[5:0] (R99). -/
def actShri (f : IF) (_ : Env) (c : Ctx) : Act :=
  legal (f.imm.toNat < 64) (fin1 (setX c f.rd (getX c f.ra >>> f.imm.toNat)))

/-- The command: the running instance executes the instruction. -/
def execShri (f : IF) (s : State) : Out := perform (actShri f) s

/-- SARI shifts right arithmetically by IMM[5:0] (R99). -/
def actSari (f : IF) (_ : Env) (c : Ctx) : Act :=
  legal (f.imm.toNat < 64) (fin1 (setX c f.rd ((getX c f.ra).sshiftRight f.imm.toNat)))

/-- The command: the running instance executes the instruction. -/
def execSari (f : IF) (s : State) : Out := perform (actSari f) s

/-- SLTI compares with a signed immediate (R99). -/
def actSlti (f : IF) (_ : Env) (c : Ctx) : Act :=
  fin1 (setX c f.rd (truth ((getX c f.ra).slt (simm f.imm))))

/-- The command: the running instance executes the instruction. -/
def execSlti (f : IF) (s : State) : Out := perform (actSlti f) s

/-- LIX loads a sign-extended 32-bit immediate (R99). -/
def actLix (f : LXF) (_ : Env) (c : Ctx) : Act :=
  extended c <| legal (f.low = 0) (fin2 (setX c f.rd (f.imm32.signExtend 64)))

/-- The command: the running instance executes the instruction. -/
def execLix (f : LXF) (s : State) : Out := perform (actLix f) s

/-- LIXH loads the high half of a register (R99). -/
def actLixh (f : LXF) (_ : Env) (c : Ctx) : Act :=
  extended c <| legal (f.low = 0) (fin2 (setX c f.rd (f.imm32 ++ (getX c f.rd).truncate 32)))

/-- The command: the running instance executes the instruction. -/
def execLixh (f : LXF) (s : State) : Out := perform (actLixh f) s

end Sys2Proof.Machine
end

