-- ==== Sys2Proof/Machine/MemForms.lean ====
section
/-! DEFINITION. Loads and stores (R106). -/

namespace Sys2Proof.Machine

/-- LM8 loads 1 byte (R106). -/
def actLm8 (f : IF) (_ : Env) (c : Ctx) : Act :=
  loadForm f 1 c fun v => BitVec.ofNat 64 v

/-- The command: the running instance executes the instruction. -/
def execLm8 (f : IF) (s : State) : Out := perform (actLm8 f) s

/-- LM8S loads 1 byte, sign-extended (R106). -/
def actLm8s (f : IF) (_ : Env) (c : Ctx) : Act :=
  loadForm f 1 c fun v => (BitVec.ofNat 8 v).signExtend 64

/-- The command: the running instance executes the instruction. -/
def execLm8s (f : IF) (s : State) : Out := perform (actLm8s f) s

/-- LM16 loads 2 bytes (R106). -/
def actLm16 (f : IF) (_ : Env) (c : Ctx) : Act :=
  loadForm f 2 c fun v => BitVec.ofNat 64 v

/-- The command: the running instance executes the instruction. -/
def execLm16 (f : IF) (s : State) : Out := perform (actLm16 f) s

/-- LM16S loads 2 bytes, sign-extended (R106). -/
def actLm16s (f : IF) (_ : Env) (c : Ctx) : Act :=
  loadForm f 2 c fun v => (BitVec.ofNat 16 v).signExtend 64

/-- The command: the running instance executes the instruction. -/
def execLm16s (f : IF) (s : State) : Out := perform (actLm16s f) s

/-- LM32 loads 4 bytes (R106). -/
def actLm32 (f : IF) (_ : Env) (c : Ctx) : Act :=
  loadForm f 4 c fun v => BitVec.ofNat 64 v

/-- The command: the running instance executes the instruction. -/
def execLm32 (f : IF) (s : State) : Out := perform (actLm32 f) s

/-- LM32S loads 4 bytes, sign-extended (R106). -/
def actLm32s (f : IF) (_ : Env) (c : Ctx) : Act :=
  loadForm f 4 c fun v => (BitVec.ofNat 32 v).signExtend 64

/-- The command: the running instance executes the instruction. -/
def execLm32s (f : IF) (s : State) : Out := perform (actLm32s f) s

/-- LM64 loads 8 bytes (R106). -/
def actLm64 (f : IF) (_ : Env) (c : Ctx) : Act :=
  loadForm f 8 c fun v => BitVec.ofNat 64 v

/-- The command: the running instance executes the instruction. -/
def execLm64 (f : IF) (s : State) : Out := perform (actLm64 f) s

/-- SM8 stores 1 byte (R106). -/
def actSm8 (f : IF) (_ : Env) (c : Ctx) : Act :=
  storeForm f 1 c

/-- The command: the running instance executes the instruction. -/
def execSm8 (f : IF) (s : State) : Out := perform (actSm8 f) s

/-- SM16 stores 2 bytes (R106). -/
def actSm16 (f : IF) (_ : Env) (c : Ctx) : Act :=
  storeForm f 2 c

/-- The command: the running instance executes the instruction. -/
def execSm16 (f : IF) (s : State) : Out := perform (actSm16 f) s

/-- SM32 stores 4 bytes (R106). -/
def actSm32 (f : IF) (_ : Env) (c : Ctx) : Act :=
  storeForm f 4 c

/-- The command: the running instance executes the instruction. -/
def execSm32 (f : IF) (s : State) : Out := perform (actSm32 f) s

/-- SM64 stores 8 bytes (R106). -/
def actSm64 (f : IF) (_ : Env) (c : Ctx) : Act :=
  storeForm f 8 c

/-- The command: the running instance executes the instruction. -/
def execSm64 (f : IF) (s : State) : Out := perform (actSm64 f) s

end Sys2Proof.Machine
end

