-- ==== Sys2Proof/Machine/Points.lean ====
section
/-! DEFINITION. Points and registers (R104, R109). -/

namespace Sys2Proof.Machine

/-- LDB loads a bit point (R104). -/
def actLdb (f : PXF) (_ : Env) (c : Ctx) : Act :=
  extended c <| legal (pxOk false false true f) (onPoint (pxKey isBitCls false f c) fun k =>
    readBit k fun p => fin2 (setX c f.rd (truth p)))

/-- The command: the running instance executes the instruction. -/
def execLdb (f : PXF) (s : State) : Out := perform (actLdb f) s

/-- STB writes bit 0 of a register to a bit point (R104). -/
def actStb (f : PXF) (_ : Env) (c : Ctx) : Act :=
  extended c <| legal (pxOk false false true f) (onPoint (pxKey isBitCls true f c) fun k =>
    writeBit k ((getX c f.rd).getLsbD 0) (fin2 c))

/-- The command: the running instance executes the instruction. -/
def execStb (f : PXF) (s : State) : Out := perform (actStb f) s

/-- LDW loads a word point, zero- or sign-extended (R104). -/
def actLdw (f : PXF) (_ : Env) (c : Ctx) : Act :=
  extended c <| legal (pxOk true false true f) (onPoint (pxKey isWordCls false f c) fun k =>
    .readPoint k fun v => fin2 (setX c f.rd (if f.sgn then v.signExtend 64 else v.zeroExtend 64)))

/-- The command: the running instance executes the instruction. -/
def execLdw (f : PXF) (s : State) : Out := perform (actLdw f) s

/-- STW writes the low 32 bits of a register to a word point (R104). -/
def actStw (f : PXF) (_ : Env) (c : Ctx) : Act :=
  extended c <| legal (pxOk false false true f) (onPoint (pxKey isWordCls true f c) fun k =>
    .writePoint k ((getX c f.rd).truncate 32) (fin2 c))

/-- The command: the running instance executes the instruction. -/
def execStw (f : PXF) (s : State) : Out := perform (actStw f) s

/-- BPS branches if a bit point is 1 (R109). -/
def actBps (f : PXF) (_ : Env) (c : Ctx) : Act :=
  extended c <| legal (pxOk false true false f) (onPoint (pxKey isBitCls false f c) fun k =>
    readBit k fun p => branch p f.off.toInt 2 c)

/-- The command: the running instance executes the instruction. -/
def execBps (f : PXF) (s : State) : Out := perform (actBps f) s

/-- BPC branches if a bit point is 0 (R109). -/
def actBpc (f : PXF) (_ : Env) (c : Ctx) : Act :=
  extended c <| legal (pxOk false true false f) (onPoint (pxKey isBitCls false f c) fun k =>
    readBit k fun p => branch (!p) f.off.toInt 2 c)

/-- The command: the running instance executes the instruction. -/
def execBpc (f : PXF) (s : State) : Out := perform (actBpc f) s

end Sys2Proof.Machine
end

