-- ==== Sys2Proof/Machine/Code.lean ====
section
/-! DEFINITION. The opcode table over the words of the code region (R96 to R99) with the cycle figures of R120: what run-ahead
and a debug step fetch and execute. -/

namespace Sys2Proof.Machine

/-! The formats of R96. -/

/-- Bits [hi:lo] of a code word. -/
def cbits (w hi lo : Nat) : BitVec (hi - lo + 1) := BitVec.ofNat _ (w / 2 ^ lo)

def nf (w : Nat) : NF := { z := cbits w 23 0 }
def pf (w : Nat) : PF := { mod := cbits w 23 21, cls := cbits w 20 18, idx := cbits w 17 0 }
def rf (w : Nat) : RF := { rd := cbits w 23 19, ra := cbits w 18 14, rb := cbits w 13 9, fn := cbits w 8 0 }
def if_ (w : Nat) : IF := { rd := cbits w 23 19, ra := cbits w 18 14, imm := cbits w 13 0 }
def bf (w : Nat) : BF := { ra := cbits w 23 19, rb := cbits w 18 14, off := cbits w 13 0 }
def jf (w : Nat) : JF := { tgt := cbits w 23 0 }

/-- Format PX, with its extension word. -/
def pxf (w x : Nat) : PXF :=
  { rd := cbits w 23 19, rb := cbits w 18 14, off := cbits w 13 0, top := cbits x 31 24, sgn := x.testBit 23,
    indexed := x.testBit 22, step := x.testBit 21, cls := cbits x 20 18, idx := cbits x 17 0 }

/-- Format LX, with its extension word. -/
def lxf (w x : Nat) : LXF := { rd := cbits w 23 19, low := cbits w 18 0, imm32 := cbits x 31 0 }

/-- A row of the opcode table: the opcode, the figure of R120 in leaf cycles (0: a bit operation), and what a word with its
extension does. -/
structure CodeRow where
  op : Nat
  cycles : Nat
  run : Nat → Nat → Env → Ctx → Act

/-- Opcodes 0x01 to 0x1D. -/
def bitRows : List CodeRow := [
  ⟨0x01, 1, fun w _ => actNop (nf w)⟩,
  ⟨0x02, 13, fun w _ => actEndI (nf w)⟩,
  ⟨0x03, 1, fun w _ => actBrk (nf w)⟩,
  ⟨0x04, 0, fun w _ => actNotI (nf w)⟩,
  ⟨0x05, 0, fun w _ => actPush (nf w)⟩,
  ⟨0x06, 0, fun w _ => actPopand (nf w)⟩,
  ⟨0x07, 0, fun w _ => actPopor (nf w)⟩,
  ⟨0x08, 0, fun w _ => actPopxor (nf w)⟩,
  ⟨0x09, 0, fun w _ => actLdt (nf w)⟩,
  ⟨0x0A, 1, fun w _ => actSeg (nf w)⟩,
  ⟨0x0B, 3, fun w _ => actRet (nf w)⟩,
  ⟨0x0C, 1, fun w _ => actMovla (rf w)⟩,
  ⟨0x0D, 1, fun w _ => actSetla (rf w)⟩,
  ⟨0x10, 0, fun w _ => actLd (pf w)⟩,
  ⟨0x11, 0, fun w _ => actLdn (pf w)⟩,
  ⟨0x12, 0, fun w _ => actAndI (pf w)⟩,
  ⟨0x13, 0, fun w _ => actAndn (pf w)⟩,
  ⟨0x14, 0, fun w _ => actOrI (pf w)⟩,
  ⟨0x15, 0, fun w _ => actOrn (pf w)⟩,
  ⟨0x16, 0, fun w _ => actXorI (pf w)⟩,
  ⟨0x17, 0, fun w _ => actXorn (pf w)⟩,
  ⟨0x18, 0, fun w _ => actSt (pf w)⟩,
  ⟨0x19, 0, fun w _ => actStn (pf w)⟩,
  ⟨0x1A, 0, fun w _ => actSetI (pf w)⟩,
  ⟨0x1B, 0, fun w _ => actRst (pf w)⟩,
  ⟨0x1C, 0, fun w _ => actRed (pf w)⟩,
  ⟨0x1D, 0, fun w _ => actFed (pf w)⟩]

/-- Opcodes 0x20 to 0x35. -/
def pointRows : List CodeRow := [
  ⟨0x20, 8, fun w _ => actTon (pf w)⟩,
  ⟨0x21, 8, fun w _ => actTof (pf w)⟩,
  ⟨0x22, 8, fun w _ => actTp (pf w)⟩,
  ⟨0x23, 8, fun w _ => actCtu (pf w)⟩,
  ⟨0x24, 8, fun w _ => actCtd (pf w)⟩,
  ⟨0x25, 8, fun w _ => actCrst (pf w)⟩,
  ⟨0x30, 2, fun w x => actLdb (pxf w x)⟩,
  ⟨0x31, 2, fun w x => actStb (pxf w x)⟩,
  ⟨0x32, 2, fun w x => actLdw (pxf w x)⟩,
  ⟨0x33, 2, fun w x => actStw (pxf w x)⟩,
  ⟨0x34, 13, fun w x => actBps (pxf w x)⟩,
  ⟨0x35, 13, fun w x => actBpc (pxf w x)⟩]

/-- Opcodes 0x40 to 0x59. -/
def intRows : List CodeRow := [
  ⟨0x40, 1, fun w _ => actAdd (rf w)⟩,
  ⟨0x41, 1, fun w _ => actSub (rf w)⟩,
  ⟨0x42, 3, fun w _ => actMul (rf w)⟩,
  ⟨0x43, 4, fun w _ => actMulh (rf w)⟩,
  ⟨0x44, 68, fun w _ => actDiv (rf w)⟩,
  ⟨0x45, 68, fun w _ => actRem (rf w)⟩,
  ⟨0x46, 1, fun w _ => actIand (rf w)⟩,
  ⟨0x47, 1, fun w _ => actIor (rf w)⟩,
  ⟨0x48, 1, fun w _ => actIxor (rf w)⟩,
  ⟨0x49, 1, fun w _ => actShl (rf w)⟩,
  ⟨0x4A, 1, fun w _ => actShr (rf w)⟩,
  ⟨0x4B, 1, fun w _ => actSar (rf w)⟩,
  ⟨0x4C, 1, fun w _ => actSlt (rf w)⟩,
  ⟨0x4D, 1, fun w _ => actExt (rf w)⟩,
  ⟨0x50, 1, fun w _ => actAddi (if_ w)⟩,
  ⟨0x51, 1, fun w _ => actAndi (if_ w)⟩,
  ⟨0x52, 1, fun w _ => actOri (if_ w)⟩,
  ⟨0x53, 1, fun w _ => actXori (if_ w)⟩,
  ⟨0x54, 1, fun w _ => actShli (if_ w)⟩,
  ⟨0x55, 1, fun w _ => actShri (if_ w)⟩,
  ⟨0x56, 1, fun w _ => actSari (if_ w)⟩,
  ⟨0x57, 1, fun w _ => actSlti (if_ w)⟩,
  ⟨0x58, 2, fun w x => actLix (lxf w x)⟩,
  ⟨0x59, 2, fun w x => actLixh (lxf w x)⟩]

/-- Opcodes 0x60 to 0x81. -/
def memRows : List CodeRow := [
  ⟨0x60, 120, fun w _ => actLm8 (if_ w)⟩,
  ⟨0x61, 120, fun w _ => actLm8s (if_ w)⟩,
  ⟨0x62, 120, fun w _ => actLm16 (if_ w)⟩,
  ⟨0x63, 120, fun w _ => actLm16s (if_ w)⟩,
  ⟨0x64, 120, fun w _ => actLm32 (if_ w)⟩,
  ⟨0x65, 120, fun w _ => actLm32s (if_ w)⟩,
  ⟨0x66, 120, fun w _ => actLm64 (if_ w)⟩,
  ⟨0x68, 4, fun w _ => actSm8 (if_ w)⟩,
  ⟨0x69, 4, fun w _ => actSm16 (if_ w)⟩,
  ⟨0x6A, 4, fun w _ => actSm32 (if_ w)⟩,
  ⟨0x6B, 4, fun w _ => actSm64 (if_ w)⟩,
  ⟨0x70, 13, fun w _ => actBeq (bf w)⟩,
  ⟨0x71, 13, fun w _ => actBne (bf w)⟩,
  ⟨0x72, 13, fun w _ => actBlt (bf w)⟩,
  ⟨0x73, 13, fun w _ => actBge (bf w)⟩,
  ⟨0x74, 13, fun w _ => actBltu (bf w)⟩,
  ⟨0x75, 13, fun w _ => actBgeu (bf w)⟩,
  ⟨0x78, 3, fun w _ => actJmp (jf w)⟩,
  ⟨0x79, 3, fun w _ => actCall (jf w)⟩,
  ⟨0x7A, 13, fun w _ => actBlat (jf w)⟩,
  ⟨0x7B, 13, fun w _ => actBlaf (jf w)⟩,
  ⟨0x7C, 13, fun w _ => actJmpr (rf w)⟩,
  ⟨0x7D, 13, fun w _ => actCallr (rf w)⟩,
  ⟨0x80, 1, fun w _ => actRpti (if_ w)⟩,
  ⟨0x81, 1, fun w _ => actRptu (if_ w)⟩]

/-- Opcodes 0x90 to 0xB1. -/
def floatRows : List CodeRow := [
  ⟨0x90, 4, fun w _ => actFadd (rf w)⟩,
  ⟨0x91, 4, fun w _ => actFsub (rf w)⟩,
  ⟨0x92, 4, fun w _ => actFmul (rf w)⟩,
  ⟨0x93, 12, fun w _ => actFdiv (rf w)⟩,
  ⟨0x94, 12, fun w _ => actFsqrt (rf w)⟩,
  ⟨0x95, 4, fun w _ => actFmin (rf w)⟩,
  ⟨0x96, 4, fun w _ => actFmax (rf w)⟩,
  ⟨0x97, 5, fun w _ => actFmadd (rf w)⟩,
  ⟨0x98, 4, fun w _ => actFeq (rf w)⟩,
  ⟨0x99, 4, fun w _ => actFlt (rf w)⟩,
  ⟨0x9A, 4, fun w _ => actFle (rf w)⟩,
  ⟨0x9B, 4, fun w _ => actFneg (rf w)⟩,
  ⟨0x9C, 4, fun w _ => actFabs (rf w)⟩,
  ⟨0x9D, 4, fun w _ => actFcvt (rf w)⟩,
  ⟨0xA0, 60, fun w _ => actEmit (rf w)⟩,
  ⟨0xA1, 400, fun w _ => actUnitw (rf w)⟩,
  ⟨0xA2, 400, fun w _ => actWchk (if_ w)⟩,
  ⟨0xA3, 40, fun w _ => actEvtrig (if_ w)⟩,
  ⟨0xA4, 400, fun w _ => actPstw (rf w)⟩,
  ⟨0xB0, 1, fun w _ => actRdfn (rf w)⟩,
  ⟨0xB1, 1, fun w _ => actRdft (rf w)⟩]

/-- The opcode table of R99. -/
def codeRows : List CodeRow := bitRows ++ pointRows ++ intRows ++ memRows ++ floatRows

/-- The row of a code word; none is an opcode that the table does not list. -/
def codeRow (w : Nat) : Option CodeRow := codeRows.find? fun r => r.op = w / 2 ^ 24

/-- What the instruction at the PC does: the words as `e` shows them (R95, R97). -/
def codeAct (e : Env) (c : Ctx) : Act :=
  let w := e.word c.pc
  match codeRow w with
  | some r => r.run w (e.word (c.pc + 1)) e c
  | none => .trap trapIllegal

/-- The figure of R120 of an instruction at the PC, where `k` consecutive bit operations precede it: a run of up to four
costs one cycle, and so do four iterations of a repeated bit operation. -/
def codeCycles (k : Nat) (e : Env) (c : Ctx) : Nat :=
  let w := e.word c.pc
  match codeRow w with
  | some r =>
    if r.cycles = 0 then (if (match c.rep with | some p => p.iter | none => k) % 4 = 0 then 1 else 0)
    else if (w / 2 ^ 24 = 0x93 || w / 2 ^ 24 = 0x94) && w % 2 = 1 then (if w / 2 ^ 24 = 0x93 then 20 else 22)
    else r.cycles
  | none => 0

/-- The instruction at the PC is a bit operation. -/
def isBitOp (e : Env) (c : Ctx) : Bool :=
  match codeRow (e.word c.pc) with
  | some r => r.cycles = 0
  | none => false

/-! A debug step (R446). -/

/-- The halted instance executes the instruction at its PC. -/
def stepInst (t : Nat) (s : State) : State :=
  match getInst s t with
  | some i => if i.st = .ended then s else runInstr t codeAct i s
  | none => s

/-- The rest of an RPTU executes with the step that began it. -/
def stepRest : Nat → Nat → State → State
  | 0, _, s => s
  | n + 1, t, s =>
    match getInst s t with
    | some i => if i.st ≠ .ended && inRptu i then stepRest n t (stepInst t s) else s
    | none => s

/-- A STEP that an accepted write of DBG.CTL requested. -/
def serveStep (s : State) : State :=
  if !s.leaf.stepReq then s
  else
    let s := { s with leaf := { s.leaf with stepReq := false } }
    match s.leaf.haltedInst with
    | some t => putFld (stepRest 256 t (stepInst t s)) Reg.DBG_STAT 3 1 4
    | none => s

end Sys2Proof.Machine
end

