-- ==== Sys2Proof/Machine/Spec.lean ====
section
/-! DEFINITION. Run-ahead: the instances that it takes, what it reads, its ledgers and write buffer, and where it stops (R122 to
R129, R139 to R141). -/

namespace Sys2Proof.Machine

/-! What it takes (R122, R123). -/

/-- The frame that run-ahead works for now: the current one before its IC, else the next. -/
def aheadFrame (s : State) : Nat := if s.frm.phase = 0 then fnum s else fnum s + 1

/-- The leaves are free for run-ahead: in RUN, not halted, with no instance ready, for a frame that no rule bars. -/
def mayRunAhead (s : State) : Bool :=
  let f := aheadFrame s
  s.frm.ticking && curMode s = modeRun && !s.leaf.actHalt && !s.leaf.dbgHalt && s.flt.cdr.isNone && s.pads.pfailB &&
    (haspState s = 0 || haspState s = 2 || haspState s = 4) &&
    !(s.frm.compute && s.frm.insts.any fun p => isReady p.2) &&
    !s.spec.full && s.spec.barred ≠ some f && !leafBars s f

/-- Run-ahead is enabled for a task; event tasks are never run ahead. -/
def aheadEn (s : State) (t : Nat) : Bool := t < 32 && flag s Reg.SPEC_TASKEN t

/-- The instance of task `t` that T0(f) will release. -/
def futureInst (s : State) (f t : Nat) : Option Inst :=
  if aheadEn s t && cyclicDue s t f && ((getInst s t).map (·.st)).getD .ended = .ended then
    (alGet s.frm.tasks t).map fun e => newInst s e f (f + fld s (Reg.FRM_TASKCFG t) 20 10 - 1) (tickAt s f) false
  else none

/-- The instance of task `t` that run-ahead takes for frame `f`. -/
def aheadInst (s : State) (f t : Nat) : Option Inst :=
  match getInst s t with
  | some i =>
    if i.st = .suspended || (s.frm.phase = 0 && i.st = .ready && !i.started && i.ctx.relFrame = f) then
      if aheadEn s t then some i else none
    else if s.frm.phase = 0 then none else futureInst s f t
  | none => if s.frm.phase = 0 then none else futureInst s f t

/-- The instances that run-ahead takes for frame `f`. -/
def aheadInsts (s : State) (f : Nat) : List (Nat × Inst) :=
  (List.range 32).filterMap fun t => (aheadInst s f t).map fun i => (t, i)

/-- The next instance in the order of R66 that has no work yet. -/
def nextAhead (s : State) (f : Nat) : Option (Nat × Inst) :=
  firstOf (runsBefore s) ((aheadInsts s f).filter fun p => !s.spec.work.any fun w => w.tid = p.1)

/-! The prediction (R126). -/

/-- The predicted input image, in SPEC and in the window. -/
def buildPrediction (f : Nat) (s : State) : State :=
  let img := applyOver s.frm.inImg (inputForces s)
  let s := rewriteRegion (rewriteRegion s predBase clsIX img) (predBase + 0x40_0000) clsIW img
  { s with spec := { s.spec with frame := some f, pred := img, work := [], full := false } }

/-! The write buffer (R125, R129). -/

/-- The speculative writes of an instance, in program order. -/
def workWrites (w : Work) : List (Nat × DWord × Nat) := (w.segs ++ w.cur.toList).flatMap (·.writes)

/-- The leaf's speculative write buffer, in program order. -/
def specWrites (s : State) : List (Nat × DWord × Nat) := s.spec.work.flatMap workWrites

/-- The latest write of a point in a buffer. -/
def specPoint (l : List (Nat × DWord × Nat)) (k : Nat) : Option Word :=
  ((l.filter fun w => w.2.2 = 0 && w.1 = k).getLast?).map fun w => w.2.1.truncate 32

/-- The latest write of a byte of working memory in a buffer. -/
def specByte (l : List (Nat × DWord × Nat)) (a : Nat) : Option Byte :=
  ((l.filter fun w => 0 < w.2.2 && w.1 ≤ a && a < w.1 + w.2.2).getLast?).map fun w =>
    BitVec.ofNat 8 (w.2.1.toNat / 256 ^ (a - w.1))

/-- Bytes of working memory under a buffer. -/
def specBytes (l : List (Nat × DWord × Nat)) (s : State) (a n : Nat) : List Byte :=
  (List.range n).map fun i => (specByte l (a + i)).getD (seenByte s (a + i))

/-- A number in working memory under a buffer. -/
def specNat (l : List (Nat × DWord × Nat)) (s : State) (a n : Nat) : Nat := leNat (specBytes l s a n)

/-- An access to the word of an address would end in an error response: it is uncorrectable, and no write in the buffer
covers it whole. -/
def specBad (l : List (Nat × DWord × Nat)) (s : State) (a : Nat) : Bool :=
  eccAt s a = .double && !(List.range 8).all fun i => (specByte l (a / 8 * 8 + i)).isSome

/-- A single-bit error that a speculative read meets is corrected. -/
def specCorrect (a : Nat) (s : State) : State :=
  match eccAt s a with
  | .single _ => corrected a 0 s
  | _ => s

/-! The ledger (R128). -/

/-- Enters a location into a segment's ledger. -/
def enterLedger (loc : Nat) (v : Word) (g : Seg) : Seg :=
  if g.overflow || g.reads.any fun p => p.1 = loc then g
  else if 4096 ≤ g.reads.length then { g with overflow := true }
  else { g with reads := g.reads ++ [(loc, v)] }

/-! Execution. -/

/-- How a speculative instruction ended: with a context, at END, at SEG, or before it, with the cause of R140. -/
inductive SpecEnd where
  | done (c : Ctx)
  | ended
  | seg (c : Ctx)
  | stop (cause : Nat)
  deriving DecidableEq, Repr

def stopIc : Nat := 1
def stopFence : Nat := 2
def stopDevice : Nat := 3
def stopTrap : Nat := 4
def stopBrk : Nat := 5
def stopSegs : Nat := 6
def stopFull : Nat := 7
def stopDone : Nat := 8

/-- A speculative read of a point (R125): `own` are the earlier writes of the instance, `all` those of the leaf. -/
def specRead (s : State) (i : Inst) (own all : List (Nat × DWord × Nat)) (k : Nat) : Option Word :=
  let c := pcls k
  if c = clsIX || c = clsIW then some (imgGet (if i.frozen then i.img else s.spec.pred) k)
  else if c = clsQX || c = clsQW then
    some ((specPoint own k).getD ((alGet i.qw k).getD (imgGet (if i.frozen then i.outImg else s.frm.last) k)))
  else match specPoint all k with
    | some v => some v
    | none => if eccAt s (pointAddr k) = .double then none else some (windowPoint s k)

/-- Executes the accesses of an instruction speculatively: only `g` and the counts of corrected errors change. -/
def runSpec (i : Inst) (own all : List (Nat × DWord × Nat)) : Act → Seg → State → SpecEnd × Seg × State
  | .done c, g, s => (.done c, g, s)
  | .trap _, g, s => (.stop stopTrap, g, s)
  | .ended, g, s => (.ended, g, s)
  | .seg c, g, s => (.seg c, g, s)
  | .brk _, g, s => (.stop stopBrk, g, s)
  | .readPoint k f, g, s =>
    match specRead s i (own ++ g.writes) (all ++ g.writes) k with
    | some v => runSpec i own all (f v) (enterLedger k v g) (if inMarkers (pointAddr k) then specCorrect (pointAddr k) s else s)
    | none => (.stop stopTrap, g, s)
  | .writePoint k v r, g, s =>
    if 65536 ≤ all.length + g.writes.length then (.stop stopFull, g, s)
    else if inMarkers (pointAddr k) && specBad [] s (pointAddr k) then (.stop stopTrap, g, s)
    else runSpec i own all r { g with writes := g.writes ++ [(k, v.zeroExtend 64, 0)] } s
  | .load a n f, g, s =>
    if a % n ≠ 0 || specBad (all ++ g.writes) s a then (.stop stopTrap, g, s)
    else
      let v := specNat (all ++ g.writes) s a n
      runSpec i own all (f v) (enterLedger (2 ^ 21 + a / 64) 0 g) (specCorrect a s)
  | .store a b r, g, s =>
    if a % b.length ≠ 0 || (b.length < 8 && specBad (all ++ g.writes) s a) then (.stop stopTrap, g, s)
    else if 65536 ≤ all.length + g.writes.length then (.stop stopFull, g, s)
    else runSpec i own all r { g with writes := g.writes ++ [(a, BitVec.ofNat 64 (leNat b), b.length)] } s
  | .device _ _ _, g, s => (.stop stopDevice, g, s)
  | .fence _ _, g, s => (.stop stopFence, g, s)

/-- Puts the work of an instance into SPEC. -/
def putWork (w : Work) (s : State) : State :=
  let upd (v : Work) : Work := if v.tid = w.tid then w else v
  { s with spec := { s.spec with work := s.spec.work.map upd } }

/-- BUFPEAK follows the occupancy. -/
def notePeak (s : State) : State :=
  putFld s Reg.SPEC_BUFPEAK 16 0 (max (fld s Reg.SPEC_BUFPEAK 16 0) (specWrites s).length)

/-- A fault that SPEC raises at most once per frame (R141). -/
def specRaise (code : Nat) (mas : BitVec 4) (s : State) : State :=
  if s.spec.raised.contains code then s
  else report code 0 mas { s with spec := { s.spec with raised := code :: s.spec.raised } }

/-- Run-ahead of an instance stops before its next instruction, or all run-ahead does where the buffer is full (R129). -/
def stopWork (k : Nat) (w : Work) (s : State) : State :=
  let s := specStop (if k = stopFull then 3 else 2) k (putWork (closeWork w) s)
  if k = stopFull then
    specRaise 0x0402 0xF { s with spec := { s.spec with full := true, work := s.spec.work.map closeWork } }
  else if k = stopSegs then specRaise 0x0401 0xF s
  else s

/-- A breakpoint at an index is armed: run-ahead stops there as at BRK (R447). -/
def breakAt (s : State) (pc : Nat) : Bool :=
  (List.range 4).any fun k => flag s Reg.DBG_BPCFG (4 + k) && regNat s (Reg.DBG_BP k) = pc

/-- The 64-byte lines of memory that an instruction is fetched from. -/
def fetchLines (base : Nat) (e : Env) (c : Ctx) : List Nat := (fetchIdx e.word c).map fun j => (base + 4 * j) / 64

/-- An instruction has run ahead in a segment. A repeated bit operation stands in no run of bit operations (R120). -/
def countInstr (base : Nat) (e : Env) (c : Ctx) (g : Seg) : Seg :=
  { g with instrs := g.instrs + 1, budget := g.budget + codeCycles g.bitRun e c,
           bitRun := if isBitOp e c && c.rep.isNone then g.bitRun + 1 else 0,
           code := g.code ++ (fetchLines base e c).filter fun l => !g.code.contains l }

/-- Run-ahead executes the next instruction of the work of an instance. -/
def specInstr (w : Work) (i : Inst) (g : Seg) (s : State) : State :=
  let all := specWrites s
  let c := g.exitCtx
  let e : Env := { envOf s i with word := fun j => specNat all s (codeBase s + 4 * j) 4 }
  if 2 ^ 24 ≤ c.pc then stopWork stopTrap w s
  else if breakAt s c.pc then stopWork stopBrk w s
  else if (fetchIdx e.word c).any fun j => specBad all s (codeBase s + 4 * j) then stopWork stopTrap w s
  else
    let s := forAll (fetchIdx e.word c) (fun s j => specCorrect (codeBase s + 4 * j) s) s
    match runSpec i (workWrites w) all (codeAct e c) { g with writes := [] } s with
    | (r, g', s) =>
      let g' := countInstr (codeBase s) e c { g' with writes := g.writes ++ g'.writes }
      match r with
      | .done c' => notePeak (putWork { w with cur := some { g' with exitCtx := c' } } s)
      | .ended => notePeak (putWork (closeWork { w with cur := some { g' with ended := true } }) s)
      | .seg c' =>
        if 1023 ≤ w.segs.length then stopWork stopSegs w s
        else putWork { w with segs := w.segs ++ [{ g' with exitCtx := c' }], cur := some { entry := c', exitCtx := c' } } s
      | .stop k => stopWork k w s

/-- All eligible instances have stopped or ended (R140). -/
def allStopped (s : State) : State :=
  let ended (w : Work) : Bool := (w.segs.getLast?.map (·.ended)).getD false
  if s.spec.work.isEmpty then s
  else specStop 3 (if s.spec.work.all ended then stopDone else fld s Reg.SPEC_STAT 7 4) s

/-- Run-ahead takes up the next instance. (Log 58, DEDUCED.) -/
def openWork (f : Nat) (s : State) : State :=
  match nextAhead s f with
  | some (t, i) =>
    let w : Work := { tid := t, suspended := i.st = .suspended, cur := some { entry := i.ctx, exitCtx := i.ctx } }
    { s with spec := { s.spec with work := s.spec.work ++ [w] } }
  | none => s

/-- One instruction of run-ahead for frame `f`. -/
def aheadOnce (f : Nat) (s : State) : State :=
  let live (w : Work) : Bool := !w.stopped
  let s := if s.spec.work.any live then s else openWork f s
  match s.spec.work.find? live with
  | some w =>
    match aheadInst s f w.tid, w.cur with
    | some i, some g => specInstr w i g s
    | _, _ => putWork (closeWork w) s
  | none => allStopped s

/-- Run-ahead executes up to `n` instructions. (Log 56, DESIGN CHOICE.) -/
def runAhead : Nat → State → State
  | 0, s => s
  | n + 1, s => if mayRunAhead s then runAhead n (aheadOnce (aheadFrame s) s) else s

/-- RUN_AHEAD: the leaves are free for `n` instructions. The prediction is built at the first instant of run-ahead for the
frame. -/
def execRunAhead (n : Nat) (s : State) : Out :=
  act s fun s =>
    let f := aheadFrame s
    if !mayRunAhead s || n = 0 then s
    else if s.spec.frame = some f then runAhead n (specStop 2 (fld s Reg.SPEC_STAT 7 4) s)
    else if (aheadInsts s f).isEmpty then s
    else runAhead n (specStop 2 (fld s Reg.SPEC_STAT 7 4) (buildPrediction f s))

/-- SPEC.CTRCLR: run-ahead's counters start again (R139). -/
def execSpecCtrclr (m : Master) (v : Word) (s : State) : Out := act s (writeReg m Reg.SPEC_CTRCLR v)

end Sys2Proof.Machine
end

