-- ==== Sys2Proof/Machine/FieldRows.lean ====
section
/-! DEFINITION. The rows of the digital channels and the loop outputs (chapters 11 and 12). -/

namespace Sys2Proof.Machine

/-- RAW_TRANSITION (R305). -/
def execRawTransition (ch : Nat) (level : Bool) (s : State) : Out :=
  act s (when (decide (ch < 192)) (Sys2Proof.Machine.rawTransition ch level))

/-- CHATTER_WINDOW_END (R306). -/
def execChatterWindowEnd (ch : Nat) (s : State) : Out :=
  act s (when (decide (ch < 192)) (Sys2Proof.Machine.chatterWindowEnd ch))

/-- FILTERED_EDGE (R305). -/
def execFilteredEdge (ch : Nat) (s : State) : Out := act s (when (decide (ch < 192)) (Sys2Proof.Machine.filteredEdge ch))

/-- STUCK_ACTIVE (R306). -/
def execStuckActive (ch : Nat) (s : State) : Out := act s (when (decide (ch < 192)) (Sys2Proof.Machine.stuckActive ch))

/-- WIRE_BREAK (R302). -/
def execWireBreak (ch : Nat) (s : State) : Out := act s (when (decide (ch < 192)) (Sys2Proof.Machine.wireBreak ch))

/-- WIRE_BREAK_CLEAR (R302). -/
def execWireBreakClear (ch : Nat) (s : State) : Out :=
  act s (when (decide (ch < 192)) (Sys2Proof.Machine.wireBreakClear ch))

/-- CURRENT_LIMIT (R311). -/
def execCurrentLimit (ch : Nat) (ma : Nat) (s : State) : Out :=
  act s (when (decide (ch < 192)) (Sys2Proof.Machine.currentLimit ch ma))

/-- LIMITING_EPISODE_END (R311). -/
def execLimitingEpisodeEnd (ch : Nat) (s : State) : Out := act s (when (decide (ch < 192)) (limitingEnd ch))

/-- BANK_OVERLOAD (R311). -/
def execBankOverload (b : Nat) (isum : Nat) (s : State) : Out :=
  act s (when (decide (b < 12)) (Sys2Proof.Machine.bankOverload b isum))

/-- OVERLOAD_CLEAR (R318). -/
def execOverloadClear (b : Nat) (isum : Nat) (s : State) : Out :=
  act s (when (decide (b < 12)) (Sys2Proof.Machine.overloadClear b isum))

/-- THERMAL_SHUTDOWN (R312). -/
def execThermalShutdown (ch : Nat) (s : State) : Out :=
  act s (when (decide (ch < 192)) (Sys2Proof.Machine.thermalShutdown ch))

/-- THERMAL_COOL (R312). -/
def execThermalCool (ch : Nat) (s : State) : Out := act s (when (decide (ch < 192)) (Sys2Proof.Machine.thermalCool ch))

/-- TLATCH_CLEAR (R312). -/
def execTlatchClear (m : Master) (ch : Nat) (s : State) : Out :=
  act s (when (decide (ch < 192)) (writeReg m (dioStat ch) 0x200))

/-- RB_MISMATCH (R315). -/
def execRbMismatch (ch : Nat) (s : State) : Out := act s (when (decide (ch < 192)) (Sys2Proof.Machine.rbMismatch ch))

/-- RBMIS_CLEAR (R315). -/
def execRbmisClear (ch : Nat) (s : State) : Out := act s (when (decide (ch < 192)) (rbMisClear ch))

/-- LP_LOW (R316). -/
def execLpLow (b : Nat) (lpv : Nat) (s : State) : Out := act s (when (decide (b < 12)) (Sys2Proof.Machine.lpLow b lpv))

/-- LP_LOW_CLEAR (R316). -/
def execLpLowClear (b : Nat) (lpv : Nat) (s : State) : Out :=
  act s (when (decide (b < 12)) (Sys2Proof.Machine.lpLowClear b lpv))

/-- EDGECNT_READ (R318). -/
def execEdgecntRead (m : Master) (ch : Nat) (s : State) : Out :=
  act s (when (decide (ch < 192)) (readReg m (dioEdgeCnt ch)))

/-- NO_COMPLIANCE (R328). -/
def execNoCompliance (ch : Nat) (s : State) : Out := act s (when (decide (ch < 48)) (Sys2Proof.Machine.noCompliance ch))

/-- NOCOMP_CLEAR (R329). -/
def execNocompClear (ch : Nat) (s : State) : Out := act s (when (decide (ch < 48)) (Sys2Proof.Machine.nocompClear ch))

/-- THERMAL_FOLDBACK (R327). -/
def execThermalFoldback (ch : Nat) (ceil : Nat) (s : State) : Out :=
  act s (when (decide (ch < 48)) (Sys2Proof.Machine.thermalFoldback ch ceil))

/-- FOLDBACK_END (R327). -/
def execFoldbackEnd (ch : Nat) (s : State) : Out := act s (when (decide (ch < 48)) (Sys2Proof.Machine.foldbackEnd ch))

/-- OPEN_LOOP (R331). -/
def execOpenLoop (ch : Nat) (s : State) : Out := act s (when (decide (ch < 48)) (Sys2Proof.Machine.openLoop ch))

/-- OPEN_LOOP_CLEAR (R331). -/
def execOpenLoopClear (ch : Nat) (s : State) : Out := act s (when (decide (ch < 48)) (Sys2Proof.Machine.openLoopClear ch))

/-- AO_RB_MISMATCH (R333). -/
def execAoRbMismatch (ch : Nat) (s : State) : Out := act s (when (decide (ch < 48)) (Sys2Proof.Machine.aoRbMismatch ch))

/-- AO_RBMIS_CLEAR (R333). -/
def execAoRbmisClear (ch : Nat) (s : State) : Out := act s (when (decide (ch < 48)) (aoRbMisClear ch))

/-- GROUP_SUPPLY (R338). -/
def execGroupSupply (g : Nat) (s : State) : Out := act s (when (decide (g < 6)) (Sys2Proof.Machine.groupSupply g))

/-- GROUP_RESUME (R338). -/
def execGroupResume (g : Nat) (s : State) : Out := act s (when (decide (g < 6)) (Sys2Proof.Machine.groupResume g))

/-- READBACK_READ (R340). -/
def execReadbackRead (m : Master) (ch : Nat) (s : State) : Out :=
  act s (when (decide (ch < 48)) (readReg m (Reg.AO_CH_RB ch)))

end Sys2Proof.Machine
end

