-- ==== Sys2Proof/Machine/FrameRows.lean ====
section
/-! DEFINITION. The rows of the frame, transactions, registers and the host (chapters 1, 2 and 17). -/

namespace Sys2Proof.Machine

/-- FRAME_TICK (R58). -/
def execFrameTick (s : State) : Out := act s (Sys2Proof.Machine.frameTick)

/-- INPUT_CLOSE (R59). -/
def execInputClose (s : State) : Out := act s (fun s => closeShadow (Sys2Proof.Machine.inputClose s))

/-- COMMIT_CLOSE (R72). -/
def execCommitClose (s : State) : Out := act s (Sys2Proof.Machine.commitClose)

/-- CHECKPOINT_COMPLETE (R154). -/
def execCheckpointComplete (s : State) : Out := act s (Sys2Proof.Machine.checkpointComplete)

/-- APPLY_INSTANT (R60). -/
def execApplyInstant (s : State) : Out := act s (Sys2Proof.Machine.applyInstant)

/-- TIMED_EDGE (R293). -/
def execTimedEdge (ao : Bool) (ch : Nat) (s : State) : Out :=
  act s (when (decide (ch < if ao then 48 else 192)) (Sys2Proof.Machine.timedEdge ao ch))

/-- MODE_REQUEST (R75). -/
def execModeRequest (m : Master) (v : Word) (s : State) : Out := act s (writeReg m Reg.FRM_MODE v)

/-- FRM_CTRCLR (R84). -/
def execFrmCtrclr (m : Master) (v : Word) (s : State) : Out := act s (writeReg m Reg.FRM_CTRCLR v)

/-- BEGIN (R39). -/
def execTxnBegin (m : Master) (slot : Fin 4) (s : State) : Out := act s (writeReg m (Reg.TXN_SLOT_CTL slot.val) 1)

/-- COMMIT (R39). -/
def execTxnCommit (m : Master) (slot : Fin 4) (s : State) : Out := act s (writeReg m (Reg.TXN_SLOT_CTL slot.val) 2)

/-- ROLLBACK (R39). -/
def execTxnRollback (m : Master) (slot : Fin 4) (s : State) : Out := act s (writeReg m (Reg.TXN_SLOT_CTL slot.val) 3)

/-- STAGED_WRITE (R36). -/
def execStagedWrite (m : Master) (off : Nat) (v : Word) (s : State) : Out := act s (writeReg m off v)

/-- REGISTER_WRITE (R7). -/
def execRegisterWrite (m : Master) (off : Nat) (v : Word) (s : State) : Out :=
  act s (fun s => serveStep (writeReg m off v s))

/-- PAIR_LOW_READ (R6). -/
def execPairLowRead (m : Master) (off : Nat) (s : State) : Out := act s (readReg m off)

/-- HOST_REQUEST (R440). -/
def execHostRequest (q : HostReq) (s : State) : Out := act s (fun s => serveStep (hostAct q s))

end Sys2Proof.Machine
end

