-- ==== Sys2Proof/Machine/HaspRows.lean ====
section
/-! DEFINITION. The rows of the hot-standby pair (chapter 6). -/

namespace Sys2Proof.Machine

/-- HASP.CMD with OP = ASSUME, whose bolt try the partner may contest (R189). -/
def assume (m : Master) (contested : Bool) (s : State) : State :=
  let (ok, s) := haspCommand contested 0x4B500004 s
  { (if ok then s else (writeError m (regBase + Reg.HASP_CMD) s).2) with answer := if ok then .done else .error }

/-- ARBITRATION_TIMEOUT (R168). -/
def execArbitrationTimeout (contested : Bool) (s : State) : Out := act s (Sys2Proof.Machine.arbitrationTimeout contested)

/-- BOLT_RETRY (R181). -/
def execBoltRetry (contested : Bool) (s : State) : Out := act s (Sys2Proof.Machine.boltRetry contested)

/-- BOLT_IN_CHANGE (R179). -/
def execBoltInChange (level : Bool) (contested : Bool) (s : State) : Out :=
  act s (Sys2Proof.Machine.boltInChange level contested)

/-- HEARTBEAT_SEND (R170). -/
def execHeartbeatSend (s : State) : Out := act s (Sys2Proof.Machine.heartbeatSend)

/-- HEARTBEAT (R170). -/
def execHeartbeat (q : HbRec) (s : State) : Out := act s (Sys2Proof.Machine.heartbeat q)

/-- HEARTBEAT_LOST (R171). -/
def execHeartbeatLost (contested : Bool) (s : State) : Out := act s (Sys2Proof.Machine.heartbeatLost contested)

/-- UNREACHABLE (R184). -/
def execUnreachable (s : State) : Out := act s (Sys2Proof.Machine.unreachable)

/-- HANDOVER_FAIL (R188). -/
def execHandoverFail (contested : Bool) (s : State) : Out := act s (Sys2Proof.Machine.handoverFail contested)

/-- HASP_LANE_DOWN (R169). -/
def execHaspLaneDown (l : Fin 2) (s : State) : Out := act s (Sys2Proof.Machine.haspLaneDown l)

/-- HASP_LANE_UP (R169). -/
def execHaspLaneUp (l : Fin 2) (s : State) : Out := act s (Sys2Proof.Machine.haspLaneUp l)

/-- SAMPLE (R173). -/
def execSample (q : SampleRec) (s : State) : Out := act s (sampleRecord q)

/-- ACCEPT (R173). -/
def execAccept (q : AcceptRec) (s : State) : Out := act s (acceptRecord q)

/-- PAYLOAD (R173). -/
def execPayload (frame : Nat) (lane : Nat) (f : BusFrame) (s : State) : Out := act s (payloadRecord frame lane f)

/-- PAYLOAD_REQUEST (R173). -/
def execPayloadRequest (_frame : Nat) (_lane : Nat) (_stamp : Nat) (s : State) : Out :=
  act s (Sys2Proof.Machine.payloadRequest)

/-- TRIGGER_RECORD (R172). -/
def execTriggerRecord (kind : Nat) (index : Nat) (frame : Nat) (s : State) : Out :=
  act s (Sys2Proof.Machine.triggerRecord kind index frame)

/-- CLOSE (R172). -/
def execClose (frame : Nat) (count : Nat) (s : State) : Out := act s (closeRecord frame count)

/-- POSITION (R174). -/
def execPosition (q : PosRec) (s : State) : Out := act s (positionRecord (.pos q))

/-- WRITE_RECORD (R182). -/
def execWriteRecord (q : WriteRec) (s : State) : Out := act s (positionRecord (.write q))

/-- COMMITS (R178). -/
def execCommits (q : CommitsRec) (s : State) : Out := act s (commitsRecord q)

/-- CC_RECORD (R176). -/
def execCcRecord (q : CcRec) (s : State) : Out := act s (Sys2Proof.Machine.ccRecord q)

/-- TXDONE (R186). -/
def execTxdone (lane : Nat) (order : Nat) (s : State) : Out := act s (Sys2Proof.Machine.txdone lane order)

/-- DIGEST (R177). -/
def execDigest (frame : Nat) (crc : Word) (s : State) : Out := act s (digestRecord frame crc)

/-- DIGEST_TIMEOUT (R177). -/
def execDigestTimeout (frame : Nat) (s : State) : Out := act s (Sys2Proof.Machine.digestTimeout frame)

/-- YIELD_RECORD (R171). -/
def execYieldRecord (contested : Bool) (s : State) : Out := act s (Sys2Proof.Machine.yieldRecord contested)

/-- LEAVE_RECORD (R192). -/
def execLeaveRecord (s : State) : Out := act s (Sys2Proof.Machine.leaveRecord)

/-- COPY_RECORD (R190). -/
def execCopyRecord (page : Nat) (data : List Byte) (s : State) : Out := act s (Sys2Proof.Machine.copyRecord page data)

/-- MIRROR_RECORD (R190). -/
def execMirrorRecord (addr : Nat) (data : List Byte) (s : State) : Out := act s (Sys2Proof.Machine.mirrorRecord addr data)

/-- SHADOW_CLOSE (R176). -/
def execShadowClose (s : State) : Out := act s (Sys2Proof.Machine.shadowClose)

/-- COPY_PASS_END (R190). -/
def execCopyPassEnd (s : State) : Out := act s (Sys2Proof.Machine.copyPassEnd)

/-- JOIN_RESTART (R190). -/
def execJoinRestart (s : State) : Out := act s (Sys2Proof.Machine.joinRestart)

/-- AUTOJOIN (R191). -/
def execAutojoin (s : State) : Out := act s (Sys2Proof.Machine.autojoin)

/-- JOIN (R191). -/
def execJoin (m : Master) (s : State) : Out := act s (writeReg m Reg.HASP_CMD 0x4B500001)

/-- LEAVE (R192). -/
def execLeave (m : Master) (s : State) : Out := act s (writeReg m Reg.HASP_CMD 0x4B500002)

/-- HASP_YIELD (R192). -/
def execHaspYield (m : Master) (s : State) : Out := act s (writeReg m Reg.HASP_CMD 0x4B500003)

/-- ASSUME (R189). -/
def execHaspAssume (m : Master) (contested : Bool) (s : State) : Out := act s (assume m contested)

/-- HASP_CTRCLR (R195). -/
def execHaspCtrclr (m : Master) (v : Word) (s : State) : Out := act s (writeReg m Reg.HASP_CTRCLR v)

end Sys2Proof.Machine
end

