-- ==== Sys2Proof/Machine/HostRows.lean ====
section
/-! DEFINITION. The rows of the configuration flash, the host port, JTAG and debug (chapter 17). -/

namespace Sys2Proof.Machine

/-- The TAP selects an instruction, whether or not the device runs. (Log 124, DEDUCED.) -/
def tapTo (c : Nat) (s : State) : State :=
  if alive s then tapSelect c s else { s with tap := { s.tap with ir := c } }

/-- A write of DBG.CTL with its key, and the step that it may request. -/
def debugOp (m : Master) (op : Nat) (s : State) : State :=
  serveStep (writeReg m Reg.DBG_CTL (BitVec.ofNat 32 (0x44470000 + op)) s)

/-- Update-DR of DBGACC, which acts while DBGACC is selected (R444, R445). -/
def dbgUpdate (dr : BitVec 80) (s : State) : State := if s.tap.ir = 8 then serveStep (debugAccess dr s) else s

/-- ERASE (R437). -/
def execErase (m : Master) (s : State) : Out := act s (writeReg m Reg.BOOT_PGCMD 0x42460001)

/-- PROGRAM (R437). -/
def execProgram (m : Master) (s : State) : Out := act s (writeReg m Reg.BOOT_PGCMD 0x42460002)

/-- FLASH_COMMAND_END (R437). -/
def execFlashCommandEnd (ok : Bool) (s : State) : Out := act s (flashEnd ok)

/-- DOORBELL (R443). -/
def execDoorbell (m : Master) (v : Word) (s : State) : Out := act s (writeReg m Reg.HOST_DOORBELL v)

/-- SIGNAL (R443). -/
def execSignal (m : Master) (v : Word) (s : State) : Out := act s (writeReg m Reg.HOST_SIGNAL v)

/-- HOST_RESET_REQUEST (R441). -/
def execHostResetRequest (m : Master) (v : Word) (s : State) : Out := act s (writeReg m Reg.HOST_RSTREQ v)

/-- WINDOW_B_BASE_WRITE (R439). -/
def execWindowBBaseWrite (m : Master) (v : Word) (s : State) : Out := act s (writeReg m Reg.HOST_WINB_HI v)

/-- LINK_UP (R441). -/
def execLinkUp (speed : Nat) (width : Nat) (s : State) : Out := act s (hostLinkUp speed width)

/-- LINK_DOWN (R441). -/
def execLinkDown (s : State) : Out := act s (hostLinkDown)

/-- PORT_RESET (R441). -/
def execPortReset (_perst : Bool) (s : State) : Out := act s (hostPortReset)

/-- IDCODE (R444): Capture-DR then loads 0x2919_2B87 (tapCapture). -/
def execIdcode (s : State) : Out := run (tapTo 1) s

/-- SAMPLE_PRELOAD (R444). -/
def execSamplePreload (s : State) : Out := run (tapTo 2) s

/-- EXTEST (R444). -/
def execExtest (s : State) : Out := run (tapTo 3) s

/-- CLAMP (R444). -/
def execClamp (s : State) : Out := run (tapTo 4) s

/-- HIGHZ (R444). -/
def execHighz (s : State) : Out := run (tapTo 5) s

/-- DBGACC (R444). -/
def execDbgacc (s : State) : Out := run (tapTo 8) s

/-- BYPASS (R444). -/
def execBypass (s : State) : Out := run (tapTo 31) s

/-- TEST_LOGIC_RESET (R444). -/
def execTestLogicReset (s : State) : Out := run (tapTo 1) s

/-- DBGACC_UPDATE (R445). -/
def execDbgaccUpdate (dr : BitVec 80) (s : State) : Out := act s (dbgUpdate dr)

/-- HALT (R446). -/
def execDbgHalt (m : Master) (s : State) : Out := act s (debugOp m 1)

/-- RESUME (R446). -/
def execDbgResume (m : Master) (s : State) : Out := act s (debugOp m 2)

/-- DBG_STEP (R446). -/
def execDbgStep (m : Master) (s : State) : Out := act s (debugOp m 3)

end Sys2Proof.Machine
end

