-- ==== Sys2Proof/Machine/LaneRows.lean ====
section
/-! DEFINITION. What happens on the bus lanes: windows, transmissions, receptions and recovery (chapter 9). -/

namespace Sys2Proof.Machine

/-- A MERGED window goes on where window w ends: the joined span is one window (R280). -/
def continues (s : State) (n w : Nat) : Bool :=
  (winKind s n w = 1 || winKind s n w = 2) && (List.range 48).any fun v =>
    v ≠ w && winOccurs s n v (fnum s) && winKind s n v = 2 && winStart s n v = winStart s n w + winLen s n w

/-- A window closes: what could have gone in it and has not waits for its next occurrence (R258, R297). -/
def windowCloses (n w : Nat) (s : State) : State :=
  if (lane s n).win = some w && !(decide (w < 48) && continues s n w) then
    let late := w < 48 && !(eligible s n w (fnum s)).isEmpty
    let s := if late then bump s (Reg.TIME_LANE_WIN_LATE n w) 31 0 else s
    putLane n { lane s n with win := none } s
  else s

/-- A frame that failed goes again in the window that is open. -/
def retryFrame (n : Nat) (s : State) : State :=
  match (lane s n).win with
  | some w => offer n w s
  | none => s

/-- The frame on the wire has become valid (R259). (Log 81, PRESUMED; Log 87, DEDUCED.) -/
def wireDone (n : Nat) (s : State) : State :=
  match (lane s n).wire with
  | none => s
  | some _ =>
    let s := wireSent n s
    if (lane s n).leaving then leaveBus n true s else offerAgain n s

/-- A frame that failed has reached its data phase, or has not: no command tells, and the answer is free. -/
def measureFailed (n : Nat) (src : WireSrc) (s : State) : State :=
  if wireData s n src then
    let (f, s) := takeFree s
    when (f.getLsbD 0) (measureLoop n) s
  else s

/-- The frame on the wire has lost arbitration or failed (R258 to R260). -/
def wireFailed (n tec : Nat) (s : State) : State :=
  match (lane s n).wire with
  | none => s
  | some src =>
    let s := measureFailed n src s
    let s := setErrors n tec (laneRec s n) (requeue n s)
    if (lane s n).leaving then leaveBus n true s
    else match src with
      | .queue _ _ | .mapped _ _ => retryFrame n s
      | _ => s

/-- A frame arrives on the bus (R246 to R254), and a standby sees its partner's request done (R186). (Log 82, DEDUCED.) -/
def frameArrives (n : Nat) (f : BusFrame) (s : State) : State :=
  if onBus s n && s.pads.pfailB then goodReception n (receive n f (seenOnWire n f s)) else s

/-- A frame arrives with an error (R260). What it leaves of itself in its receive buffer is open. -/
def frameBad (n r : Nat) (s : State) : State :=
  if onBus s n && s.pads.pfailB then
    let (b, s) := freeBytes 2080 s
    setErrors n (laneTec s n) r (takeRxBuf n b s)
  else s

/-- A lane has seen 11 consecutive recessive bits (R263). -/
def integrated (n : Nat) (s : State) : State :=
  if laneStat s n = 1 then
    putLaneStat n (if flag s (Reg.LANE_ERRCNT n) 30 then 3 else 2) (putLane n { lane s n with upAt := now s } s)
  else s

/-- FRAME_RECEPTION (R248). (Log 143, DESIGN CHOICE.) -/
def execFrameReception (lane : Nat) (f : BusFrame) (s : State) : Out :=
  act s (when (decide (lane < 12)) (frameArrives lane f))

/-- WINDOW_OCCURRENCE (R280). -/
def execWindowOccurrence (lane : Nat) (w : Nat) (s : State) : Out := act s (when (decide (lane < 12)) (windowOpens lane w))

/-- WINDOW_CLOSE (R258). -/
def execWindowClose (lane : Nat) (w : Nat) (s : State) : Out := act s (when (decide (lane < 12)) (windowCloses lane w))

/-- TRANSMISSION_COMPLETE (R259). -/
def execTransmissionComplete (lane : Nat) (s : State) : Out := act s (when (decide (lane < 12)) (wireDone lane))

/-- TRANSMISSION_ERROR (R258). -/
def execTransmissionError (lane : Nat) (tec : Nat) (s : State) : Out :=
  act s (when (decide (lane < 12)) (wireFailed lane tec))

/-- RECEPTION_ERROR (R260). -/
def execReceptionError (lane : Nat) (rec : Nat) (s : State) : Out := act s (when (decide (lane < 12)) (frameBad lane rec))

/-- RECOVERED (R261). -/
def execRecovered (lane : Nat) (s : State) : Out := act s (when (decide (lane < 12)) (laneRecovered lane))

/-- RECOVER (R262). -/
def execRecover (m : Master) (lane : Nat) (s : State) : Out :=
  act s (when (decide (lane < 12)) (writeReg m (Reg.LANE_CMD lane) 0x4C4E0001))

/-- INTEGRATION_DONE (R263). -/
def execIntegrationDone (lane : Nat) (s : State) : Out := act s (when (decide (lane < 12)) (integrated lane))

/-- LANE_CTRCLR (R266). -/
def execLaneCtrclr (m : Master) (lane : Nat) (v : Word) (s : State) : Out :=
  act s (when (decide (lane < 12)) (writeReg m (Reg.LANE_CTRCLR lane) v))

end Sys2Proof.Machine
end

