-- ==== Sys2Proof/Machine/LeafRows.lean ====
section
/-! DEFINITION. The rows of the leaves and of the course of a CDR (chapters 5 and 14). -/

namespace Sys2Proof.Machine

/-- A leaf's number. -/
def leafNum : LeafId → Nat
  | .a => 0
  | .b => 1
  | .c => 2

/-- A write of LEAF.CMD with its key. -/
def leafOp (m : Master) (l : LeafId) (op : Nat) (s : State) : State :=
  writeReg m Reg.LEAF_CMD (BitVec.ofNat 32 (0x4C460000 + leafNum l * 16 + op)) s

/-- The tick at which a CDR whose restore is complete ends (R375). -/
def resumeTick (s : State) : State := if s.flt.restored then frameTick s else s

/-- KNUCKLE_VOTE (R146). -/
def execKnuckleVote (q : VoteIn) (s : State) : Out := act s (Sys2Proof.Machine.knuckleVote q)

/-- TUMBLER_MISMATCH (R144). -/
def execTumblerMismatch (a : Bool) (b : Bool) (c : Bool) (s : State) : Out :=
  act s (Sys2Proof.Machine.tumblerMismatch a b c)

/-- LFR_COMPLETE (R144). -/
def execLfrComplete (l : LeafId) (s : State) : Out := act s (Sys2Proof.Machine.lfrComplete (leafNum l))

/-- REJOIN_LOAD_DONE (R157). -/
def execRejoinLoadDone (l : LeafId) (uncorr : Bool) (s : State) : Out := act s (rejoinLoaded (leafNum l) uncorr)

/-- LEAF_RESTART (R165). -/
def execLeafRestart (m : Master) (l : LeafId) (s : State) : Out := act s (leafOp m l 1)

/-- LEAF_QUARANTINE (R165). -/
def execLeafQuarantine (m : Master) (l : LeafId) (s : State) : Out := act s (leafOp m l 2)

/-- LEAF_RELEASE (R161). -/
def execLeafRelease (m : Master) (l : LeafId) (s : State) : Out := act s (leafOp m l 3)

/-- LEAF_CTRCLR (R163). -/
def execLeafCtrclr (m : Master) (v : Word) (s : State) : Out := act s (writeReg m Reg.LEAF_CTRCLR v)

/-- TRAPLOG_READ (R163). -/
def execTraplogRead (m : Master) (s : State) : Out := act s (readReg m Reg.LEAF_TRAPLOG)

/-- CDR_BEGIN (R375). -/
def execCdrBegin (s : State) : Out := act s (Sys2Proof.Machine.cdrBegin)

/-- CDR_RESUME (R375). -/
def execCdrResume (s : State) : Out := act s (resumeTick)

end Sys2Proof.Machine
end

