-- ==== Sys2Proof/Machine/MemRows.lean ====
section
/-! DEFINITION. The rows of online change, forcing, memory and retention (chapters 7 and 8). -/

namespace Sys2Proof.Machine

/-- A write of memory that a command makes. -/
def writeMem (m : Master) (a : Nat) (b : List Byte) (s : State) : State :=
  let (ok, s) := busWrite m a b s
  { s with answer := if ok then .done else .error }

/-- MEM.SCRUB follows the word that the scrub has read; the last word of working memory ends the pass. (Log 41, DEDUCED.) -/
def noteScrub (a : Nat) (s : State) : State :=
  if !inWorking a then s
  else if a / 8 = 0x3FFF_FFFF then bump (putFld s Reg.MEM_SCRUB 15 0 0) Reg.MEM_SCRUB 31 16
  else putFld s Reg.MEM_SCRUB 15 0 (a / 2 ^ 17)

/-- The patrol scrub reads a word (R218). -/
def scrub (a : Nat) (s : State) : State :=
  if !inRetained a then s
  else
    noteScrub a (match eccAt s a with
      | .double => foundBad a 0x0703 0xF s
      | .single _ => corrected a 0xF s
      | .good => s)

/-- RET cleans the page that R224 picks: the one written longest ago, when cleaning is forced, or once it is cold and the
governor allows. -/
def cleanNow (p : Nat) (s : State) : State :=
  match s.mm.dirty with
  | (q, _) :: _ => if q = p && (s.mm.forced || (governed s && coldPage s)) then cleanPage p s else s
  | [] => s

/-- A measurement of the hold-up capacitor, in 10 µF, and of HLD, in 10 mV (R230): the bytes covered are
(C V² − C 34²) / 36 W × 3.2 GB/s. The capacitor charges until it stands at 72 V. (Log 42, DEDUCED; Log 165, DEDUCED.) -/
def holdup (cap volt : Nat) (s : State) : State :=
  let bytes := cap * (volt * volt - 11560000) * 4 / 45
  let s := putNat s Reg.RET_HOLDUP (cap % 2 ^ 16 * 2 ^ 16 + volt % 2 ^ 16)
  let s := judgeForced { s with mm := { s.mm with covered := bytes } }
  let s := putFlag s Reg.RET_STAT 30 (s.pads.pfailB && volt < 7200)
  let was := s.mm.holdLow
  let s := { s with mm := { s.mm with holdLow := bytes < 2 ^ 26 } }
  if bytes < 2 ^ 26 && !was then raise 0x0711 1 s else s

/-- FORCE_TABLE_WRITE (R199). -/
def execForceTableWrite (m : Master) (addr : Nat) (data : List Byte) (s : State) : Out :=
  act s (when (inForce addr) (writeMem m addr data))

/-- FORCE_CLEAR (R200). -/
def execForceClear (m : Master) (s : State) : Out := act s (writeReg m Reg.OLC_FCLR 0x46430001)

/-- DELTA_WRITE (R206). -/
def execDeltaWrite (m : Master) (off : Nat) (v : Word) (s : State) : Out := act s (writeReg m off v)

/-- VERIFY (R205). -/
def execVerify (m : Master) (s : State) : Out := act s (writeReg m Reg.OLC_CMD 0x4F430001)

/-- VERIFY_ABANDON (R214). -/
def execVerifyAbandon (m : Master) (s : State) : Out := act s (writeReg m Reg.OLC_CMD 0x4F430002)

/-- VERIFICATION_END (R205). -/
def execVerificationEnd (s : State) : Out := act s (Sys2Proof.Machine.verificationEnd)

/-- PATROL_SCRUB (R218). -/
def execPatrolScrub (addr : Nat) (s : State) : Out := act s (scrub addr)

/-- MEM_INJECT (R237). -/
def execMemInject (m : Master) (v : Word) (s : State) : Out := act s (writeReg m Reg.MEM_INJECT v)

/-- MEM_CTRCLR (R237). -/
def execMemCtrclr (m : Master) (v : Word) (s : State) : Out := act s (writeReg m Reg.MEM_CTRCLR v)

/-- PAGE_CLEANING (R224). -/
def execPageCleaning (page : Nat) (s : State) : Out := act s (cleanNow page)

/-- DIRTY_STALL (R225). -/
def execDirtyStall (q : StallReq) (s : State) : Out := act s (writeMem q.m q.addr q.data)

/-- HOLDUP_MEASURE (R230). -/
def execHoldupMeasure (cap : Nat) (volt : Nat) (s : State) : Out := act s (holdup cap volt)

/-- RET_CTRCLR (R238). -/
def execRetCtrclr (m : Master) (v : Word) (s : State) : Out := act s (writeReg m Reg.RET_CTRCLR v)

end Sys2Proof.Machine
end

