-- ==== Sys2Proof/Machine/PowerRows.lean ====
section
/-! DEFINITION. The rows of power, resets and the start (chapters 1, 17 and 18). -/

namespace Sys2Proof.Machine

/-- PFAIL without a fabric clock: no unit runs that could act on it, and what R28 released stays released. -/
def pfailAny (s : State) : State :=
  if s.boot.por then s
  else if s.flt.fabDead then { s with pads := { s.pads with pfailB := false } }
  else pfail s

/-- POWER_ON_RESET (R29). -/
def execPowerOnReset (vbat : Bool) (s : State) : Out := run (powerOn vbat) s

/-- POR_RELEASE (R454). -/
def execPorRelease (s : State) : Out := run Sys2Proof.Machine.porRelease s

/-- RST_B_PULSE (R30). -/
def execRstBPulse (ns : Nat) (s : State) : Out := rstB ns s

/-- SYS_RESET_DRST (R34). -/
def execSysResetDrst (m : Master) (s : State) : Out := act s (writeReg m Reg.SYS_RESET 0xD5A70001)

/-- SYS_RESET_CDR (R34). -/
def execSysResetCdr (m : Master) (s : State) : Out := act s (writeReg m Reg.SYS_RESET 0xD5A70002)

/-- CLOCK_LOSS (R28). -/
def execClockLoss (c : ClockId) (s : State) : Out := if s.boot.por then .next s else run (Sys2Proof.Machine.clockLoss c) s

/-- PFAIL (R226). -/
def execPfail (s : State) : Out := run pfailAny s

/-- DUMP_START (R226). -/
def execDumpStart (s : State) : Out := act s (Sys2Proof.Machine.dumpStart)

/-- DUMP_SEAL (R227). -/
def execDumpSeal (vinBack : Bool) (s : State) : Out := act s (Sys2Proof.Machine.dumpSeal vinBack)

/-- BLEEDER_CONNECT (R457). -/
def execBleederConnect (s : State) : Out := run bleeder s

/-- VIN_LOW (R454). -/
def execVinLow (v : Nat) (s : State) : Out := act s (Sys2Proof.Machine.vinLow v)

/-- VIN_HIGH (R454). -/
def execVinHigh (v : Nat) (s : State) : Out := act s (Sys2Proof.Machine.vinHigh v)

/-- OPTIME_STORE (R391). -/
def execOptimeStore (s : State) : Out := act s (storeCounts)

/-- IMAGE_LOADED (R427). -/
def execImageLoaded (s : State) : Out := act s (Sys2Proof.Machine.imageLoaded)

/-- MEMORY_INIT_DONE (R434). -/
def execMemoryInitDone (s : State) : Out := act s (fun s => applyStart (memInitDone s))

/-- RESTORE_COMPLETE (R228). -/
def execRestoreComplete (pageBad : Bool) (s : State) : Out :=
  act s (fun s => applyStart (Sys2Proof.Machine.restoreComplete pageBad s))

/-- END_OF_BOOT (R434). -/
def execEndOfBoot (s : State) : Out := act s (Sys2Proof.Machine.endOfBoot)

/-- LID_HOT (R460). -/
def execLidHot (t : Int) (s : State) : Out := act s (Sys2Proof.Machine.lidHot t)

/-- LID_TEMP_READING (R460). -/
def execLidTempReading (t : Int) (s : State) : Out := act s (lidReading t)

end Sys2Proof.Machine
end

