-- ==== Sys2Proof/Machine/StoreRows.lean ====
section
/-! DEFINITION. The rows of the parameter store, the event recorder and the status panel (chapters 15 and 16). -/

namespace Sys2Proof.Machine

/-! Snapshots of the event recorder (R400). -/

/-- The recorder's read of a register: no latch changes, and no notice is raised. -/
def evrReg (o : Nat) (s : State) : Option Nat × State :=
  if !readable o then (none, s)
  else
    let (v, t) := regView .m4 o (refreshRead o s)
    let wo := match regRow? o with
      | some (r, _) => BitVec.ofNat 32 r.wo
      | none => 0
    (some (v &&& ~~~wo).toNat, { t with latch := s.latch })

/-- The recorder's read at an address, 32 or 64 bits wide; a 64-bit register pair is read coherently. (Log 113, DEDUCED.) -/
def evrRead (a : Nat) (wide : Bool) (s : State) : Option Nat × State :=
  let n := if wide then 8 else 4
  if a % n ≠ 0 then (none, s)
  else
    match targetOf a with
    | .working | .points | .force => memLoad 0xF a n s
    | .predicted => (some (memNat s a n), s)
    | .reg =>
      let o := a - regBase
      if wide then
        if isPairLow o then
          match evrReg o s with
          | (some v, s) =>
            let (w, s) := evrReg (o + 4) s
            (some (v + w.getD 0 * 2 ^ 32), s)
          | (none, s) => (none, s)
        else (none, s)
      else evrReg o s
    | .pst => pstRead 0xF (a - pstBase) n s
    | .pnl => if a - pnlBase < pnlBytes then (some (memNat s a n), pnlTo s) else (none, s)
    | .lmm _ => if (a - lmmBase) % 0x10000 < 0x6C00 then (some (memNat s a n), s) else (none, s)
    | .unmapped => (none, s)

/-- The snapshot of source `src`, from entry `k` on. -/
def takeSnaps (src : Nat) : Nat → Nat → State → List Snap × State
  | 0, _, s => ([], s)
  | n + 1, k, s =>
    let hi := regNat s (Reg.EVR_SEL_ADDR_HI src k)
    let a := hi % 256 * 2 ^ 32 + regNat s (Reg.EVR_SEL_ADDR_LO src k)
    let wide := decide (2 ^ 31 ≤ hi)
    let (v, s) := evrRead a wide s
    let (l, s) := takeSnaps src n (k + 1) s
    ({ addr := a, wide := wide, value := v } :: l, s)

/-- The recorder takes the oldest firing and writes its record (R400, R401). -/
def recordEvent (s : State) : State :=
  match s.evr.queue with
  | [] => s
  | f :: r =>
    let s := { s with evr := { s.evr with queue := r } }
    let (l, s) := takeSnaps f.src (min 16 (fld s (Reg.EVR_SRC_CFG f.src) 20 16)) 0 s
    writeRecordAt f l s

/-- A write of PST.RECCMD with its key. -/
def recOp (m : Master) (r : Fin 16) (op : Nat) (s : State) : State :=
  writeReg m Reg.PST_RECCMD (BitVec.ofNat 32 (0x52430000 + r.val * 256 + op)) s

/-- BLOCK_PROTECT_WRITE (R388). -/
def execBlockProtectWrite (m : Master) (v : Word) (s : State) : Out := act s (writeReg m Reg.PST_PROT v)

/-- PAGE1_LOCK (R389). -/
def execPage1Lock (m : Master) (v : Word) (s : State) : Out := act s (writeReg m Reg.PST_P1LOCK v)

/-- SELECT (R393). -/
def execSelect (m : Master) (r : Fin 16) (s : State) : Out := act s (recOp m r 1)

/-- SEAL (R394). -/
def execSealRec (m : Master) (r : Fin 16) (s : State) : Out := act s (recOp m r 2)

/-- RECORD_COMMAND_DONE (R395). -/
def execRecordCommandDone (s : State) : Out := act s (recDone)

/-- PST_CTRCLR (R396). -/
def execPstCtrclr (m : Master) (v : Word) (s : State) : Out := act s (writeReg m Reg.PST_CTRCLR v)

/-- EVR_TRIG (R399). -/
def execEvrTrig (m : Master) (v : Word) (s : State) : Out := act s (writeReg m Reg.EVR_TRIG v)

/-- EVENT_RECORD_WRITE (R401). -/
def execEventRecordWrite (s : State) : Out := act s (recordEvent)

/-- CURSOR_WRITE (R403). -/
def execCursorWrite (m : Master) (hi : Bool) (v : Word) (s : State) : Out :=
  act s (writeReg m (if hi then Reg.EVR_CURSOR_HI else Reg.EVR_CURSOR_LO) v)

/-- EVR_CLEAR (R404). -/
def execEvrClear (m : Master) (s : State) : Out := act s (writeReg m Reg.EVR_CMD 0x45520001)

/-- UPDATE (R412). -/
def execUpdate (m : Master) (s : State) : Out := act s (writeReg m Reg.PNL_CMD 0x504E0001)

/-- UPDATE_END (R412). -/
def execUpdateEnd (s : State) : Out := act s (pnlUpdateEnd)

/-- PNL_CRC (R414). -/
def execPnlCrc (m : Master) (s : State) : Out := act s (writeReg m Reg.PNL_CMD 0x504E0002)

/-- REPAINT_START (R417). -/
def execRepaintStart (s : State) : Out := act s (Sys2Proof.Machine.repaintStart)

/-- REPAINT_END (R417). -/
def execRepaintEnd (s : State) : Out := act s (Sys2Proof.Machine.repaintEnd)

/-- HVEN_OFF (R411). -/
def execHvenOff (s : State) : Out := act s (pnlHvenOff)

/-- THERMISTOR_READING (R413). -/
def execThermistorReading (t : Int) (s : State) : Out := act s (thermistor t)

end Sys2Proof.Machine
end

