-- ==== Sys2Proof/Machine/TimeRows.lean ====
section
/-! DEFINITION. The rows of the schedules and device time (chapter 10). -/

namespace Sys2Proof.Machine

/-- REFERENCE_MESSAGE (R283). -/
def execReferenceMessage (lane : Nat) (won : Bool) (s : State) : Out := act s (sendReference lane won)

/-- REFERENCE_RECEPTION (R285). -/
def execReferenceReception (lane : Nat) (q : RefMsg) (s : State) : Out :=
  act s (when (decide (lane < 12)) (receiveReference lane q))

/-- SOURCE_LOST (R278). -/
def execSourceLost (s : State) : Out := act s (Sys2Proof.Machine.sourceLost)

/-- ECHO_REQ (R289). -/
def execEchoReq (lane : Nat) (q : EchoMsg) (s : State) : Out := act s (when (decide (lane < 12)) (echoArrives lane 0 q echoAnswer))

/-- ECHO_RSP (R287). -/
def execEchoRsp (lane : Nat) (q : EchoMsg) (s : State) : Out := act s (when (decide (lane < 12)) (echoArrives lane 1 q echoResponse))

/-- ECHO_RES (R289). -/
def execEchoRes (lane : Nat) (q : EchoMsg) (s : State) : Out := act s (when (decide (lane < 12)) (echoArrives lane 2 q echoResult))

/-- ECHO_FAIL (R288). -/
def execEchoFail (lane : Nat) (s : State) : Out := act s (when (decide (lane < 12)) (echoMissed lane))

/-- PPS_OUTPUT_RISE (R291). -/
def execPpsOutputRise (s : State) : Out := act s (ppsRise)

/-- PPS_OUTPUT_FALL (R291). -/
def execPpsOutputFall (s : State) : Out := act s (ppsFall)

/-- TIME_IN_EDGE (R291). -/
def execTimeInEdge (s : State) : Out := act s (timeIn)

/-- FIELD_REALIGN (R292). -/
def execFieldRealign (out : BitVec 18) (s : State) : Out := act s (realign out)

/-- TIME_STEP (R295). -/
def execTimeStep (m : Master) (s : State) : Out := act s (writeReg m Reg.TIME_CMD 0x544D0001)

/-- TIME_EVENT (R296). -/
def execTimeEvent (i : Nat) (s : State) : Out := act s (when (decide (i < 16)) (Sys2Proof.Machine.timeEvent i))

/-- TIME_NOW_READ (R297). -/
def execTimeNowRead (m : Master) (s : State) : Out := act s (readReg m Reg.TIME_NOW_LO)

/-- MAP_READ (R297). -/
def execMapRead (m : Master) (p : Fin 2) (s : State) : Out := act s (readReg m (Reg.TIME_MAP_RAW_LO p.val))

/-- TIME_CTRCLR (R297). -/
def execTimeCtrclr (m : Master) (v : Word) (s : State) : Out := act s (writeReg m Reg.TIME_CTRCLR v)

end Sys2Proof.Machine
end

