-- ==== Sys2Proof/Machine/WardRows.lean ====
section
/-! DEFINITION. The rows of the calendar clock, the ward and fault handling (chapters 13 and 14). -/

namespace Sys2Proof.Machine

/-- The raw count at which the ward counter reaches `c` in the period that runs. -/
def wardRaw (s : State) (c : Nat) : Nat := (s.raw / 400 + (c - wardPos s)) * 400

/-- c reaches PERIOD in a period that is not served (R359). -/
def expirePeriod (s : State) : State :=
  if wardCounts s && !s.ward.served then wardExpire (advanceTo (wardRaw s s.ward.period) s) else s

/-- c reaches PERIOD − PREWARN in a period that is not served (R366, R442). -/
def prewarn (s : State) : State :=
  if wardCounts s && !s.ward.served && !s.ward.warned && s.ward.prewarn ≠ 0 then
    let s := advanceTo (wardRaw s (s.ward.period - s.ward.prewarn)) s
    triggerWhere (fun k _ => k = 6) (now s) (cause 13 (raise 0x4003 0 { s with ward := { s.ward with warned := true } }))
  else s

/-- SECOND_STEP (R342). -/
def execSecondStep (s : State) : Out := run (rtcSecond) s

/-- RTC_HALT (R346). -/
def execRtcHalt (m : Master) (v : Word) (s : State) : Out := act s (writeReg m Reg.RTC_CTL v)

/-- RTC_RUN (R347). -/
def execRtcRun (m : Master) (v : Word) (s : State) : Out := act s (writeReg m Reg.RTC_CTL v)

/-- RTC_FORMAT_WRITE (R345). -/
def execRtcFormatWrite (m : Master) (v : Word) (s : State) : Out := act s (writeReg m Reg.RTC_CTL v)

/-- RTC_CLOCK_WRITE (R346). -/
def execRtcClockWrite (m : Master) (hi : Bool) (v : Word) (s : State) : Out :=
  act s (writeReg m (if hi then Reg.RTC_CLK1 else Reg.RTC_CLK0) v)

/-- RTC_SNAP (R348). -/
def execRtcSnap (m : Master) (s : State) : Out := act s (readReg m Reg.RTC_SNAP)

/-- OSC_STOP (R349). -/
def execOscStop (s : State) : Out := run (Sys2Proof.Machine.oscStop) s

/-- RTC_TEMP_SAMPLE (R352). -/
def execRtcTempSample (t : Int) (s : State) : Out := run (rtcTemp t) s

/-- RTC_CORRECTION (R352). -/
def execRtcCorrection (s : State) : Out := run (rtcCorrect) s

/-- VBAT_CHECK (R354). -/
def execVbatCheck (mv : Nat) (s : State) : Out := act s (Sys2Proof.Machine.vbatCheck mv)

/-- CHECKIN (R360). -/
def execCheckin (m : Master) (v : Word) (s : State) : Out := act s (writeReg m Reg.WARD_CHECKIN v)

/-- PERIOD_EXPIRY (R359). -/
def execPeriodExpiry (s : State) : Out := act s (expirePeriod)

/-- PREWARN (R366). -/
def execPrewarn (s : State) : Out := act s (Sys2Proof.Machine.prewarn)

/-- WARD_KEY (R369). -/
def execWardKey (m : Master) (v : Word) (s : State) : Out := act s (writeReg m Reg.WARD_KEY v)

/-- DISABLE (R369). -/
def execWardDisable (m : Master) (s : State) : Out := act s (writeReg m Reg.WARD_CMD 1)

/-- ENABLE (R363). -/
def execWardEnable (m : Master) (s : State) : Out := act s (writeReg m Reg.WARD_CMD 2)

/-- TEST (R363). -/
def execWardTest (m : Master) (s : State) : Out := act s (writeReg m Reg.WARD_CMD 3)

/-- NORMAL (R363). -/
def execWardNormal (m : Master) (s : State) : Out := act s (writeReg m Reg.WARD_CMD 4)

/-- WARD_LOCK (R369). -/
def execWardLock (m : Master) (v : Word) (s : State) : Out := act s (writeReg m Reg.WARD_LOCK v)

/-- WARD_PERIOD_WRITE (R368). -/
def execWardPeriodWrite (m : Master) (v : Word) (s : State) : Out := act s (writeReg m Reg.WARD_PERIOD v)

/-- WARD_CTRCLR (R371). -/
def execWardCtrclr (m : Master) (v : Word) (s : State) : Out := act s (writeReg m Reg.WARD_CTRCLR v)

/-- A unit reports a fault. Two reports stand for events that no other command does: SPEC, whose ledger storage failed its
check, discards its work (R130) and raises its F0 fault at most once per frame (R141), and RET's spare blocks have fallen below
10 percent (R239). (Log 147, DEDUCED.) -/
def reporting (code cls : Nat) (mas : BitVec 4) (s : State) : State :=
  if code = 0x0403 then specRaise 0x0403 mas (specDiscard s)
  else if code = 0x0713 then
    let (f, s) := takeFree s
    report code cls mas (putNat s Reg.RET_SPARE (f.toNat % 10))
  else report code cls mas s

/-- FAULT_REPORT (R374). -/
def execFaultReport (code : BitVec 16) (cls : Fin 4) (mas : BitVec 4) (s : State) : Out :=
  act s (reporting code.toNat cls.val mas)

/-- FLT_POP (R374). -/
def execFltPop (m : Master) (s : State) : Out := act s (writeReg m Reg.FLT_CMD 0x464C0001)

/-- FLT_CLEAR (R374). -/
def execFltClear (m : Master) (s : State) : Out := act s (writeReg m Reg.FLT_CMD 0x464C0002)

/-- FLT_RELEASE (R376). -/
def execFltRelease (m : Master) (contested : Bool) (s : State) : Out :=
  act s (fun s => writeReg m Reg.FLT_CMD 0x464C0003 { s with flt := { s.flt with contest := contested } })

/-- HEAD_CODE_READ (R380). -/
def execHeadCodeRead (m : Master) (s : State) : Out := act s (readReg m Reg.FLT_HEAD_CODE)

end Sys2Proof.Machine
end

