-- ==== Sys2Proof/Machine/Dispatch.lean ====
section
/-! DEFINITION. The dispatch of the commands: one arm for every constructor of `Instr`. -/

namespace Sys2Proof.Machine

/-- A command's effect on everything but the queue. -/
def exec (i : Instr) (s : State) : Host.Outcome State Fault Refusal :=
  match i with
  | .powerOnReset vbat => Sys2Proof.Machine.execPowerOnReset vbat s
  | .porRelease => Sys2Proof.Machine.execPorRelease s
  | .rstBPulse ns => Sys2Proof.Machine.execRstBPulse ns s
  | .sysResetDrst m => Sys2Proof.Machine.execSysResetDrst m s
  | .sysResetCdr m => Sys2Proof.Machine.execSysResetCdr m s
  | .clockLoss c => Sys2Proof.Machine.execClockLoss c s
  | .pfail => Sys2Proof.Machine.execPfail s
  | .dumpStart => Sys2Proof.Machine.execDumpStart s
  | .dumpSeal vinBack => Sys2Proof.Machine.execDumpSeal vinBack s
  | .bleederConnect => Sys2Proof.Machine.execBleederConnect s
  | .vinLow v => Sys2Proof.Machine.execVinLow v s
  | .vinHigh v => Sys2Proof.Machine.execVinHigh v s
  | .optimeStore => Sys2Proof.Machine.execOptimeStore s
  | .imageLoaded => Sys2Proof.Machine.execImageLoaded s
  | .memoryInitDone => Sys2Proof.Machine.execMemoryInitDone s
  | .restoreComplete pageBad => Sys2Proof.Machine.execRestoreComplete pageBad s
  | .endOfBoot => Sys2Proof.Machine.execEndOfBoot s
  | .arbitrationTimeout contested => Sys2Proof.Machine.execArbitrationTimeout contested s
  | .boltRetry contested => Sys2Proof.Machine.execBoltRetry contested s
  | .boltInChange level contested => Sys2Proof.Machine.execBoltInChange level contested s
  | .frameTick => Sys2Proof.Machine.execFrameTick s
  | .inputClose => Sys2Proof.Machine.execInputClose s
  | .commitClose => Sys2Proof.Machine.execCommitClose s
  | .checkpointComplete => Sys2Proof.Machine.execCheckpointComplete s
  | .applyInstant => Sys2Proof.Machine.execApplyInstant s
  | .timedEdge ao ch => Sys2Proof.Machine.execTimedEdge ao ch s
  | .modeRequest m v => Sys2Proof.Machine.execModeRequest m v s
  | .frmCtrclr m v => Sys2Proof.Machine.execFrmCtrclr m v s
  | .txnBegin m slot => Sys2Proof.Machine.execTxnBegin m slot s
  | .txnCommit m slot => Sys2Proof.Machine.execTxnCommit m slot s
  | .txnRollback m slot => Sys2Proof.Machine.execTxnRollback m slot s
  | .stagedWrite m off v => Sys2Proof.Machine.execStagedWrite m off v s
  | .registerWrite m off v => Sys2Proof.Machine.execRegisterWrite m off v s
  | .pairLowRead m off => Sys2Proof.Machine.execPairLowRead m off s
  | .hostRequest q => Sys2Proof.Machine.execHostRequest q s
  | .nop f => Sys2Proof.Machine.execNop f s
  | .endI f => Sys2Proof.Machine.execEndI f s
  | .brk f => Sys2Proof.Machine.execBrk f s
  | .notI f => Sys2Proof.Machine.execNotI f s
  | .push f => Sys2Proof.Machine.execPush f s
  | .popand f => Sys2Proof.Machine.execPopand f s
  | .popor f => Sys2Proof.Machine.execPopor f s
  | .popxor f => Sys2Proof.Machine.execPopxor f s
  | .ldt f => Sys2Proof.Machine.execLdt f s
  | .seg f => Sys2Proof.Machine.execSeg f s
  | .ret f => Sys2Proof.Machine.execRet f s
  | .movla f => Sys2Proof.Machine.execMovla f s
  | .setla f => Sys2Proof.Machine.execSetla f s
  | .ld f => Sys2Proof.Machine.execLd f s
  | .ldn f => Sys2Proof.Machine.execLdn f s
  | .andI f => Sys2Proof.Machine.execAndI f s
  | .andn f => Sys2Proof.Machine.execAndn f s
  | .orI f => Sys2Proof.Machine.execOrI f s
  | .orn f => Sys2Proof.Machine.execOrn f s
  | .xorI f => Sys2Proof.Machine.execXorI f s
  | .xorn f => Sys2Proof.Machine.execXorn f s
  | .st f => Sys2Proof.Machine.execSt f s
  | .stn f => Sys2Proof.Machine.execStn f s
  | .setI f => Sys2Proof.Machine.execSetI f s
  | .rst f => Sys2Proof.Machine.execRst f s
  | .red f => Sys2Proof.Machine.execRed f s
  | .fed f => Sys2Proof.Machine.execFed f s
  | .ton f => Sys2Proof.Machine.execTon f s
  | .tof f => Sys2Proof.Machine.execTof f s
  | .tp f => Sys2Proof.Machine.execTp f s
  | .ctu f => Sys2Proof.Machine.execCtu f s
  | .ctd f => Sys2Proof.Machine.execCtd f s
  | .crst f => Sys2Proof.Machine.execCrst f s
  | .ldb f => Sys2Proof.Machine.execLdb f s
  | .stb f => Sys2Proof.Machine.execStb f s
  | .ldw f => Sys2Proof.Machine.execLdw f s
  | .stw f => Sys2Proof.Machine.execStw f s
  | .bps f => Sys2Proof.Machine.execBps f s
  | .bpc f => Sys2Proof.Machine.execBpc f s
  | .add f => Sys2Proof.Machine.execAdd f s
  | .sub f => Sys2Proof.Machine.execSub f s
  | .mul f => Sys2Proof.Machine.execMul f s
  | .mulh f => Sys2Proof.Machine.execMulh f s
  | .div f => Sys2Proof.Machine.execDiv f s
  | .rem f => Sys2Proof.Machine.execRem f s
  | .iand f => Sys2Proof.Machine.execIand f s
  | .ior f => Sys2Proof.Machine.execIor f s
  | .ixor f => Sys2Proof.Machine.execIxor f s
  | .shl f => Sys2Proof.Machine.execShl f s
  | .shr f => Sys2Proof.Machine.execShr f s
  | .sar f => Sys2Proof.Machine.execSar f s
  | .slt f => Sys2Proof.Machine.execSlt f s
  | .ext f => Sys2Proof.Machine.execExt f s
  | .addi f => Sys2Proof.Machine.execAddi f s
  | .andi f => Sys2Proof.Machine.execAndi f s
  | .ori f => Sys2Proof.Machine.execOri f s
  | .xori f => Sys2Proof.Machine.execXori f s
  | .shli f => Sys2Proof.Machine.execShli f s
  | .shri f => Sys2Proof.Machine.execShri f s
  | .sari f => Sys2Proof.Machine.execSari f s
  | .slti f => Sys2Proof.Machine.execSlti f s
  | .lix f => Sys2Proof.Machine.execLix f s
  | .lixh f => Sys2Proof.Machine.execLixh f s
  | .lm8 f => Sys2Proof.Machine.execLm8 f s
  | .lm8s f => Sys2Proof.Machine.execLm8s f s
  | .lm16 f => Sys2Proof.Machine.execLm16 f s
  | .lm16s f => Sys2Proof.Machine.execLm16s f s
  | .lm32 f => Sys2Proof.Machine.execLm32 f s
  | .lm32s f => Sys2Proof.Machine.execLm32s f s
  | .lm64 f => Sys2Proof.Machine.execLm64 f s
  | .sm8 f => Sys2Proof.Machine.execSm8 f s
  | .sm16 f => Sys2Proof.Machine.execSm16 f s
  | .sm32 f => Sys2Proof.Machine.execSm32 f s
  | .sm64 f => Sys2Proof.Machine.execSm64 f s
  | .beq f => Sys2Proof.Machine.execBeq f s
  | .bne f => Sys2Proof.Machine.execBne f s
  | .blt f => Sys2Proof.Machine.execBlt f s
  | .bge f => Sys2Proof.Machine.execBge f s
  | .bltu f => Sys2Proof.Machine.execBltu f s
  | .bgeu f => Sys2Proof.Machine.execBgeu f s
  | .jmp f => Sys2Proof.Machine.execJmp f s
  | .call f => Sys2Proof.Machine.execCall f s
  | .blat f => Sys2Proof.Machine.execBlat f s
  | .blaf f => Sys2Proof.Machine.execBlaf f s
  | .jmpr f => Sys2Proof.Machine.execJmpr f s
  | .callr f => Sys2Proof.Machine.execCallr f s
  | .rpti f => Sys2Proof.Machine.execRpti f s
  | .rptu f => Sys2Proof.Machine.execRptu f s
  | .fadd f => Sys2Proof.Machine.execFadd f s
  | .fsub f => Sys2Proof.Machine.execFsub f s
  | .fmul f => Sys2Proof.Machine.execFmul f s
  | .fdiv f => Sys2Proof.Machine.execFdiv f s
  | .fsqrt f => Sys2Proof.Machine.execFsqrt f s
  | .fmin f => Sys2Proof.Machine.execFmin f s
  | .fmax f => Sys2Proof.Machine.execFmax f s
  | .fmadd f => Sys2Proof.Machine.execFmadd f s
  | .feq f => Sys2Proof.Machine.execFeq f s
  | .flt f => Sys2Proof.Machine.execFlt f s
  | .fle f => Sys2Proof.Machine.execFle f s
  | .fneg f => Sys2Proof.Machine.execFneg f s
  | .fabs f => Sys2Proof.Machine.execFabs f s
  | .fcvt f => Sys2Proof.Machine.execFcvt f s
  | .emit f => Sys2Proof.Machine.execEmit f s
  | .unitw f => Sys2Proof.Machine.execUnitw f s
  | .wchk f => Sys2Proof.Machine.execWchk f s
  | .evtrig f => Sys2Proof.Machine.execEvtrig f s
  | .pstw f => Sys2Proof.Machine.execPstw f s
  | .rdfn f => Sys2Proof.Machine.execRdfn f s
  | .rdft f => Sys2Proof.Machine.execRdft f s
  | .runAhead n => Sys2Proof.Machine.execRunAhead n s
  | .specCtrclr m v => Sys2Proof.Machine.execSpecCtrclr m v s
  | .knuckleVote q => Sys2Proof.Machine.execKnuckleVote q s
  | .tumblerMismatch a b c => Sys2Proof.Machine.execTumblerMismatch a b c s
  | .lfrComplete l => Sys2Proof.Machine.execLfrComplete l s
  | .rejoinLoadDone l uncorr => Sys2Proof.Machine.execRejoinLoadDone l uncorr s
  | .leafRestart m l => Sys2Proof.Machine.execLeafRestart m l s
  | .leafQuarantine m l => Sys2Proof.Machine.execLeafQuarantine m l s
  | .leafRelease m l => Sys2Proof.Machine.execLeafRelease m l s
  | .leafCtrclr m v => Sys2Proof.Machine.execLeafCtrclr m v s
  | .traplogRead m => Sys2Proof.Machine.execTraplogRead m s
  | .cdrBegin => Sys2Proof.Machine.execCdrBegin s
  | .cdrResume => Sys2Proof.Machine.execCdrResume s
  | .heartbeatSend => Sys2Proof.Machine.execHeartbeatSend s
  | .heartbeat q => Sys2Proof.Machine.execHeartbeat q s
  | .heartbeatLost contested => Sys2Proof.Machine.execHeartbeatLost contested s
  | .unreachable => Sys2Proof.Machine.execUnreachable s
  | .handoverFail contested => Sys2Proof.Machine.execHandoverFail contested s
  | .haspLaneDown l => Sys2Proof.Machine.execHaspLaneDown l s
  | .haspLaneUp l => Sys2Proof.Machine.execHaspLaneUp l s
  | .sample q => Sys2Proof.Machine.execSample q s
  | .accept q => Sys2Proof.Machine.execAccept q s
  | .payload frame lane f => Sys2Proof.Machine.execPayload frame lane f s
  | .triggerRecord kind index frame => Sys2Proof.Machine.execTriggerRecord kind index frame s
  | .close frame count => Sys2Proof.Machine.execClose frame count s
  | .position q => Sys2Proof.Machine.execPosition q s
  | .writeRecord q => Sys2Proof.Machine.execWriteRecord q s
  | .commits q => Sys2Proof.Machine.execCommits q s
  | .ccRecord q => Sys2Proof.Machine.execCcRecord q s
  | .txdone lane order => Sys2Proof.Machine.execTxdone lane order s
  | .digest frame crc => Sys2Proof.Machine.execDigest frame crc s
  | .yieldRecord contested => Sys2Proof.Machine.execYieldRecord contested s
  | .leaveRecord => Sys2Proof.Machine.execLeaveRecord s
  | .copyRecord page data => Sys2Proof.Machine.execCopyRecord page data s
  | .mirrorRecord addr data => Sys2Proof.Machine.execMirrorRecord addr data s
  | .shadowClose => Sys2Proof.Machine.execShadowClose s
  | .copyPassEnd => Sys2Proof.Machine.execCopyPassEnd s
  | .joinRestart => Sys2Proof.Machine.execJoinRestart s
  | .autojoin => Sys2Proof.Machine.execAutojoin s
  | .join m => Sys2Proof.Machine.execJoin m s
  | .leave m => Sys2Proof.Machine.execLeave m s
  | .haspYield m => Sys2Proof.Machine.execHaspYield m s
  | .haspAssume m contested => Sys2Proof.Machine.execHaspAssume m contested s
  | .haspCtrclr m v => Sys2Proof.Machine.execHaspCtrclr m v s
  | .forceTableWrite m addr data => Sys2Proof.Machine.execForceTableWrite m addr data s
  | .forceClear m => Sys2Proof.Machine.execForceClear m s
  | .deltaWrite m off v => Sys2Proof.Machine.execDeltaWrite m off v s
  | .verify m => Sys2Proof.Machine.execVerify m s
  | .verifyAbandon m => Sys2Proof.Machine.execVerifyAbandon m s
  | .verificationEnd => Sys2Proof.Machine.execVerificationEnd s
  | .patrolScrub addr => Sys2Proof.Machine.execPatrolScrub addr s
  | .memInject m v => Sys2Proof.Machine.execMemInject m v s
  | .memCtrclr m v => Sys2Proof.Machine.execMemCtrclr m v s
  | .pageCleaning page => Sys2Proof.Machine.execPageCleaning page s
  | .dirtyStall q => Sys2Proof.Machine.execDirtyStall q s
  | .holdupMeasure cap volt => Sys2Proof.Machine.execHoldupMeasure cap volt s
  | .retCtrclr m v => Sys2Proof.Machine.execRetCtrclr m v s
  | .frameReception lane f => Sys2Proof.Machine.execFrameReception lane f s
  | .windowOccurrence lane w => Sys2Proof.Machine.execWindowOccurrence lane w s
  | .transmissionComplete lane => Sys2Proof.Machine.execTransmissionComplete lane s
  | .transmissionError lane tec => Sys2Proof.Machine.execTransmissionError lane tec s
  | .recovered lane => Sys2Proof.Machine.execRecovered lane s
  | .recover m lane => Sys2Proof.Machine.execRecover m lane s
  | .integrationDone lane => Sys2Proof.Machine.execIntegrationDone lane s
  | .laneCtrclr m lane v => Sys2Proof.Machine.execLaneCtrclr m lane v s
  | .referenceMessage lane won => Sys2Proof.Machine.execReferenceMessage lane won s
  | .referenceReception lane q => Sys2Proof.Machine.execReferenceReception lane q s
  | .sourceLost => Sys2Proof.Machine.execSourceLost s
  | .echoReq lane q => Sys2Proof.Machine.execEchoReq lane q s
  | .echoRsp lane q => Sys2Proof.Machine.execEchoRsp lane q s
  | .echoRes lane q => Sys2Proof.Machine.execEchoRes lane q s
  | .echoFail lane => Sys2Proof.Machine.execEchoFail lane s
  | .ppsOutputRise => Sys2Proof.Machine.execPpsOutputRise s
  | .ppsOutputFall => Sys2Proof.Machine.execPpsOutputFall s
  | .timeInEdge => Sys2Proof.Machine.execTimeInEdge s
  | .fieldRealign out => Sys2Proof.Machine.execFieldRealign out s
  | .timeStep m => Sys2Proof.Machine.execTimeStep m s
  | .timeEvent ev => Sys2Proof.Machine.execTimeEvent ev s
  | .timeNowRead m => Sys2Proof.Machine.execTimeNowRead m s
  | .mapRead m p => Sys2Proof.Machine.execMapRead m p s
  | .timeCtrclr m v => Sys2Proof.Machine.execTimeCtrclr m v s
  | .rawTransition ch level => Sys2Proof.Machine.execRawTransition ch level s
  | .chatterWindowEnd ch => Sys2Proof.Machine.execChatterWindowEnd ch s
  | .filteredEdge ch => Sys2Proof.Machine.execFilteredEdge ch s
  | .stuckActive ch => Sys2Proof.Machine.execStuckActive ch s
  | .wireBreak ch => Sys2Proof.Machine.execWireBreak ch s
  | .wireBreakClear ch => Sys2Proof.Machine.execWireBreakClear ch s
  | .currentLimit ch ma => Sys2Proof.Machine.execCurrentLimit ch ma s
  | .bankOverload b isum => Sys2Proof.Machine.execBankOverload b isum s
  | .thermalShutdown ch => Sys2Proof.Machine.execThermalShutdown ch s
  | .thermalCool ch => Sys2Proof.Machine.execThermalCool ch s
  | .tlatchClear m ch => Sys2Proof.Machine.execTlatchClear m ch s
  | .rbMismatch ch => Sys2Proof.Machine.execRbMismatch ch s
  | .lpLow b lpv => Sys2Proof.Machine.execLpLow b lpv s
  | .edgecntRead m ch => Sys2Proof.Machine.execEdgecntRead m ch s
  | .noCompliance ch => Sys2Proof.Machine.execNoCompliance ch s
  | .nocompClear ch => Sys2Proof.Machine.execNocompClear ch s
  | .thermalFoldback ch ceil => Sys2Proof.Machine.execThermalFoldback ch ceil s
  | .foldbackEnd ch => Sys2Proof.Machine.execFoldbackEnd ch s
  | .openLoop ch => Sys2Proof.Machine.execOpenLoop ch s
  | .openLoopClear ch => Sys2Proof.Machine.execOpenLoopClear ch s
  | .aoRbMismatch ch => Sys2Proof.Machine.execAoRbMismatch ch s
  | .groupSupply g => Sys2Proof.Machine.execGroupSupply g s
  | .groupResume g => Sys2Proof.Machine.execGroupResume g s
  | .readbackRead m ch => Sys2Proof.Machine.execReadbackRead m ch s
  | .secondStep => Sys2Proof.Machine.execSecondStep s
  | .rtcHalt m v => Sys2Proof.Machine.execRtcHalt m v s
  | .rtcRun m v => Sys2Proof.Machine.execRtcRun m v s
  | .rtcFormatWrite m v => Sys2Proof.Machine.execRtcFormatWrite m v s
  | .rtcClockWrite m hi v => Sys2Proof.Machine.execRtcClockWrite m hi v s
  | .rtcSnap m => Sys2Proof.Machine.execRtcSnap m s
  | .oscStop => Sys2Proof.Machine.execOscStop s
  | .rtcTempSample t => Sys2Proof.Machine.execRtcTempSample t s
  | .rtcCorrection => Sys2Proof.Machine.execRtcCorrection s
  | .vbatCheck mv => Sys2Proof.Machine.execVbatCheck mv s
  | .checkin m v => Sys2Proof.Machine.execCheckin m v s
  | .periodExpiry => Sys2Proof.Machine.execPeriodExpiry s
  | .prewarn => Sys2Proof.Machine.execPrewarn s
  | .wardKey m v => Sys2Proof.Machine.execWardKey m v s
  | .wardDisable m => Sys2Proof.Machine.execWardDisable m s
  | .wardEnable m => Sys2Proof.Machine.execWardEnable m s
  | .wardTest m => Sys2Proof.Machine.execWardTest m s
  | .wardNormal m => Sys2Proof.Machine.execWardNormal m s
  | .wardLock m v => Sys2Proof.Machine.execWardLock m v s
  | .wardPeriodWrite m v => Sys2Proof.Machine.execWardPeriodWrite m v s
  | .wardCtrclr m v => Sys2Proof.Machine.execWardCtrclr m v s
  | .faultReport code cls mas => Sys2Proof.Machine.execFaultReport code cls mas s
  | .fltPop m => Sys2Proof.Machine.execFltPop m s
  | .fltClear m => Sys2Proof.Machine.execFltClear m s
  | .fltRelease m contested => Sys2Proof.Machine.execFltRelease m contested s
  | .headCodeRead m => Sys2Proof.Machine.execHeadCodeRead m s
  | .blockProtectWrite m v => Sys2Proof.Machine.execBlockProtectWrite m v s
  | .page1Lock m v => Sys2Proof.Machine.execPage1Lock m v s
  | .select m r => Sys2Proof.Machine.execSelect m r s
  | .sealRec m r => Sys2Proof.Machine.execSealRec m r s
  | .recordCommandDone => Sys2Proof.Machine.execRecordCommandDone s
  | .pstCtrclr m v => Sys2Proof.Machine.execPstCtrclr m v s
  | .evrTrig m v => Sys2Proof.Machine.execEvrTrig m v s
  | .eventRecordWrite => Sys2Proof.Machine.execEventRecordWrite s
  | .cursorWrite m hi v => Sys2Proof.Machine.execCursorWrite m hi v s
  | .evrClear m => Sys2Proof.Machine.execEvrClear m s
  | .update m => Sys2Proof.Machine.execUpdate m s
  | .updateEnd => Sys2Proof.Machine.execUpdateEnd s
  | .pnlCrc m => Sys2Proof.Machine.execPnlCrc m s
  | .repaintStart => Sys2Proof.Machine.execRepaintStart s
  | .repaintEnd => Sys2Proof.Machine.execRepaintEnd s
  | .hvenOff => Sys2Proof.Machine.execHvenOff s
  | .thermistorReading t => Sys2Proof.Machine.execThermistorReading t s
  | .erase m => Sys2Proof.Machine.execErase m s
  | .program m => Sys2Proof.Machine.execProgram m s
  | .flashCommandEnd ok => Sys2Proof.Machine.execFlashCommandEnd ok s
  | .doorbell m v => Sys2Proof.Machine.execDoorbell m v s
  | .signal m v => Sys2Proof.Machine.execSignal m v s
  | .hostResetRequest m v => Sys2Proof.Machine.execHostResetRequest m v s
  | .windowBBaseWrite m v => Sys2Proof.Machine.execWindowBBaseWrite m v s
  | .linkDown => Sys2Proof.Machine.execLinkDown s
  | .portReset perst => Sys2Proof.Machine.execPortReset perst s
  | .idcode => Sys2Proof.Machine.execIdcode s
  | .samplePreload => Sys2Proof.Machine.execSamplePreload s
  | .extest => Sys2Proof.Machine.execExtest s
  | .clamp => Sys2Proof.Machine.execClamp s
  | .highz => Sys2Proof.Machine.execHighz s
  | .dbgacc => Sys2Proof.Machine.execDbgacc s
  | .bypass => Sys2Proof.Machine.execBypass s
  | .dbgaccUpdate dr => Sys2Proof.Machine.execDbgaccUpdate dr s
  | .dbgHalt m => Sys2Proof.Machine.execDbgHalt m s
  | .dbgResume m => Sys2Proof.Machine.execDbgResume m s
  | .dbgStep m => Sys2Proof.Machine.execDbgStep m s
  | .lidHot t => Sys2Proof.Machine.execLidHot t s
  | .lidTempReading t => Sys2Proof.Machine.execLidTempReading t s
  | .linkUp speed width => Sys2Proof.Machine.execLinkUp speed width s
  | .lpLowClear b lpv => Sys2Proof.Machine.execLpLowClear b lpv s
  | .rbmisClear ch => Sys2Proof.Machine.execRbmisClear ch s
  | .overloadClear b isum => Sys2Proof.Machine.execOverloadClear b isum s
  | .limitingEpisodeEnd ch => Sys2Proof.Machine.execLimitingEpisodeEnd ch s
  | .aoRbmisClear ch => Sys2Proof.Machine.execAoRbmisClear ch s
  | .windowClose lane w => Sys2Proof.Machine.execWindowClose lane w s
  | .receptionError lane rec => Sys2Proof.Machine.execReceptionError lane rec s
  | .payloadRequest frame lane stamp => Sys2Proof.Machine.execPayloadRequest frame lane stamp s
  | .digestTimeout frame => Sys2Proof.Machine.execDigestTimeout frame s
  | .testLogicReset => Sys2Proof.Machine.execTestLogicReset s

end Sys2Proof.Machine
end

