-- ==== Sys2Proof/Machine/Step.lean ====
section
/-! DEFINITION. One step: the command at the front of the queue, or one period of the fabric clock. -/

namespace Sys2Proof.Machine

/-- A step takes the command at the front of the queue; with no command waiting, one period of 2.5 ns passes. (Log 1, DESIGN CHOICE.) -/
def step (s : State) : Host.Outcome State Fault Refusal :=
  match s.pending with
  | [] => act s fun s => advanceTo (s.raw + 1) s
  | c :: q => exec c { s with pending := q }

/-- The state with the command that a word spells put at the front of the queue. -/
def State.withFetchWord (s : State) (nbits w : Nat) : State :=
  match decodeTableWord nbits w with
  | some c => { s with pending := c :: s.pending }
  | none => s

end Sys2Proof.Machine
end

