-- ==== Sys2Proof/Machine/Encode.lean ====
section
/-! DEFINITION. The words of the leaf instructions, as the code region holds them (R95 to R97, R99): the encoder that the formats
of R96 give. -/

namespace Sys2Proof.Machine

/-- Format N: Z is bits [23:0]. -/
def nWords (op : Nat) (f : NF) : List Nat := [op * 2 ^ 24 + f.z.toNat]

/-- Format P: MOD, CLS and IDX. -/
def pWords (op : Nat) (f : PF) : List Nat := [op * 2 ^ 24 + f.mod.toNat * 2 ^ 21 + f.cls.toNat * 2 ^ 18 + f.idx.toNat]

/-- Format R: RD, RA, RB and FN. -/
def rWords (op : Nat) (f : RF) : List Nat :=
  [op * 2 ^ 24 + f.rd.toNat * 2 ^ 19 + f.ra.toNat * 2 ^ 14 + f.rb.toNat * 2 ^ 9 + f.fn.toNat]

/-- Format I: RD, RA and IMM. -/
def iWords (op : Nat) (f : IF) : List Nat := [op * 2 ^ 24 + f.rd.toNat * 2 ^ 19 + f.ra.toNat * 2 ^ 14 + f.imm.toNat]

/-- Format B: RA, RB and OFF. -/
def bWords (op : Nat) (f : BF) : List Nat := [op * 2 ^ 24 + f.ra.toNat * 2 ^ 19 + f.rb.toNat * 2 ^ 14 + f.off.toNat]

/-- Format J: TGT. -/
def jWords (op : Nat) (f : JF) : List Nat := [op * 2 ^ 24 + f.tgt.toNat]

/-- Format PX: RD, RB and OFF, and the extension word. -/
def pxWords (op : Nat) (f : PXF) : List Nat :=
  [op * 2 ^ 24 + f.rd.toNat * 2 ^ 19 + f.rb.toNat * 2 ^ 14 + f.off.toNat,
   f.top.toNat * 2 ^ 24 + f.sgn.toNat * 2 ^ 23 + f.indexed.toNat * 2 ^ 22 + f.step.toNat * 2 ^ 21 + f.cls.toNat * 2 ^ 18 +
     f.idx.toNat]

/-- Format LX: RD, and IMM32 in the extension word. -/
def lxWords (op : Nat) (f : LXF) : List Nat := [op * 2 ^ 24 + f.rd.toNat * 2 ^ 19 + f.low.toNat, f.imm32.toNat]

/-- The words of a leaf instruction, first word first; none for the other commands. -/
def instrWords : Instr → Option (List Nat)
  | .nop f => some (nWords 0x01 f)
  | .endI f => some (nWords 0x02 f)
  | .brk f => some (nWords 0x03 f)
  | .notI f => some (nWords 0x04 f)
  | .push f => some (nWords 0x05 f)
  | .popand f => some (nWords 0x06 f)
  | .popor f => some (nWords 0x07 f)
  | .popxor f => some (nWords 0x08 f)
  | .ldt f => some (nWords 0x09 f)
  | .seg f => some (nWords 0x0A f)
  | .ret f => some (nWords 0x0B f)
  | .movla f => some (rWords 0x0C f)
  | .setla f => some (rWords 0x0D f)
  | .ld f => some (pWords 0x10 f)
  | .ldn f => some (pWords 0x11 f)
  | .andI f => some (pWords 0x12 f)
  | .andn f => some (pWords 0x13 f)
  | .orI f => some (pWords 0x14 f)
  | .orn f => some (pWords 0x15 f)
  | .xorI f => some (pWords 0x16 f)
  | .xorn f => some (pWords 0x17 f)
  | .st f => some (pWords 0x18 f)
  | .stn f => some (pWords 0x19 f)
  | .setI f => some (pWords 0x1A f)
  | .rst f => some (pWords 0x1B f)
  | .red f => some (pWords 0x1C f)
  | .fed f => some (pWords 0x1D f)
  | .ton f => some (pWords 0x20 f)
  | .tof f => some (pWords 0x21 f)
  | .tp f => some (pWords 0x22 f)
  | .ctu f => some (pWords 0x23 f)
  | .ctd f => some (pWords 0x24 f)
  | .crst f => some (pWords 0x25 f)
  | .ldb f => some (pxWords 0x30 f)
  | .stb f => some (pxWords 0x31 f)
  | .ldw f => some (pxWords 0x32 f)
  | .stw f => some (pxWords 0x33 f)
  | .bps f => some (pxWords 0x34 f)
  | .bpc f => some (pxWords 0x35 f)
  | .add f => some (rWords 0x40 f)
  | .sub f => some (rWords 0x41 f)
  | .mul f => some (rWords 0x42 f)
  | .mulh f => some (rWords 0x43 f)
  | .div f => some (rWords 0x44 f)
  | .rem f => some (rWords 0x45 f)
  | .iand f => some (rWords 0x46 f)
  | .ior f => some (rWords 0x47 f)
  | .ixor f => some (rWords 0x48 f)
  | .shl f => some (rWords 0x49 f)
  | .shr f => some (rWords 0x4A f)
  | .sar f => some (rWords 0x4B f)
  | .slt f => some (rWords 0x4C f)
  | .ext f => some (rWords 0x4D f)
  | .addi f => some (iWords 0x50 f)
  | .andi f => some (iWords 0x51 f)
  | .ori f => some (iWords 0x52 f)
  | .xori f => some (iWords 0x53 f)
  | .shli f => some (iWords 0x54 f)
  | .shri f => some (iWords 0x55 f)
  | .sari f => some (iWords 0x56 f)
  | .slti f => some (iWords 0x57 f)
  | .lix f => some (lxWords 0x58 f)
  | .lixh f => some (lxWords 0x59 f)
  | .lm8 f => some (iWords 0x60 f)
  | .lm8s f => some (iWords 0x61 f)
  | .lm16 f => some (iWords 0x62 f)
  | .lm16s f => some (iWords 0x63 f)
  | .lm32 f => some (iWords 0x64 f)
  | .lm32s f => some (iWords 0x65 f)
  | .lm64 f => some (iWords 0x66 f)
  | .sm8 f => some (iWords 0x68 f)
  | .sm16 f => some (iWords 0x69 f)
  | .sm32 f => some (iWords 0x6A f)
  | .sm64 f => some (iWords 0x6B f)
  | .beq f => some (bWords 0x70 f)
  | .bne f => some (bWords 0x71 f)
  | .blt f => some (bWords 0x72 f)
  | .bge f => some (bWords 0x73 f)
  | .bltu f => some (bWords 0x74 f)
  | .bgeu f => some (bWords 0x75 f)
  | .jmp f => some (jWords 0x78 f)
  | .call f => some (jWords 0x79 f)
  | .blat f => some (jWords 0x7A f)
  | .blaf f => some (jWords 0x7B f)
  | .jmpr f => some (rWords 0x7C f)
  | .callr f => some (rWords 0x7D f)
  | .rpti f => some (iWords 0x80 f)
  | .rptu f => some (iWords 0x81 f)
  | .fadd f => some (rWords 0x90 f)
  | .fsub f => some (rWords 0x91 f)
  | .fmul f => some (rWords 0x92 f)
  | .fdiv f => some (rWords 0x93 f)
  | .fsqrt f => some (rWords 0x94 f)
  | .fmin f => some (rWords 0x95 f)
  | .fmax f => some (rWords 0x96 f)
  | .fmadd f => some (rWords 0x97 f)
  | .feq f => some (rWords 0x98 f)
  | .flt f => some (rWords 0x99 f)
  | .fle f => some (rWords 0x9A f)
  | .fneg f => some (rWords 0x9B f)
  | .fabs f => some (rWords 0x9C f)
  | .fcvt f => some (rWords 0x9D f)
  | .emit f => some (rWords 0xA0 f)
  | .unitw f => some (rWords 0xA1 f)
  | .wchk f => some (iWords 0xA2 f)
  | .evtrig f => some (iWords 0xA3 f)
  | .pstw f => some (rWords 0xA4 f)
  | .rdfn f => some (rWords 0xB0 f)
  | .rdft f => some (rWords 0xB1 f)
  | _ => none

end Sys2Proof.Machine
end

