-- ==== Sys2Proof/Safety.lean ====
section
/-! DEFINITION. The terms in which statements about the machine are made: the state between two commands, an instance that
executes, what taking a fault changes, and the forms that the state's sparse maps keep. -/

namespace Sys2Proof.Machine

/-! Between commands. -/

/-- The device runs, and FLT has taken every fault of the commands before (R378). -/
def Runs (s : State) : Prop := alive s = true ∧ s.flt.arrived = []

/-- The device runs, and FLT's queue has room for the faults of one command. -/
def Roomy (s : State) : Prop := Runs s ∧ s.flt.queue.length ≤ 48

/-- The registers in which FLT, the host port and the recorder count and signal faults (R374, R399, R442). -/
def faultReg (o : Nat) : Bool :=
  o = Reg.FLT_CNT 0 || o = Reg.FLT_CNT 1 || o = Reg.HOST_CAUSE_LO || o = Reg.HOST_CAUSE_HI || o = Reg.HOST_PBA_LO ||
    o = Reg.HOST_PBA_HI || o = Reg.EVR_DROPCNT

/-- `t` is `s` but for what notices and F1 faults leave: FLT's queue and counters, the recorder's queue, and the host's
causes, pending bits and messages. -/
structure Noted (s t : State) : Prop where
  rest : { t with regs := s.regs, flt := s.flt, evr := s.evr, host := s.host } = s
  flt : { t.flt with queue := s.flt.queue, arrived := s.flt.arrived } = s.flt
  evr : { t.evr with queue := s.evr.queue } = s.evr
  host : { t.host with msgs := s.host.msgs } = s.host
  regs : ∀ o, faultReg o = false → getReg t o = getReg s o

/-- `t` is `s` with a fault entered in FLT's queue, and nothing else changed. -/
def Faulted (code cls : Nat) (s t : State) : Prop :=
  Noted s t ∧ t.flt.arrived = [] ∧ ∃ e ∈ t.flt.queue, e.code.toNat = code ∧ e.cls.val = cls

/-! Memory. -/

/-- A word whose code is good takes a write by M0 at once: no page has to be cleaned first, the undo log has room, nothing is
armed to corrupt it and no join mirrors it (R190, R217, R222, R225, R237). -/
structure Storable (s : State) (a : Nat) : Prop where
  good : eccAt s a = .good
  page : isDirty s (a / 4096) = true ∨ s.mm.dirty.length < limitPages s
  room : undoFull a s = false
  plain : s.mm.inject = []
  alone : s.hasp.mirroring = false

/-- The byte lies in the entries that the undo log may take for a store of `n` bytes at `a` (R220, R222). -/
def logByte (s : State) (a n x : Nat) : Bool :=
  logged a && undoBase s + 16 * s.mm.undo.length ≤ x && x < undoBase s + 16 * (s.mm.undo.length + n)

/-- Every byte of memory outside `n` bytes from `a` reads in `t` as in `s`. -/
def SameOutside (s t : State) (a n : Nat) : Prop := ∀ x, x < a ∨ a + n ≤ x → memByte t x = memByte s x

/-- The registers in which MEM, PST, OLC and SPEC follow the writes of memory (R206, R217, R222, R386, R130). -/
def storeReg (o : Nat) : Bool :=
  o = Reg.MEM_STAT || o = Reg.MEM_UNDOPEAK || o = Reg.PST_STAT || o = Reg.OLC_STAT || o = Reg.SPEC_STAT || o = Reg.SPEC_DISCARDS

/-- `t` differs from `s` in nothing but memory and what the units that watch memory keep: the instances and the frame, the
faults that wait, the positions that a standby follows, the pins, the start, and every other register are as they were. -/
structure Beside (s t : State) : Prop where
  frm : t.frm = s.frm
  flt : t.flt = s.flt
  posQ : t.hasp.posQ = s.hasp.posQ
  pads : t.pads = s.pads
  boot : t.boot = s.boot
  regs : ∀ o, storeReg o = false → getReg t o = getReg s o

/-- All memory reads in `t` as in `s`. -/
def SameMemory (s t : State) : Prop := ∀ x, memByte t x = memByte s x

/-! Instructions of a task (R87, R119). -/

/-- The leaves execute the instance `i` of task `t`, and nothing stands before its next instruction: no breakpoint, no
position that a standby waits for, no preemption that an RPTU holds off, a PC inside the code region, and words of code whose
codes are good (R216). -/
structure Executes (s : State) (t : Nat) (i : Inst) : Prop where
  runs : Runs s
  inst : runningInst s = some (t, i)
  free : breakpointAt s t i = none
  pass : s.leaf.passBp ≠ some t
  leads : s.hasp.posQ = []
  order : inRptu i = true → othersReady t s = false
  pc : i.ctx.pc < 2 ^ 24
  code : ∀ j ∈ fetchIdx (codeWord s) i.ctx, eccAt s (codeBase s + 4 * j) = .good

/-- `s` once the instance `i` of task `t` has executed an instruction that leaves the context `c` (R175). -/
def stepped (s : State) (t : Nat) (i : Inst) (c : Ctx) : State := putInst t { i with ctx := c, count := i.count + 1 } s

/-- An instruction of task `t` completes with the context `c`, and nothing else changes. -/
def completed (s : State) (t : Nat) (i : Inst) (c : Ctx) : Out := .next (stepped s t i c)

/-- An instruction of task `t` ends in the trap of a cause (R118). -/
def trapped (s : State) (t : Nat) (i : Inst) (k : Nat) : Out := .next (settleFaults (followPos (takeTrap t k i s)))

/-- An instruction completes with the context `c`, having stored the bytes `b` at `a`; every other byte is unchanged but those
of the entries that the undo log takes, and so is everything but the units that watch memory. -/
def Wrote (s u : State) (t : Nat) (i : Inst) (c : Ctx) (a : Nat) (b : List Byte) : Prop :=
  Beside (stepped s t i c) u ∧ ∀ x, (a ≤ x ∧ x < a + b.length) ∨ logByte s a b.length x = false →
    memByte u x = if a ≤ x ∧ x < a + b.length then b.getD (x - a) 0 else memByte s x

/-- The `n` bytes from `a` take writes by M0 at once, each as `Storable` says, whatever of them was written before. -/
structure StorableAll (s : State) (a n : Nat) : Prop where
  good : ∀ x, a ≤ x → x < a + n → eccAt s x = .good
  page : s.mm.dirty.length + 2 * n < limitPages s
  room : s.mm.undo.length + n ≤ undoMax
  plain : s.mm.inject = []
  alone : s.hasp.mirroring = false

/-- The instance `i` of task `t` is the only one, and no run-ahead work stands that its end would take up. -/
def Alone (s : State) (t : Nat) (i : Inst) : Prop := s.frm.insts = [(t, i)] ∧ s.spec.replaying = none

/-- The value of a finite number, as a rational. -/
def ratOf (neg : Bool) (m : Nat) (e : Int) : ℚ := (if neg then -1 else 1) * m * (2 : ℚ) ^ e

/-- The point that a format P operand names, where `k` words belong to it (R94, R96). -/
def pointP (f : PF) (k : Nat) (c : Ctx) : Nat := f.idx.toNat + (if f.mod.getLsbD 0 then iterOf c * k else 0)

/-- The point that a PX operand names (R94, R96). -/
def pointPX (f : PXF) (c : Ctx) : Int :=
  f.idx.toNat + (if f.indexed then (getX c f.rb).toInt else 0) + (if f.step then (iterOf c : Int) else 0)

/-- The fields of a PX instruction that must be 0 but for RD, OFF and SIGNED (R96, R97, R104). -/
def plainPX (f : PXF) : Prop := f.top = 0 ∧ (f.indexed = false → f.rb = 0)

/-! How a command ends. -/

/-- A command goes on, in a state of which `p` holds. -/
def Ends (o : Out) (p : State → Prop) : Prop := ∃ u, o = .next u ∧ p u

/-- A command leaves `v` and raises a fault that no access caused, which FLT takes (R378). -/
def raised (code cls : Nat) (v : State) : Out := .next (settleFaults (raise code cls v))

/-- A write leaves `v` and is answered with success. -/
def accepted (v : State) : Out := .next { v with answer := .done }

/-- A write changes nothing but for the notice that it raises, and is answered with an error response (R5). -/
def refused (m : Master) (code : Nat) (s : State) : Out := .next (settleFaults { raiseBy m code 0 s with answer := .error })

/-- A write leaves `v`, raises a fault that names its master, and is answered with success. -/
def told (m : Master) (code cls : Nat) (v : State) : Out := .next (settleFaults { raiseBy m code cls v with answer := .done })

/-- No event task is enabled, so that nothing triggers one. -/
def Untriggered (s : State) : Prop := ∀ e, e < 16 → taskEn s (32 + e) = false

/-- A fault stands in FLT's queue. -/
def Queued (code cls : Nat) (s : State) : Prop := ∃ e ∈ s.flt.queue, e.code.toNat = code ∧ e.cls.val = cls

/-! What statements assume of a state, and what a reset or a clear leaves. -/

/-- What a DRST leaves, once its start has begun (R29, R33, R379, R434). -/
def DrstDone (s u : State) : Prop :=
  u.raw = 0 ∧ u.boot.por = false ∧ u.boot.running = true ∧ u.boot.retained = true ∧ u.frm.ticking = false ∧ u.frm.insts = [] ∧
    curMode u = modeStop ∧ haspState u = 0 ∧ u.pads.boltOut = false ∧ enabled u = false ∧ u.boot.flash = s.boot.flash ∧
    fld u Reg.SYS_CLKSTAT 1 0 = 3 ∧ (∀ m, m < 4 → slotState u m ≠ 1) ∧
    (flag s Reg.FLT_STAT 1 = true → fld s Reg.FLT_CUR3 31 16 ≠ codeQueueFull → Queued (fld s Reg.FLT_CUR3 31 16) 3 u)

/-- A SOLO module whose frames run, with nothing that its next boundary would apply (R55, R210, R276). -/
structure Undisturbed (s : State) : Prop where
  roomy : Roomy s
  solo : haspState s = 0
  ticking : s.frm.ticking = true
  first : s.frm.first = false
  power : s.pads.pfailB = true
  order : s.txn.order = []
  change : s.olc.waiting = none ∧ s.olc.installing = none ∧ s.olc.refusing = none
  period : s.frm.switchTo = none
  step : s.time.stepBy = none ∧ s.time.stepCmd = false
  rate : s.time.rate = mapRate s 0
  debug : s.leaf.dbgHalt = false ∧ s.leaf.resuming = false
  told : s.hasp.commitsDue = []
  calm : flag s Reg.FLT_STAT 1 = false

/-- No action of FLT holds the leaves, and no CDR is in progress. -/
def NoAction (s : State) : Prop := s.flt.cdr = none ∧ s.flt.restored = false ∧ s.leaf.actHalt = false

/-- No input or output of the module takes part in a frame: nothing is mapped, no channel has left its reset state, and no lane is on
its bus. -/
def Bare (s : State) : Prop :=
  s.frm.iomap = [] ∧ s.lanes = [] ∧ s.dio = [] ∧ s.ao = [] ∧ s.frm.nextOut = none ∧ ∀ n, n < 12 → onBus s n = false

/-- A CTRCLR write leaves `s` but for the registers to which `f` gives a value. -/
def Cleared (s u : State) (f : Nat → Option Nat) : Prop :=
  u.answer = .done ∧ { u with regs := s.regs, answer := s.answer } = s ∧ ∀ o, regNat u o = (f o).getD (regNat s o)

/-- The registers of a list become 0. -/
def zeros (l : List Nat) (o : Nat) : Option Nat := if o ∈ l then some 0 else none

/-! The forms that the state keeps. -/

/-- The register file, memory and its codes are in canonical form. -/
def Canonical (s : State) : Prop := smWf regReset s.regs = true ∧ Memory.wf s.mem = true ∧ smWf eccGood s.ecc = true

/-- Between two commands no fault waits to be taken (R378). -/
def Settled (s : State) : Prop := s.flt.arrived = []

end Sys2Proof.Machine
end

