-- ==== Sys2Proof/WellFormed.lean ====
section
/-! DEFINITION. Which commands are well formed: their operands lie in the ranges that the manual's blocks have. A command's
meaning is total all the same; a command out of range names no part of the device. -/

namespace Sys2Proof

/-- A bus lane (R240). -/
def laneOk (l : Nat) : Bool := decide (l < 12)

/-- A digital channel (R299). -/
def chOk (c : Nat) : Bool := decide (c < 192)

/-- A loop output channel (R320). -/
def aoOk (c : Nat) : Bool := decide (c < 48)

/-- A digital bank (R299). -/
def bankOk (b : Nat) : Bool := decide (b < 12)

/-- A loop output group (R320). -/
def groupOk (g : Nat) : Bool := decide (g < 6)

/-- An entry of a window table, or 63 for time outside every window (R258, R280). -/
def windowOk (w : Nat) : Bool := decide (w < 48) || decide (w = 63)

/-- A time event (R297). -/
def eventOk (i : Nat) : Bool := decide (i < 16)

/-- The offset of a register: 24 bits, a multiple of 4 (R4). -/
def offsetOk (o : Nat) : Bool := decide (o < 2 ^ 24) && decide (o % 4 = 0)

/-- An address of the fabric (R16). -/
def addressOk (a : Nat) : Bool := decide (a < 2 ^ 40)

/-- Bytes at an address: at least one, and none past the end of the fabric's addresses (R18). -/
def burstOk (a : Nat) (d : List Byte) : Bool := decide (0 < d.length) && decide (a + d.length ≤ 2 ^ 40)

/-- A page of 4 KiB, named by its address over 4,096, with its bytes (R190, R224). -/
def pageOk (p : Nat) (d : List Byte) : Bool := decide (p < 2 ^ 28) && decide (d.length = 4096)

/-- A frame on a lane: format CC, FD or XL with an identifier of its width and data of at most its length (R240). -/
def BusFrame.wf (f : BusFrame) : Bool :=
  decide (f.fmt ≠ 3) && (f.xtd || decide (f.id.toNat < 2 ^ 11)) && !(f.xtd && f.fmt == 2) &&
  decide (f.data.length ≤ (if f.fmt = 0 then 8 else if f.fmt = 1 then 64 else 2048))

/-- A request of the host port: a write carries its bytes, a read a length (R439). -/
def HostReq.wf (q : HostReq) : Bool :=
  if q.write then decide (q.len = q.data.length) && decide (0 < q.data.length)
  else decide (q.data = []) && decide (0 < q.len)

/-- A held write (R225). -/
def StallReq.wf (q : StallReq) : Bool := burstOk q.addr q.data

/-- A POSITION record names one of the 48 tasks (R174). -/
def PosRec.wf (q : PosRec) : Bool := decide (q.tid < 48)

/-- An ACCEPT record names a lane (R173). -/
def AcceptRec.wf (q : AcceptRec) : Bool := laneOk q.lane

/-- A WRITE record names bytes and one of the 48 tasks (R182). -/
def WriteRec.wf (q : WriteRec) : Bool := burstOk q.addr q.data && decide (q.tid < 48)

/-- A COMMITS record names registers (R178). -/
def CommitsRec.wf (q : CommitsRec) : Bool := q.writes.all fun w => offsetOk w.1

/-- A reference message's cycle count fits its field, and its reported time 64 bits (R284). -/
def RefMsg.wf (q : RefMsg) : Bool := decide (q.cycle < 64) && decide (q.time < 2 ^ 64)

/-- An echo frame names a node of the node table (R287). -/
def EchoMsg.wf (q : EchoMsg) : Bool := decide (q.addr < 1024)

/-- The well-formed commands. -/
def Instr.wf : Instr → Bool
  | .powerOnReset _ => true
  | .porRelease => true
  | .rstBPulse _ => true
  | .sysResetDrst _ => true
  | .sysResetCdr _ => true
  | .clockLoss _ => true
  | .pfail => true
  | .dumpStart => true
  | .dumpSeal _ => true
  | .bleederConnect => true
  | .vinLow _ => true
  | .vinHigh _ => true
  | .optimeStore => true
  | .imageLoaded => true
  | .memoryInitDone => true
  | .restoreComplete _ => true
  | .endOfBoot => true
  | .arbitrationTimeout _ => true
  | .boltRetry _ => true
  | .boltInChange _ _ => true
  | .frameTick => true
  | .inputClose => true
  | .commitClose => true
  | .checkpointComplete => true
  | .applyInstant => true
  | .timedEdge ao ch => (if ao then aoOk ch else chOk ch)
  | .modeRequest _ _ => true
  | .frmCtrclr _ _ => true
  | .txnBegin _ _ => true
  | .txnCommit _ _ => true
  | .txnRollback _ _ => true
  | .stagedWrite _ off _ => offsetOk off
  | .registerWrite _ off _ => offsetOk off
  | .pairLowRead _ off => offsetOk off
  | .hostRequest q => q.wf
  | .nop _ => true
  | .endI _ => true
  | .brk _ => true
  | .notI _ => true
  | .push _ => true
  | .popand _ => true
  | .popor _ => true
  | .popxor _ => true
  | .ldt _ => true
  | .seg _ => true
  | .ret _ => true
  | .movla _ => true
  | .setla _ => true
  | .ld _ => true
  | .ldn _ => true
  | .andI _ => true
  | .andn _ => true
  | .orI _ => true
  | .orn _ => true
  | .xorI _ => true
  | .xorn _ => true
  | .st _ => true
  | .stn _ => true
  | .setI _ => true
  | .rst _ => true
  | .red _ => true
  | .fed _ => true
  | .ton _ => true
  | .tof _ => true
  | .tp _ => true
  | .ctu _ => true
  | .ctd _ => true
  | .crst _ => true
  | .ldb _ => true
  | .stb _ => true
  | .ldw _ => true
  | .stw _ => true
  | .bps _ => true
  | .bpc _ => true
  | .add _ => true
  | .sub _ => true
  | .mul _ => true
  | .mulh _ => true
  | .div _ => true
  | .rem _ => true
  | .iand _ => true
  | .ior _ => true
  | .ixor _ => true
  | .shl _ => true
  | .shr _ => true
  | .sar _ => true
  | .slt _ => true
  | .ext _ => true
  | .addi _ => true
  | .andi _ => true
  | .ori _ => true
  | .xori _ => true
  | .shli _ => true
  | .shri _ => true
  | .sari _ => true
  | .slti _ => true
  | .lix _ => true
  | .lixh _ => true
  | .lm8 _ => true
  | .lm8s _ => true
  | .lm16 _ => true
  | .lm16s _ => true
  | .lm32 _ => true
  | .lm32s _ => true
  | .lm64 _ => true
  | .sm8 _ => true
  | .sm16 _ => true
  | .sm32 _ => true
  | .sm64 _ => true
  | .beq _ => true
  | .bne _ => true
  | .blt _ => true
  | .bge _ => true
  | .bltu _ => true
  | .bgeu _ => true
  | .jmp _ => true
  | .call _ => true
  | .blat _ => true
  | .blaf _ => true
  | .jmpr _ => true
  | .callr _ => true
  | .rpti _ => true
  | .rptu _ => true
  | .fadd _ => true
  | .fsub _ => true
  | .fmul _ => true
  | .fdiv _ => true
  | .fsqrt _ => true
  | .fmin _ => true
  | .fmax _ => true
  | .fmadd _ => true
  | .feq _ => true
  | .flt _ => true
  | .fle _ => true
  | .fneg _ => true
  | .fabs _ => true
  | .fcvt _ => true
  | .emit _ => true
  | .unitw _ => true
  | .wchk _ => true
  | .evtrig _ => true
  | .pstw _ => true
  | .rdfn _ => true
  | .rdft _ => true
  | .runAhead _ => true
  | .specCtrclr _ _ => true
  | .knuckleVote _ => true
  | .tumblerMismatch _ _ _ => true
  | .lfrComplete _ => true
  | .rejoinLoadDone _ _ => true
  | .leafRestart _ _ => true
  | .leafQuarantine _ _ => true
  | .leafRelease _ _ => true
  | .leafCtrclr _ _ => true
  | .traplogRead _ => true
  | .cdrBegin => true
  | .cdrResume => true
  | .heartbeatSend => true
  | .heartbeat _ => true
  | .heartbeatLost _ => true
  | .unreachable => true
  | .handoverFail _ => true
  | .haspLaneDown _ => true
  | .haspLaneUp _ => true
  | .sample _ => true
  | .accept q => q.wf
  | .payload _ lane f => laneOk lane && f.wf
  | .triggerRecord kind index _ => decide (kind < 16) && decide (index < 4096)
  | .close _ _ => true
  | .position q => q.wf
  | .writeRecord q => q.wf
  | .commits q => q.wf
  | .ccRecord _ => true
  | .txdone lane _ => laneOk lane
  | .digest _ _ => true
  | .yieldRecord _ => true
  | .leaveRecord => true
  | .copyRecord page data => pageOk page data
  | .mirrorRecord addr data => burstOk addr data
  | .shadowClose => true
  | .copyPassEnd => true
  | .joinRestart => true
  | .autojoin => true
  | .join _ => true
  | .leave _ => true
  | .haspYield _ => true
  | .haspAssume _ _ => true
  | .haspCtrclr _ _ => true
  | .forceTableWrite _ addr data => burstOk addr data
  | .forceClear _ => true
  | .deltaWrite _ off _ => offsetOk off
  | .verify _ => true
  | .verifyAbandon _ => true
  | .verificationEnd => true
  | .patrolScrub addr => addressOk addr
  | .memInject _ _ => true
  | .memCtrclr _ _ => true
  | .pageCleaning page => decide (page < 2 ^ 28)
  | .dirtyStall q => q.wf
  | .holdupMeasure _ _ => true
  | .retCtrclr _ _ => true
  | .frameReception lane f => laneOk lane && f.wf
  | .windowOccurrence lane w => laneOk lane && windowOk w
  | .transmissionComplete lane => laneOk lane
  | .transmissionError lane _ => laneOk lane
  | .recovered lane => laneOk lane
  | .recover _ lane => laneOk lane
  | .integrationDone lane => laneOk lane
  | .laneCtrclr _ lane _ => laneOk lane
  | .referenceMessage lane _ => laneOk lane
  | .referenceReception lane q => laneOk lane && q.wf
  | .sourceLost => true
  | .echoReq lane q => laneOk lane && q.wf
  | .echoRsp lane q => laneOk lane && q.wf
  | .echoRes lane q => laneOk lane && q.wf
  | .echoFail lane => laneOk lane
  | .ppsOutputRise => true
  | .ppsOutputFall => true
  | .timeInEdge => true
  | .fieldRealign _ => true
  | .timeStep _ => true
  | .timeEvent i => eventOk i
  | .timeNowRead _ => true
  | .mapRead _ _ => true
  | .timeCtrclr _ _ => true
  | .rawTransition ch _ => chOk ch
  | .chatterWindowEnd ch => chOk ch
  | .filteredEdge ch => chOk ch
  | .stuckActive ch => chOk ch
  | .wireBreak ch => chOk ch
  | .wireBreakClear ch => chOk ch
  | .currentLimit ch _ => chOk ch
  | .bankOverload b _ => bankOk b
  | .thermalShutdown ch => chOk ch
  | .thermalCool ch => chOk ch
  | .tlatchClear _ ch => chOk ch
  | .rbMismatch ch => chOk ch
  | .lpLow b _ => bankOk b
  | .edgecntRead _ ch => chOk ch
  | .noCompliance ch => aoOk ch
  | .nocompClear ch => aoOk ch
  | .thermalFoldback ch _ => aoOk ch
  | .foldbackEnd ch => aoOk ch
  | .openLoop ch => aoOk ch
  | .openLoopClear ch => aoOk ch
  | .aoRbMismatch ch => aoOk ch
  | .groupSupply g => groupOk g
  | .groupResume g => groupOk g
  | .readbackRead _ ch => aoOk ch
  | .secondStep => true
  | .rtcHalt _ _ => true
  | .rtcRun _ _ => true
  | .rtcFormatWrite _ _ => true
  | .rtcClockWrite _ _ _ => true
  | .rtcSnap _ => true
  | .oscStop => true
  | .rtcTempSample _ => true
  | .rtcCorrection => true
  | .vbatCheck _ => true
  | .checkin _ _ => true
  | .periodExpiry => true
  | .prewarn => true
  | .wardKey _ _ => true
  | .wardDisable _ => true
  | .wardEnable _ => true
  | .wardTest _ => true
  | .wardNormal _ => true
  | .wardLock _ _ => true
  | .wardPeriodWrite _ _ => true
  | .wardCtrclr _ _ => true
  | .faultReport _ _ _ => true
  | .fltPop _ => true
  | .fltClear _ => true
  | .fltRelease _ _ => true
  | .headCodeRead _ => true
  | .blockProtectWrite _ _ => true
  | .page1Lock _ _ => true
  | .select _ _ => true
  | .sealRec _ _ => true
  | .recordCommandDone => true
  | .pstCtrclr _ _ => true
  | .evrTrig _ _ => true
  | .eventRecordWrite => true
  | .cursorWrite _ _ _ => true
  | .evrClear _ => true
  | .update _ => true
  | .updateEnd => true
  | .pnlCrc _ => true
  | .repaintStart => true
  | .repaintEnd => true
  | .hvenOff => true
  | .thermistorReading _ => true
  | .erase _ => true
  | .program _ => true
  | .flashCommandEnd _ => true
  | .doorbell _ _ => true
  | .signal _ _ => true
  | .hostResetRequest _ _ => true
  | .windowBBaseWrite _ _ => true
  | .linkDown => true
  | .portReset _ => true
  | .idcode => true
  | .samplePreload => true
  | .extest => true
  | .clamp => true
  | .highz => true
  | .dbgacc => true
  | .bypass => true
  | .dbgaccUpdate _ => true
  | .dbgHalt _ => true
  | .dbgResume _ => true
  | .dbgStep _ => true
  | .lidHot _ => true
  | .lidTempReading _ => true
  | .linkUp _ _ => true
  | .lpLowClear b _ => bankOk b
  | .rbmisClear ch => chOk ch
  | .overloadClear b _ => bankOk b
  | .limitingEpisodeEnd ch => chOk ch
  | .aoRbmisClear ch => aoOk ch
  | .windowClose lane w => laneOk lane && windowOk w
  | .receptionError lane _ => laneOk lane
  | .payloadRequest _ lane _ => laneOk lane
  | .digestTimeout _ => true
  | .testLogicReset => true

end Sys2Proof
end

