-- ==== Sys2Proof/Certificates/Slice0/Obligations.lean ====
section
/-! DEFINITION. The statements. Each docstring names the rules that its statement formalises, and the log entry where a clause is the
model's choice. -/

open Sys2Proof Sys2Proof.Machine

/-- A step on a queue with a command at its front is that command's effect on the state with the queue's rest. -/
def Obligations.StepRunsFront : Prop :=
  ∀ (c : Instr) (q : List Instr) (s : State), s.pending = c :: q → step s = exec c { s with pending := q }

/-- With no command waiting a step lets one period of the fabric clock pass, and does nothing else that a command could see (the
model's choice, DESIGN CHOICE). Its clauses rest on the model's own choices and readings in log entry 1, beside the rules. -/
def Obligations.EmptyQueueTicks : Prop :=
  ∀ s : State, s.pending = [] → Settled s →
    (alive s = false → step s = .next s) ∧
    (alive s = true → Ends (step s) fun u => u.raw = s.raw + 1 ∧ u.pending = [] ∧ SameMemory s u ∧ u.frm = s.frm ∧ u.flt = s.flt ∧
      u.pads = s.pads)

/-- R28, R29, R33, R434: what a power-on reset leaves: the reset value of every register, nothing in memory but page 0 of the
parameter store as manufactured (whose bytes 0x00 to 0x1F mirror the identity block, R13), no instance and no staged write, the
mode STOP, and the bolt and every output enable released. Its clauses rest on the model's own choices and readings in log
entries 2, 6, 7, 8, 145, beside the rules. -/
def Obligations.ResetLeaves : Prop :=
  let s := State.reset
  regNat s Reg.SYS_RSTCAUSE = 0x701 ∧ regNat s Reg.FRM_CFG = 0x10 ∧ regNat s Reg.FRM_SLACKMIN = 0xFFFFF ∧
  (∀ n, n < 32 → regNat s (Reg.FRM_TASKCFG n) = 0x1F000400) ∧ regNat s Reg.HASP_CFG = 0x100 ∧ regNat s Reg.WARD_PERIOD = 1000000 ∧
  pair s Reg.EVR_NEXT_LO = 1 ∧ pair s Reg.EVR_OLDEST_LO = 1 ∧
  (∀ a, a < 0xC_0000_0000 ∨ 0xC_0000_0100 ≤ a → memByte s a = 0) ∧ (∀ a, memByte s a = memDefault a) ∧
  memBytes s 0xC_0000_0000 0x20 = identBlock ∧ s.frm.insts = [] ∧ s.pending = [] ∧ s.flt.queue = [] ∧ curMode s = modeStop ∧
  s.pads.boltOut = false ∧ enabled s = false ∧ s.pads.pfailB = false ∧ s.boot.por = true ∧ s.raw = 0 ∧
  (∀ n, n < 4 → slotState s n = 0 ∧ stagedOf s n = []) ∧ Settled s ∧ Canonical s

/-- R30: every command goes on in a next state, with no fault left waiting, but the pulse on RST_B whose effect R30 leaves
undefined, which stops. Its clauses rest on the model's own choices and readings in log entries 5, 12, 130, beside the
rules. R378: after every command FLT has taken every fault that had arrived. -/
def Obligations.CommandsGoOn : Prop :=
  (∀ (i : Instr) (s : State), Settled s →
     (∃ t, exec i s = .next t ∧ Settled t) ∨
       ∃ ns, i = .rstBPulse ns ∧ 200 ≤ ns ∧ ns < 1000 ∧ exec i s = .fault .rstPulseUndefined) ∧
  (∀ s t : State, Settled s → step s = .next t → Settled t)

/-- R95, R96, R99: the words that the encoder gives an instruction, standing in the code region at the PC, are fetched and
decoded as that instruction: no field is dropped. -/
def Obligations.WordsDecodeAsInstructions : Prop :=
  ∀ (i : Instr) (ws : List Nat) (s : State) (t : Nat) (j : Inst), instrWords i = some ws → Executes s t j →
    (∀ k, k < ws.length → codeWord s (j.ctx.pc + k) = ws.getD k 0) → perform codeAct s = exec i s

/-- R97, R99: words of the opcode table, as the formats spell them: the branch that R97 spells out three words forward and five
back, and one word of every other format; a word of zeros and a word of ones belong to no row. -/
def Obligations.SpelledWords : Prop :=
  instrWords (.blt ⟨5, 6, 3⟩) = some [0x72298003] ∧ instrWords (.blt ⟨5, 6, 0x3FFB⟩) = some [0x7229BFFB] ∧
  instrWords (.notI {}) = some [0x04000000] ∧ instrWords (.st ⟨1, 2, 5⟩) = some [0x18280005] ∧
  instrWords (.mulh ⟨3, 4, 5, 1⟩) = some [0x43190A01] ∧ instrWords (.addi ⟨1, 2, 0x3FFF⟩) = some [0x5008BFFF] ∧
  instrWords (.jmp ⟨0x123456⟩) = some [0x78123456] ∧
  instrWords (.ldw ⟨7, 8, 0, 0, true, true, false, 6, 9⟩) = some [0x323A0000, 0x00D80009] ∧
  instrWords (.lix ⟨31, 0, 0xDEADBEEF⟩) = some [0x58F80000, 0xDEADBEEF] ∧ (codeRow 0).isNone = true ∧ (codeRow 0xFFFFFFFF).isNone = true

/-- R96, R97: a non-zero value in a field that an instruction does not use, and a FN that its opcode does not list, trap with
ILLEGAL. R95, R109: an instruction of two words at index 16,777,215 traps with CODE_RANGE, since its extension word lies
beyond the code region. Its clauses rest on the model's own choices and readings in log entries 26 and 27, beside the rules.
-/
def Obligations.UnusedFieldsTrap : Prop :=
  ∀ (s : State) (t : Nat) (j : Inst) (n : NF) (p : PF) (r : RF) (i : IF) (x : PXF) (l : LXF), Executes s t j →
    let illegal (c : Instr) : Prop := exec c s = trapped s t j 0x80
    (n.z ≠ 0 → ∀ g ∈ [Instr.nop, .endI, .brk, .notI, .push, .popand, .popor, .popxor, .ldt, .seg, .ret], illegal (g n)) ∧
    (1 < p.mod.toNat → ∀ g ∈ [Instr.ton, .tof, .tp, .ctu, .ctd], illegal (g p)) ∧ (3 < p.mod.toNat → illegal (.crst p)) ∧
    (r.ra ≠ 0 ∨ r.rb ≠ 0 ∨ r.fn ≠ 0 → ∀ g ∈ [Instr.movla, .rdfn, .rdft], illegal (g r)) ∧
    (r.rd ≠ 0 ∨ r.rb ≠ 0 ∨ r.fn ≠ 0 → ∀ g ∈ [Instr.setla, .jmpr, .callr, .emit], illegal (g r)) ∧
    (r.fn ≠ 0 → ∀ g ∈ [Instr.add, .sub, .mul, .iand, .ior, .ixor, .shl, .shr, .sar], illegal (g r)) ∧
    (1 < r.fn.toNat → ∀ g ∈ [Instr.mulh, .div, .rem, .slt, .fadd, .fsub, .fmul, .fdiv, .fmin, .fmax, .fmadd, .feq, .flt, .fle],
      illegal (g r)) ∧
    (r.rb ≠ 0 ∨ 1 < r.fn.toNat → ∀ g ∈ [Instr.fsqrt, .fneg, .fabs], illegal (g r)) ∧
    (r.rb ≠ 0 ∨ 5 < r.fn.toNat → illegal (.fcvt r)) ∧
    (r.rb ≠ 0 ∨ r.fn.toNat % 4 = 3 ∨ 7 < r.fn.toNat → illegal (.ext r)) ∧
    (r.rd ≠ 0 ∨ r.fn ≠ 0 → illegal (.unitw r)) ∧ (r.rd ≠ 0 ∨ 3 < r.fn.toNat → illegal (.pstw r)) ∧
    (63 < i.imm.toNat → ∀ g ∈ [Instr.shli, .shri, .sari], illegal (g i)) ∧
    (i.rd ≠ 0 ∨ i.ra ≠ 0 ∧ i.imm ≠ 0 → illegal (.rpti i) ∧ illegal (.rptu i)) ∧
    (i.rd ≠ 0 ∨ 31 < i.imm.toNat → illegal (.wchk i) ∧ illegal (.evtrig i)) ∧ (i.ra ≠ 0 → illegal (.evtrig i)) ∧
    (j.ctx.pc = 2 ^ 24 - 1 → ∀ c ∈ [Instr.ldb x, .stb x, .ldw x, .stw x, .bps x, .bpc x, .lix l, .lixh l],
      exec c s = trapped s t j 0x8C) ∧
    (j.ctx.pc + 1 < 2 ^ 24 →
      (l.low ≠ 0 → illegal (.lix l) ∧ illegal (.lixh l)) ∧
      (x.top ≠ 0 ∨ (x.indexed = false ∧ x.rb ≠ 0) → ∀ g ∈ [Instr.ldb, .stb, .ldw, .stw, .bps, .bpc], illegal (g x)) ∧
      (x.sgn = true → ∀ g ∈ [Instr.ldb, .stb, .stw, .bps, .bpc], illegal (g x)) ∧
      (x.off ≠ 0 → ∀ g ∈ [Instr.ldb, .stb, .ldw, .stw], illegal (g x)) ∧ (x.rd ≠ 0 → illegal (.bps x) ∧ illegal (.bpc x)))

/-- R99, R105: what the register forms of integer arithmetic, logic, shifts, comparisons and EXT leave in RD; nothing but RD and
the PC changes, and a destination X0 discards the result (R87). R105: DIV and REM truncate towards zero, the remainder
taking the dividend's sign; a zero divisor traps with DIVZERO. -/
def Obligations.IntegerResult : Prop :=
  (∀ (s : State) (t : Nat) (i : Inst) (rd ra rb : BitVec 5), Executes s t i →
     let c := i.ctx
     let a := getX c ra
     let b := getX c rb
     let r (v : DWord) : Out := .next (stepped s t i (advance 1 (setX c rd v)))
     exec (.add ⟨rd, ra, rb, 0⟩) s = r (BitVec.ofNat 64 (a.toNat + b.toNat)) ∧
     exec (.sub ⟨rd, ra, rb, 0⟩) s = r (BitVec.ofInt 64 (a.toInt - b.toInt)) ∧
     exec (.mul ⟨rd, ra, rb, 0⟩) s = r (BitVec.ofNat 64 (a.toNat * b.toNat)) ∧
     exec (.mulh ⟨rd, ra, rb, 0⟩) s = r (BitVec.ofInt 64 (a.toInt * b.toInt / 2 ^ 64)) ∧
     exec (.mulh ⟨rd, ra, rb, 1⟩) s = r (BitVec.ofNat 64 (a.toNat * b.toNat / 2 ^ 64)) ∧
     exec (.iand ⟨rd, ra, rb, 0⟩) s = r (a &&& b) ∧
     exec (.ior ⟨rd, ra, rb, 0⟩) s = r (a ||| b) ∧
     exec (.ixor ⟨rd, ra, rb, 0⟩) s = r (a ^^^ b) ∧
     exec (.shl ⟨rd, ra, rb, 0⟩) s = r (a <<< (b.toNat % 64)) ∧
     exec (.shr ⟨rd, ra, rb, 0⟩) s = r (a >>> (b.toNat % 64)) ∧
     exec (.sar ⟨rd, ra, rb, 0⟩) s = r (a.sshiftRight (b.toNat % 64)) ∧
     exec (.slt ⟨rd, ra, rb, 0⟩) s = r (if a.toInt < b.toInt then 1 else 0) ∧
     exec (.slt ⟨rd, ra, rb, 1⟩) s = r (if a.toNat < b.toNat then 1 else 0) ∧
     exec (.ext ⟨rd, ra, 0, 0⟩) s = r ((a.truncate 8).zeroExtend 64) ∧
     exec (.ext ⟨rd, ra, 0, 1⟩) s = r ((a.truncate 16).zeroExtend 64) ∧
     exec (.ext ⟨rd, ra, 0, 2⟩) s = r ((a.truncate 32).zeroExtend 64) ∧
     exec (.ext ⟨rd, ra, 0, 4⟩) s = r ((a.truncate 8).signExtend 64) ∧
     exec (.ext ⟨rd, ra, 0, 5⟩) s = r ((a.truncate 16).signExtend 64) ∧
     exec (.ext ⟨rd, ra, 0, 6⟩) s = r ((a.truncate 32).signExtend 64)) ∧
  (∀ (s : State) (t : Nat) (i : Inst) (rd ra rb : BitVec 5), Executes s t i →
     let c := i.ctx
     let a := getX c ra
     let b := getX c rb
     let r (v : DWord) : Out := .next (stepped s t i (advance 1 (setX c rd v)))
     (b ≠ 0 →
       exec (.div ⟨rd, ra, rb, 0⟩) s = r (BitVec.ofInt 64 (a.toInt.tdiv b.toInt)) ∧
       exec (.div ⟨rd, ra, rb, 1⟩) s = r (BitVec.ofNat 64 (a.toNat / b.toNat)) ∧
       exec (.rem ⟨rd, ra, rb, 0⟩) s = r (BitVec.ofInt 64 (a.toInt.tmod b.toInt)) ∧
       exec (.rem ⟨rd, ra, rb, 1⟩) s = r (BitVec.ofNat 64 (a.toNat % b.toNat))) ∧
     (b = 0 → ∀ fn : BitVec 9, fn.toNat ≤ 1 →
       exec (.div ⟨rd, ra, rb, fn⟩) s = trapped s t i 0x88 ∧
       exec (.rem ⟨rd, ra, rb, fn⟩) s = trapped s t i 0x88))

/-- R96, R99: the immediate forms. IMM is signed but for the shifts, where IMM[13:6] is 0. -/
def Obligations.ImmediateResult : Prop :=
  ∀ (s : State) (t : Nat) (i : Inst) (rd ra : BitVec 5) (imm : BitVec 14) (w : BitVec 32), Executes s t i →
    let c := i.ctx
    let a := getX c ra
    let b : DWord := BitVec.ofInt 64 imm.toInt
    let r (v : DWord) : Out := .next (stepped s t i (advance 1 (setX c rd v)))
    exec (.addi ⟨rd, ra, imm⟩) s = r (a + b) ∧
    exec (.andi ⟨rd, ra, imm⟩) s = r (a &&& b) ∧
    exec (.ori ⟨rd, ra, imm⟩) s = r (a ||| b) ∧
    exec (.xori ⟨rd, ra, imm⟩) s = r (a ^^^ b) ∧
    exec (.slti ⟨rd, ra, imm⟩) s = r (if a.toInt < imm.toInt then 1 else 0) ∧
    (imm.toNat < 64 →
      exec (.shli ⟨rd, ra, imm⟩) s = r (a <<< imm.toNat) ∧
      exec (.shri ⟨rd, ra, imm⟩) s = r (a >>> imm.toNat) ∧
      exec (.sari ⟨rd, ra, imm⟩) s = r (a.sshiftRight imm.toNat)) ∧
    (c.pc + 1 < 2 ^ 24 →
      exec (.lix ⟨rd, 0, w⟩) s = .next (stepped s t i (advance 2 (setX c rd (BitVec.ofInt 64 w.toInt)))) ∧
      exec (.lixh ⟨rd, 0, w⟩) s =
        .next (stepped s t i (advance 2 (setX c rd (BitVec.ofNat 64 (w.toNat * 2 ^ 32 + (getX c rd).toNat % 2 ^ 32))))))

/-- R89, R99: the instructions of the logic accumulator and the logic stack; a push onto 16 entries traps with LS_OVER, and a
pop of an empty stack with LS_UNDER. R111: RDFN and RDFT return the number and the tick's device time of the release frame,
and NOP has no effect. -/
def Obligations.AccumulatorResult : Prop :=
  (∀ (s : State) (t : Nat) (i : Inst) (rd ra : BitVec 5), Executes s t i →
     let c := i.ctx
     let r (d : Ctx) : Out := .next (stepped s t i (advance 1 d))
     let traps (k : Nat) : Out := trapped s t i k
     exec (.nop {}) s = r c ∧
     exec (.notI {}) s = r { c with la := !c.la } ∧
     exec (.ldt {}) s = r { c with la := true } ∧
     exec (.movla ⟨rd, 0, 0, 0⟩) s = r (setX c rd (if c.la then 1 else 0)) ∧
     exec (.setla ⟨0, ra, 0, 0⟩) s = r { c with la := decide (getX c ra ≠ 0) } ∧
     (c.ls.length < 16 → exec (.push {}) s = r { c with ls := c.la :: c.ls }) ∧
     (16 ≤ c.ls.length → exec (.push {}) s = traps 0x84) ∧
     (∀ b l, c.ls = b :: l →
       exec (.popand {}) s = r { c with ls := l, la := c.la && b } ∧
       exec (.popor {}) s = r { c with ls := l, la := c.la || b } ∧
       exec (.popxor {}) s = r { c with ls := l, la := c.la != b }) ∧
     (c.ls = [] → exec (.popand {}) s = traps 0x85 ∧ exec (.popor {}) s = traps 0x85 ∧ exec (.popxor {}) s = traps 0x85)) ∧
  (∀ (s : State) (t : Nat) (i : Inst) (rd : BitVec 5), Executes s t i →
     let c := i.ctx
     exec (.rdfn ⟨rd, 0, 0, 0⟩) s = completed s t i (advance 1 (setX c rd (BitVec.ofNat 64 c.relFrame))) ∧
     exec (.rdft ⟨rd, 0, 0, 0⟩) s = completed s t i (advance 1 (setX c rd (BitVec.ofNat 64 i.relT0))) ∧
     exec (.nop {}) s = completed s t i (advance 1 c))

/-- R100: the reads of a bit point into the logic accumulator, in each of the three bit classes. R69, R70: what an instance
reads of a point: IX and IW from the input image of its release frame, QX and QW from its own buffer and else from the image
committed before its IC, MX and MW from memory, whose word is good. -/
def Obligations.PointReads : Prop :=
  (∀ (s : State) (t : Nat) (i : Inst) (f : PF) (k : Nat) (w : Word), Executes s t i → f.mod.toNat ≤ 1 →
     pointKey isBitCls false 1 1 f.cls.toNat f.idx.toNat 0 (f.mod.getLsbD 0) i.ctx = .ok k → pointRead t k s = (some w, s) →
     let c := i.ctx
     let p := w.getLsbD 0
     let r (b : Bool) : Out := .next (stepped s t i (advance 1 { c with la := b }))
     exec (.ld f) s = r p ∧ exec (.ldn f) s = r (!p) ∧
     exec (.andI f) s = r (c.la && p) ∧ exec (.andn f) s = r (c.la && !p) ∧
     exec (.orI f) s = r (c.la || p) ∧ exec (.orn f) s = r (c.la || !p) ∧
     exec (.xorI f) s = r (c.la != p) ∧ exec (.xorn f) s = r (c.la != !p)) ∧
  (∀ (s : State) (t : Nat) (i : Inst) (k : Nat), getInst s t = some i →
     ((pcls k = 0 ∨ pcls k = 4) → pointRead t k s = (some (imgGet i.img k), s)) ∧
     ((pcls k = 1 ∨ pcls k = 5) → ∀ v, alGet i.qw k = some v → pointRead t k s = (some v, s)) ∧
     ((pcls k = 1 ∨ pcls k = 5) → alGet i.qw k = none → pointRead t k s = (some (imgGet i.outImg k), s)) ∧
     ((pcls k = 2 ∨ pcls k = 6) → eccAt s (pointAddr k) = .good → pointRead t k s = (some (windowPoint s k), s)))

/-- R92, R93, R94, R97: what stops an instruction on a point: a field that must be 0, a class of the wrong kind, an index
outside 0 to 262,143, and a write of an input point, the lowest cause first. R106: the checks of a load or a store, in their
order. -/
def Obligations.AccessTraps : Prop :=
  (∀ (s : State) (t : Nat) (i : Inst) (f : PF), Executes s t i →
     let c := i.ctx
     let n := pointP f 1 c
     let reads : List (PF → Instr) := [.ld, .ldn, .andI, .andn, .orI, .orn, .xorI, .xorn]
     let writes : List (PF → Instr) := [.st, .stn, .setI, .rst, .red, .fed]
     (∀ g ∈ reads ++ writes, 1 < f.mod.toNat → exec (g f) s = trapped s t i 0x80) ∧
     (f.mod.toNat ≤ 1 → ∀ g ∈ reads ++ writes,
       (2 < f.cls.toNat → exec (g f) s = trapped s t i 0x81) ∧
       (f.cls.toNat ≤ 2 → 2 ^ 18 ≤ n → exec (g f) s = trapped s t i 0x82)) ∧
     (f.mod.toNat ≤ 1 → f.cls = 0 → n < 2 ^ 18 → ∀ g ∈ writes, exec (g f) s = trapped s t i 0x83)) ∧
  (∀ (s : State) (t : Nat) (i : Inst) (f : IF), Executes s t i →
     let a := (getX i.ctx f.ra + BitVec.ofInt 64 f.imm.toInt).toNat
     let loads : List (IF → Instr) := [.lm8, .lm8s, .lm16, .lm16s, .lm32, .lm32s, .lm64]
     let stores : List (IF → Instr) := [.sm8, .sm16, .sm32, .sm64]
     let image := 2 ^ 34 ≤ a ∧ a < 2 ^ 34 + 2 ^ 26
     (2 ^ 40 ≤ a → ∀ g ∈ loads ++ stores, exec (g f) s = trapped s t i 0x89) ∧
     (image → ∀ g ∈ loads ++ stores, exec (g f) s = trapped s t i 0x8A) ∧
     (2 ^ 33 ≤ a → a < 2 ^ 40 → ¬ image →
       (∀ g ∈ stores, exec (g f) s = trapped s t i 0x8B) ∧
       (i.ctx.rep ≠ none → ∀ g ∈ loads, exec (g f) s = trapped s t i 0x8D)))

/-- R71, R100: ST, STN, SET and RST write a bit point: QX in the instance's buffer, and MX in memory at once, whose other bits
stay as they were; SET and RST with LA = 0 write nothing. R100: SET and RST with LA = 0 write nothing. R101: RED and FED on
an edge memory in MX: the edge goes to LA, and the memory bit takes the old LA. -/
def Obligations.BitWrites : Prop :=
  (∀ (s : State) (t : Nat) (i : Inst) (f : PF) (b : Bool) (g : PF → Instr), Executes s t i → f.mod.toNat ≤ 1 →
     pointP f 1 i.ctx < 2 ^ 18 →
     (g = .st ∧ b = i.ctx.la ∨ g = .stn ∧ b = !i.ctx.la ∨ g = .setI ∧ b = true ∧ i.ctx.la = true ∨
       g = .rst ∧ b = false ∧ i.ctx.la = true) →
     let c := i.ctx
     let k := pkey f.cls.toNat (pointP f 1 c)
     (f.cls = 1 → ∃ u q, exec (g f) s = .next u ∧ Beside (stepped s t { i with qw := q } (advance 1 c)) u ∧ SameMemory s u ∧
       ∀ k', alGet q k' = if k' = k then some (if b then 1 else 0) else alGet i.qw k') ∧
     (f.cls = 2 → Storable s (pointAddr k) → ∃ u v, exec (g f) s = .next u ∧ Wrote s u t i (advance 1 c) (pointAddr k) [v] ∧
       ∀ j, j < 8 → v.getLsbD j = if j = pointP f 1 c % 8 then b else (memByte s (pointAddr k)).getLsbD j)) ∧
  (∀ (s : State) (t : Nat) (i : Inst) (f : PF), Executes s t i → f.mod.toNat ≤ 1 → pointP f 1 i.ctx < 2 ^ 18 →
     (f.cls = 1 ∨ f.cls = 2) → i.ctx.la = false →
     exec (.setI f) s = completed s t i (advance 1 i.ctx) ∧ exec (.rst f) s = completed s t i (advance 1 i.ctx)) ∧
  (∀ (s : State) (t : Nat) (i : Inst) (f : PF), Executes s t i → f.mod.toNat ≤ 1 → pointP f 1 i.ctx < 2 ^ 18 → f.cls = 2 →
     let c := i.ctx
     let n := pointP f 1 c
     let a := pointAddr (pkey 2 n)
     let p := (memByte s a).getLsbD (n % 8)
     Storable s a → ∃ u w v,
       exec (.red f) s = .next u ∧ Wrote s u t i (advance 1 { c with la := c.la && !p }) a [v] ∧
       exec (.fed f) s = .next w ∧ Wrote s w t i (advance 1 { c with la := !c.la && p }) a [v] ∧
       ∀ j, j < 8 → v.getLsbD j = if j = n % 8 then c.la else (memByte s a).getLsbD j)

/-- R102: the evaluation of a timer block. R103: counting up, counting down, and the reset and the load of a counter block. -/
def Obligations.BlockResult : Prop :=
  (∀ (s : State) (t : Nat) (i : Inst) (f : PF), Executes s t i → f.mod.toNat ≤ 1 → f.cls = 6 → pointP f 4 i.ctx + 4 ≤ 2 ^ 18 →
     let c := i.ctx
     let a := pointAddr (pkey 6 (pointP f 4 c))
     let pt := memNat s a 4
     let et := memNat s (a + 4) 4
     let q := i.relT0 / 62500
     let up := min pt (et + (q + (2 ^ 32 - memNat s (a + 8) 4)) % 2 ^ 32)
     let prev := (memByte s (a + 12)).getLsbD 0
     let was := (memByte s (a + 12)).getLsbD 1
     let leaves (g : PF → Instr) (e : Nat) (o : Bool) : Prop := ∃ u, exec (g f) s = .next u ∧
       Wrote s u t i (advance 1 { c with la := o }) (a + 4)
         (leBytes 4 e ++ leBytes 4 q ++ leBytes 4 ((if c.la then 1 else 0) + (if o then 2 else 0)))
     StorableAll s a 16 →
       (c.la = false → leaves .ton 0 false) ∧
       (c.la = true → prev = false → leaves .ton 0 (pt = 0)) ∧
       (c.la = true → prev = true → leaves .ton up (pt ≤ up)) ∧
       (c.la = true → leaves .tof 0 true) ∧
       (c.la = false → was = true → prev = true → leaves .tof 0 (0 < pt)) ∧
       (c.la = false → was = true → prev = false → leaves .tof up (up < pt)) ∧
       (c.la = false → was = false → leaves .tof et false) ∧
       (was = false → c.la = true → prev = false → leaves .tp 0 (0 < pt)) ∧
       (was = true → leaves .tp up (up < pt)) ∧
       (was = false → c.la = false → leaves .tp 0 false) ∧
       (was = false → c.la = true → prev = true → leaves .tp et false)) ∧
  (∀ (s : State) (t : Nat) (i : Inst) (f : PF), Executes s t i → f.cls = 6 → pointP f 3 i.ctx + 3 ≤ 2 ^ 18 →
     let c := i.ctx
     let a := pointAddr (pkey 6 (pointP f 3 c))
     let pv := BitVec.ofNat 32 (memNat s a 4)
     let cv := BitVec.ofNat 32 (memNat s (a + 4) 4)
     let edge := c.la && !(memByte s (a + 8)).getLsbD 0
     let counts (g : PF → Instr) (v : Word) (o : Bool) : Prop := ∃ u, exec (g f) s = .next u ∧
       Wrote s u t i (advance 1 { c with la := o }) (a + 4) (leBytes 4 v.toNat ++ leBytes 4 (if c.la then 1 else 0))
     let loads (v : Word) : Prop := ∃ u, exec (.crst f) s = .next u ∧ Wrote s u t i (advance 1 c) (a + 4) (leBytes 4 v.toNat)
     StorableAll s a 12 →
       (f.mod.toNat ≤ 1 → edge = true → cv.toInt < 2 ^ 31 - 1 → counts .ctu (cv + 1) (pv.toInt ≤ cv.toInt + 1)) ∧
       (f.mod.toNat ≤ 1 → edge = true → cv.toInt = 2 ^ 31 - 1 → counts .ctu cv true) ∧
       (f.mod.toNat ≤ 1 → edge = false → counts .ctu cv (pv.toInt ≤ cv.toInt)) ∧
       (f.mod.toNat ≤ 1 → edge = true → -2 ^ 31 < cv.toInt → counts .ctd (cv - 1) (cv.toInt ≤ 1)) ∧
       (f.mod.toNat ≤ 1 → edge = true → cv.toInt = -2 ^ 31 → counts .ctd cv true) ∧
       (f.mod.toNat ≤ 1 → edge = false → counts .ctd cv (cv.toInt ≤ 0)) ∧
       (c.la = true → (f.mod = 0 ∨ f.mod = 1) → loads 0) ∧
       (c.la = true → (f.mod = 2 ∨ f.mod = 3) → loads pv) ∧
       (c.la = false → f.mod.toNat ≤ 3 → exec (.crst f) s = completed s t i (advance 1 c)))

/-- R104, R109: LDB, LDW, BPS and BPC read a point through a PX operand. R71, R104: STB and STW write a point through a PX
operand: QX and QW in the instance's buffer, MX and MW in memory. -/
def Obligations.PointTransfers : Prop :=
  (∀ (s : State) (t : Nat) (i : Inst) (f : PXF) (n : Nat) (w : Word), Executes s t i → i.ctx.pc + 1 < 2 ^ 24 → plainPX f →
     pointPX f i.ctx = n → n < 2 ^ 18 → pointRead t (pkey f.cls.toNat n) s = (some w, s) →
     let c := i.ctx
     (f.cls.toNat ≤ 2 → f.off = 0 → f.sgn = false →
       exec (.ldb f) s = completed s t i (advance 2 (setX c f.rd (if w.getLsbD 0 then 1 else 0)))) ∧
     (4 ≤ f.cls.toNat → f.cls.toNat ≤ 6 → f.off = 0 →
       exec (.ldw f) s = completed s t i (advance 2 (setX c f.rd (BitVec.ofInt 64 (if f.sgn then w.toInt else w.toNat))))) ∧
     (f.cls.toNat ≤ 2 → f.rd = 0 → f.sgn = false → ∀ (g : PXF → Instr) (b : Bool), (g = .bps ∧ b = true ∨ g = .bpc ∧ b = false) →
       let dest := (c.pc : Int) + f.off.toInt
       (w.getLsbD 0 = !b → exec (g f) s = completed s t i (advance 2 c)) ∧
       (w.getLsbD 0 = b → 0 ≤ dest → dest < 2 ^ 24 → exec (g f) s = completed s t i { c with pc := dest.toNat }) ∧
       (w.getLsbD 0 = b → dest < 0 ∨ 2 ^ 24 ≤ dest → exec (g f) s = trapped s t i 0x8C))) ∧
  (∀ (s : State) (t : Nat) (i : Inst) (f : PXF) (n : Nat), Executes s t i → i.ctx.pc + 1 < 2 ^ 24 → plainPX f → f.off = 0 →
     f.sgn = false → pointPX f i.ctx = n → n < 2 ^ 18 →
     let c := i.ctx
     let k := pkey f.cls.toNat n
     let x := getX c f.rd
     (f.cls = 1 ∨ f.cls = 5 → ∃ u q, exec (if f.cls = 1 then .stb f else .stw f) s = .next u ∧
       Beside (stepped s t { i with qw := q } (advance 2 c)) u ∧ SameMemory s u ∧
       ∀ k', alGet q k' = if k' = k then some (BitVec.ofNat 32 (if f.cls = 1 then x.toNat % 2 else x.toNat)) else alGet i.qw k') ∧
     (f.cls = 6 → Storable s (pointAddr k) → ∃ u, exec (.stw f) s = .next u ∧
       Wrote s u t i (advance 2 c) (pointAddr k) (leBytes 4 x.toNat)) ∧
     (f.cls = 2 → Storable s (pointAddr k) → ∃ u v, exec (.stb f) s = .next u ∧ Wrote s u t i (advance 2 c) (pointAddr k) [v] ∧
       ∀ j, j < 8 → v.getLsbD j = if j = n % 8 then x.getLsbD 0 else (memByte s (pointAddr k)).getLsbD j))

/-- R106: a load from working memory: the bytes at X[RA] + IMM, zero- or sign-extended. R106: a store to working memory: the low
bytes of X[RD] at X[RA] + IMM, and no other byte. R106: a load outside working memory and the image window is a device load,
made once; an access that completes with an error response traps with ACCESS, and its notice is raised as well. -/
def Obligations.MemoryTransfers : Prop :=
  (∀ (s : State) (t : Nat) (i : Inst) (f : IF), Executes s t i →
     let c := i.ctx
     let a := (getX c f.ra + BitVec.ofInt 64 f.imm.toInt).toNat
     let r (v : DWord) : Out := completed s t i (advance 1 (setX c f.rd v))
     a < 2 ^ 33 → eccAt s a = .good →
       exec (.lm8 f) s = r (BitVec.ofNat 64 (seenNat s a 1)) ∧
       exec (.lm8s f) s = r (BitVec.ofInt 64 (BitVec.ofNat 8 (seenNat s a 1)).toInt) ∧
       (a % 2 = 0 → exec (.lm16 f) s = r (BitVec.ofNat 64 (seenNat s a 2)) ∧
         exec (.lm16s f) s = r (BitVec.ofInt 64 (BitVec.ofNat 16 (seenNat s a 2)).toInt)) ∧
       (a % 4 = 0 → exec (.lm32 f) s = r (BitVec.ofNat 64 (seenNat s a 4)) ∧
         exec (.lm32s f) s = r (BitVec.ofInt 64 (BitVec.ofNat 32 (seenNat s a 4)).toInt)) ∧
       (a % 8 = 0 → exec (.lm64 f) s = r (BitVec.ofNat 64 (seenNat s a 8)))) ∧
  (∀ (s : State) (t : Nat) (i : Inst) (f : IF), Executes s t i →
     let c := i.ctx
     let a := (getX c f.ra + BitVec.ofInt 64 f.imm.toInt).toNat
     let stores (g : IF → Instr) (n : Nat) : Prop := ∃ u, exec (g f) s = .next u ∧
       Wrote s u t i (advance 1 c) a (leBytes n (getX c f.rd).toNat)
     a < 2 ^ 33 → Storable s a →
       stores .sm8 1 ∧ (a % 2 = 0 → stores .sm16 2) ∧ (a % 4 = 0 → stores .sm32 4) ∧ (a % 8 = 0 → stores .sm64 8)) ∧
  (∀ (s : State) (t : Nat) (i : Inst) (f : IF), Executes s t i →
     let c := i.ctx
     let a := (getX c f.ra + BitVec.ofInt 64 f.imm.toInt).toNat
     (2 ^ 33 ≤ a → a < 2 ^ 40 → ¬ (2 ^ 34 ≤ a ∧ a < 2 ^ 34 + 2 ^ 26) → c.rep = none →
       ∀ p ∈ [(Instr.lm8, 1), (.lm16, 2), (.lm32, 4), (.lm64, 8)], ∀ v, busRead .m0 a p.2 s = (some v, s) →
         exec (p.1 f) s = completed s t i (advance 1 (setX c f.rd (BitVec.ofNat 64 v)))) ∧
     (a < 2 ^ 33 → ∀ p ∈ [(Instr.lm16, 2), (.lm16s, 2), (.lm32, 4), (.lm32s, 4), (.lm64, 8), (.sm16, 2), (.sm32, 4), (.sm64, 8)],
       a % p.2 ≠ 0 → exec (p.1 f) s = .next (settleFaults (followPos (takeTrap t 0x89 i (raiseBy .m0 0x07FF 0 s))))))

/-- R109: a branch that is taken goes on at its target, one that is not taken after itself, and a target outside the code region
traps. R90, R110: a call pushes the index of the instruction that follows, and RET pops it; a full stack traps, or loses its
oldest entry where RSWRAP is 1, and an empty one traps. What a call at index 16,777,215 pushes is the model's choice, an entry of
24 bits that nothing else constrains (log entry 158, DESIGN CHOICE). -/
def Obligations.BranchResult : Prop :=
  (∀ (s : State) (t : Nat) (i : Inst) (f : BF) (j : JF) (ra : BitVec 5), Executes s t i →
     let c := i.ctx
     let a := getX c f.ra
     let b := getX c f.rb
     let goes (x : Instr) (dest : Int) : Prop :=
       (0 ≤ dest ∧ dest < 2 ^ 24 → exec x s = completed s t i { c with pc := dest.toNat }) ∧
       (dest < 0 ∨ 2 ^ 24 ≤ dest → exec x s = trapped s t i 0x8C)
     let falls (x : Instr) : Prop := exec x s = completed s t i (advance 1 c)
     let dest := (c.pc : Int) + f.off.toInt
     let far := (c.pc : Int) + j.tgt.toInt
     (a = b → goes (.beq f) dest ∧ falls (.bne f)) ∧ (a ≠ b → goes (.bne f) dest ∧ falls (.beq f)) ∧
     (a.toInt < b.toInt → goes (.blt f) dest ∧ falls (.bge f)) ∧ (b.toInt ≤ a.toInt → goes (.bge f) dest ∧ falls (.blt f)) ∧
     (a.toNat < b.toNat → goes (.bltu f) dest ∧ falls (.bgeu f)) ∧ (b.toNat ≤ a.toNat → goes (.bgeu f) dest ∧ falls (.bltu f)) ∧
     (c.la = true → goes (.blat j) far ∧ falls (.blaf j)) ∧ (c.la = false → goes (.blaf j) far ∧ falls (.blat j)) ∧
     goes (.jmp j) j.tgt.toNat ∧ goes (.jmpr ⟨0, ra, 0, 0⟩) (getX c ra).toNat) ∧
  (∀ (s : State) (t : Nat) (i : Inst) (j : JF) (ra : BitVec 5), Executes s t i →
     let c := i.ctx
     let calls (x : Instr) (dest : Nat) : Prop := ∃ p, p < 2 ^ 24 ∧ (c.pc + 1 < 2 ^ 24 → p = c.pc + 1) ∧
       (c.rs.length < 16 → exec x s = completed s t i { c with pc := dest, rs := p :: c.rs }) ∧
       (c.rs.length = 16 → flag s Reg.LEAF_CORECFG 0 = true →
         exec x s = completed s t i { c with pc := dest, rs := p :: c.rs.dropLast }) ∧
       (c.rs.length = 16 → flag s Reg.LEAF_CORECFG 0 = false → exec x s = trapped s t i 0x86)
     calls (.call j) j.tgt.toNat ∧
     ((getX c ra).toNat < 2 ^ 24 → calls (.callr ⟨0, ra, 0, 0⟩) (getX c ra).toNat) ∧
     (∀ p l, c.rs = p :: l → p < 2 ^ 24 → exec (.ret {}) s = completed s t i { c with pc := p, rs := l }) ∧
     (c.rs = [] → exec (.ret {}) s = trapped s t i 0x87))

/-- R112, R113: a repeat prefix sets up the iterations of the instruction that follows, skips it where the count is 0, and traps
where it cannot be repeated. R87, R112, R114: what the end of an instruction of `n` words makes of the PC and of the repeat
that is in progress: nothing else of the context changes, the iterations are counted, and the last one goes on behind the
instruction. -/
def Obligations.RepeatResult : Prop :=
  (∀ (s : State) (t : Nat) (i : Inst) (ra : BitVec 5) (imm : BitVec 14), Executes s t i → i.ctx.pc + 1 < 2 ^ 24 →
     (ra ≠ 0 → imm = 0) →
     let c := i.ctx
     let n := if ra = 0 then imm.toNat else (getX c ra).toNat % 2 ^ 32
     let op := codeWord s (c.pc + 1) / 2 ^ 24
     let long := 0x30 ≤ op ∧ op ≤ 0x33
     let once := (0x02 ≤ op ∧ op ≤ 0x03) ∨ (0x0A ≤ op ∧ op ≤ 0x0B) ∨ (0x34 ≤ op ∧ op ≤ 0x35) ∨ (0x58 ≤ op ∧ op ≤ 0x59) ∨
       (0x70 ≤ op ∧ op ≤ 0x75) ∨ (0x78 ≤ op ∧ op ≤ 0x7D) ∨ (0x80 ≤ op ∧ op ≤ 0x81) ∨ (0xA0 ≤ op ∧ op ≤ 0xA4)
     let sets (u : Bool) : Out := completed s t i { c with pc := c.pc + 1, rep := some { remaining := n, iter := 0, unint := u } }
     let skips : Out := completed s t i { c with pc := c.pc + (if long then 3 else 2) }
     (once → exec (.rpti ⟨0, ra, imm⟩) s = trapped s t i 0x8D ∧ exec (.rptu ⟨0, ra, imm⟩) s = trapped s t i 0x8D) ∧
     (¬ once → 0 < n → exec (.rpti ⟨0, ra, imm⟩) s = sets false) ∧ (¬ once → n = 0 → exec (.rpti ⟨0, ra, imm⟩) s = skips) ∧
     (¬ once → 0 < n → n ≤ 256 → exec (.rptu ⟨0, ra, imm⟩) s = sets true) ∧
     (¬ once → n = 0 → exec (.rptu ⟨0, ra, imm⟩) s = skips) ∧
     (256 < n → exec (.rptu ⟨0, ra, imm⟩) s = trapped s t i 0x8D)) ∧
  (∀ (n : Nat) (c : Ctx),
     (c.rep = none → advance n c = { c with pc := c.pc + n }) ∧
     (∀ m k u, c.rep = some { remaining := m + 2, iter := k, unint := u } →
       advance n c = { c with rep := some { remaining := m + 1, iter := k + 1, unint := u } } ∧ iterOf (advance n c) = k + 1) ∧
     (∀ k u, c.rep = some { remaining := 1, iter := k, unint := u } → advance n c = { c with pc := c.pc + n, rep := none }))

/-- R99, R107, R108: what the floating-point instructions leave in RD: an operation on the values of the operands, rounded and
encoded, a pick, a comparison, a change of the sign bit, or a conversion. -/
def Obligations.FloatResult : Prop :=
  ∀ (s : State) (t : Nat) (i : Inst) (rd ra rb : BitVec 5) (fn : BitVec 9), Executes s t i → fn.toNat ≤ 1 →
    let c := i.ctx
    let m := if fn = 0 then f32 else f64
    let arg (r : BitVec 5) : Nat := if fn = 0 then (getX c r).toNat % 2 ^ 32 else (getX c r).toNat
    let a := m.unpack (arg ra)
    let b := m.unpack (arg rb)
    let r (v : Nat) : Out := completed s t i (advance 1 (setX c rd (BitVec.ofNat 64 v)))
    let holds (p : Prop) [Decidable p] : Nat := if a ≠ .nan ∧ b ≠ .nan ∧ p then 1 else 0
    exec (.fadd ⟨rd, ra, rb, fn⟩) s = r (m.enc (fAdd a b)) ∧ exec (.fsub ⟨rd, ra, rb, fn⟩) s = r (m.enc (fAdd a (fNegV b))) ∧
    exec (.fmul ⟨rd, ra, rb, fn⟩) s = r (m.enc (fMul a b)) ∧ exec (.fdiv ⟨rd, ra, rb, fn⟩) s = r (m.enc (fDiv a b)) ∧
    exec (.fsqrt ⟨rd, ra, 0, fn⟩) s = r (m.enc (fSqrt a)) ∧
    exec (.fmadd ⟨rd, ra, rb, fn⟩) s = r (m.enc (fAdd (fMul a b) (m.unpack (arg rd)))) ∧
    (a = .nan → b = .nan → exec (.fmin ⟨rd, ra, rb, fn⟩) s = r m.nan ∧ exec (.fmax ⟨rd, ra, rb, fn⟩) s = r m.nan) ∧
    (a = .nan → b ≠ .nan → exec (.fmin ⟨rd, ra, rb, fn⟩) s = r (arg rb) ∧ exec (.fmax ⟨rd, ra, rb, fn⟩) s = r (arg rb)) ∧
    (a ≠ .nan → b = .nan → exec (.fmin ⟨rd, ra, rb, fn⟩) s = r (arg ra) ∧ exec (.fmax ⟨rd, ra, rb, fn⟩) s = r (arg ra)) ∧
    (a ≠ .nan → b ≠ .nan → fCmp a b = .lt →
      exec (.fmin ⟨rd, ra, rb, fn⟩) s = r (arg ra) ∧ exec (.fmax ⟨rd, ra, rb, fn⟩) s = r (arg rb)) ∧
    (a ≠ .nan → b ≠ .nan → fCmp a b = .gt →
      exec (.fmin ⟨rd, ra, rb, fn⟩) s = r (arg rb) ∧ exec (.fmax ⟨rd, ra, rb, fn⟩) s = r (arg ra)) ∧
    (a ≠ .nan → b ≠ .nan → fCmp a b = .eq →
      let negative := (arg ra).testBit (if fn = 0 then 31 else 63)
      exec (.fmin ⟨rd, ra, rb, fn⟩) s = r (if negative then arg ra else arg rb) ∧
      exec (.fmax ⟨rd, ra, rb, fn⟩) s = r (if negative then arg rb else arg ra)) ∧
    exec (.feq ⟨rd, ra, rb, fn⟩) s = r (holds (fCmp a b = .eq)) ∧ exec (.flt ⟨rd, ra, rb, fn⟩) s = r (holds (fCmp a b = .lt)) ∧
    exec (.fle ⟨rd, ra, rb, fn⟩) s = r (holds (fCmp a b ≠ .gt)) ∧
    exec (.fneg ⟨rd, ra, 0, fn⟩) s = r (arg ra ^^^ (if fn = 0 then 2 ^ 31 else 2 ^ 63)) ∧
    exec (.fabs ⟨rd, ra, 0, fn⟩) s = r (arg ra % (if fn = 0 then 2 ^ 31 else 2 ^ 63)) ∧
    exec (.fcvt ⟨rd, ra, 0, 0⟩) s = r (f64.enc (f32.unpack ((getX c ra).toNat % 2 ^ 32))) ∧
    exec (.fcvt ⟨rd, ra, 0, 1⟩) s = r (f32.enc (f64.unpack (getX c ra).toNat)) ∧
    exec (.fcvt ⟨rd, ra, 0, 2⟩) s = r (f32.pack (decide ((getX c ra).toInt < 0)) (getX c ra).toInt.natAbs 0) ∧
    exec (.fcvt ⟨rd, ra, 0, 3⟩) s = r (f64.pack (decide ((getX c ra).toInt < 0)) (getX c ra).toInt.natAbs 0) ∧
    exec (.fcvt ⟨rd, ra, 0, 4⟩) s = completed s t i (advance 1 (setX c rd (BitVec.ofInt 64 (fToInt (f32.unpack ((getX c ra).toNat % 2 ^ 32)))))) ∧
    exec (.fcvt ⟨rd, ra, 0, 5⟩) s = completed s t i (advance 1 (setX c rd (BitVec.ofInt 64 (fToInt (f64.unpack (getX c ra).toNat)))))

/-- R86: sums and products of finite numbers are exact before they are rounded, and numbers compare by their values. R86:
rounding is to nearest, ties to even, subnormal results in full; a number that rounds beyond the largest finite one becomes
an infinity. R86: an encoding that is no NaN stands for the value that encodes to it, and every NaN encodes as the canonical
one. -/
def Obligations.FloatRounding : Prop :=
  (∀ (x y : Bool) (m n : Nat) (e g : Int),
     (∃ z k q, fAdd (.num x m e) (.num y n g) = .num z k q ∧ ratOf z k q = ratOf x m e + ratOf y n g) ∧
     (∃ z k q, fMul (.num x m e) (.num y n g) = .num z k q ∧ ratOf z k q = ratOf x m e * ratOf y n g) ∧
     (fCmp (.num x m e) (.num y n g) = .lt ↔ ratOf x m e < ratOf y n g) ∧
     (fCmp (.num x m e) (.num y n g) = .eq ↔ ratOf x m e = ratOf y n g)) ∧
  (∀ (f : FFmt) (neg : Bool) (m : Nat) (e : Int), f = f32 ∨ f = f64 →
     let qmax := f.qmin + 2 ^ f.ebits - 3
     (f.unpack (f.pack neg m e) = .inf neg ∧ (2 ^ (f.prec + 1) - 1) * (2 : ℚ) ^ qmax ≤ 2 * ratOf false m e) ∨
     ∃ n q, f.unpack (f.pack neg m e) = .num neg n q ∧ n < 2 ^ f.prec ∧ f.qmin ≤ q ∧ q ≤ qmax ∧
       (|ratOf false n q - ratOf false m e| < (2 : ℚ) ^ q / 2 ∨
         |ratOf false n q - ratOf false m e| = (2 : ℚ) ^ q / 2 ∧ n % 2 = 0)) ∧
  ((∀ v : Nat, v < 2 ^ 32 → f32.enc (f32.unpack v) = if f32.unpack v = .nan then 0x7FC0_0000 else v) ∧
   (∀ v : Nat, v < 2 ^ 64 → f64.enc (f64.unpack v) = if f64.unpack v = .nan then 0x7FF8_0000_0000_0000 else v))

/-- R116: UNITW to a lane's transmit message memory and PSTW to the parameter store write their bytes; their other targets trap.
R116: EMIT copies the descriptor into the instance's buffer; a descriptor that is misaligned or does not lie wholly in
working memory traps with ACCESS, and the 257th EMIT with EMIT_FULL. R116, R360, R362, R399: WCHK checks in to its slot,
which a slot in order takes, and EVTRIG fires its source, where it is enabled. -/
def Obligations.FenceResult : Prop :=
  (∀ (s : State) (t : Nat) (i : Inst) (ra rb : BitVec 5) (fn : BitVec 9), Executes s t i →
     let c := i.ctx
     let a := (getX c ra).toNat
     let x := (getX c rb).toNat
     let lane := lmmBase ≤ a ∧ a < lmmBase + 0xC0000
     (lane → (a - lmmBase) % 0x10000 < 0x4800 → a % 4 = 0 →
       ∃ u, exec (.unitw ⟨0, ra, rb, 0⟩) s = .next u ∧ Wrote s u t i (advance 1 c) a (leBytes 4 x)) ∧
     (¬ lane → ¬ (pnlBase ≤ a ∧ a < pnlBase + 0x40000) → ¬ (regBase ≤ a ∧ a < regBase + 0x100_0000) → a < 2 ^ 40 →
       exec (.unitw ⟨0, ra, rb, 0⟩) s = trapped s t i 0x8B) ∧
     (2 ^ 40 ≤ a → exec (.unitw ⟨0, ra, rb, 0⟩) s = trapped s t i 0x89) ∧
     (fn.toNat ≤ 3 → 512 ≤ a → a < 2 ^ 18 → a % 2 ^ fn.toNat = 0 → eccAt s (pstBase + a) = .good →
       ∃ u, exec (.pstw ⟨0, ra, rb, fn⟩) s = .next u ∧
         Wrote s u t i (advance 1 c) (pstBase + a) (leBytes (2 ^ fn.toNat) x)) ∧
     (fn.toNat ≤ 3 → 2 ^ 18 ≤ a → exec (.pstw ⟨0, ra, rb, fn⟩) s = trapped s t i 0x8B)) ∧
  (∀ (s : State) (t : Nat) (i : Inst) (ra : BitVec 5), Executes s t i →
     let c := i.ctx
     let a := (getX c ra).toNat
     let len := 32 + (seenNat s (a + 8) 4 % 4096 + 7) / 8 * 8
     (a % 8 = 0 → a + len ≤ 2 ^ 33 → (∀ x, a ≤ x → x < a + len → eccAt s x = .good) →
       (c.emits < 256 → exec (.emit ⟨0, ra, 0, 0⟩) s =
         .next (stepped s t { i with emits := i.emits ++ [seenBytes s a len] } (advance 1 { c with emits := c.emits + 1 }))) ∧
       (256 ≤ c.emits → exec (.emit ⟨0, ra, 0, 0⟩) s = trapped s t i 0x8E)) ∧
     (a % 8 ≠ 0 ∨ 2 ^ 33 < a + len → exec (.emit ⟨0, ra, 0, 0⟩) s = trapped s t i 0x89)) ∧
  (∀ (s : State) (t : Nat) (i : Inst) (ra : BitVec 5) (imm : BitVec 14), Executes s t i → imm.toNat < 32 →
     let c := i.ctx
     let n := imm.toNat
     let done := putFlag s Reg.WARD_DONE n true
     (wardState s = 1 → s.ward.enrol.getLsbD n = true → flag s Reg.WARD_DONE n = false → wardPos s < s.ward.period →
       (getX c ra).toNat % 256 = regNat s Reg.WARD_PCNT % 256 →
       (getReg done Reg.WARD_DONE &&& s.ward.enrol ≠ s.ward.enrol →
         exec (.wchk ⟨0, ra, imm⟩) s = completed done t i (advance 1 c)) ∧
       (getReg done Reg.WARD_DONE &&& s.ward.enrol = s.ward.enrol →
         exec (.wchk ⟨0, ra, imm⟩) s = completed { done with ward := { s.ward with served := true } } t i (advance 1 c))) ∧
     (wardState s = 0 → exec (.wchk ⟨0, ra, imm⟩) s = completed s t i (advance 1 c)) ∧
     (flag s (Reg.EVR_SRC_CFG n) 31 = false → exec (.evtrig ⟨0, 0, imm⟩) s = completed s t i (advance 1 c)) ∧
     (flag s (Reg.EVR_SRC_CFG n) 31 = true → s.evr.queue.length < 16 →
       exec (.evtrig ⟨0, 0, imm⟩) s = completed { s with evr := { s.evr with
         queue := s.evr.queue ++ [{ src := n, code := 0, master := 0, time := now s, fnum := fnum s }] } } t i (advance 1 c)))

/-- R111: END ends the instance, whose buffer waits for its deadline; SEG has no architectural effect; BRK halts the leaves
after itself where DBG enables breakpoints, and acts as NOP where not. R118: a trap ends the instance at once, drops its
buffer, reports the fault of its cause, of class F1 where the task's POLICY is STOP and F0 where it is ABANDON, and stands
in LEAF's trap log; memory stays as it was. -/
def Obligations.InstanceEnds : Prop :=
  (∀ (s : State) (t : Nat) (i : Inst), Executes s t i → Alone s t i →
     let c := i.ctx
     (∃ u, exec (.endI {}) s = .next u ∧ u.frm.insts = [(t, { i with st := .ended, count := i.count + 1 })] ∧
       u.frm.running = none ∧ SameMemory s u) ∧
     exec (.seg {}) s = completed s t i (advance 1 c) ∧
     (flag s Reg.DBG_BPCFG 0 = false → exec (.brk {}) s = completed s t i (advance 1 c)) ∧
     (flag s Reg.DBG_BPCFG 0 = true → s.flt.queue.length ≤ 48 → ∃ u, exec (.brk {}) s = .next u ∧ u.leaf.dbgHalt = true ∧
       u.leaf.haltedInst = some t ∧ fld u Reg.DBG_STAT 3 0 = 5 ∧
       u.frm.insts = [(t, { i with ctx := advance 1 c, count := i.count + 1 })] ∧ SameMemory s u)) ∧
  (∀ (s : State) (t : Nat) (i : Inst) (k : Nat), Executes s t i → Alone s t i → s.flt.queue.length ≤ 48 → 0x80 ≤ k → k ≤ 0x8E →
     t < 48 → ∃ u, trapped s t i k = .next u ∧
       u.frm.insts = [(t, { i with st := .ended, trapped := true, qw := [], emits := [] })] ∧ u.frm.running = none ∧
       u.frm.trapStop = (s.frm.trapStop || taskStop s t) ∧ SameMemory s u ∧
       fld u Reg.LEAF_TRAPLOG 15 8 = k ∧ fld u Reg.LEAF_TRAPLOG 6 0 = (if 32 ≤ t then 64 + (t - 32) else t) ∧
       regNat u Reg.LEAF_TRAPPC = i.ctx.pc ∧ regNat u Reg.LEAF_TRAPITER = iterOf i.ctx % 2 ^ 32 ∧
       regNat u Reg.LEAF_TRAPFN = fnum s % 2 ^ 32 ∧
       ∃ e ∈ u.flt.queue, e.code.toNat = 0x500 + k ∧ e.cls.val = if taskStop s t then 1 else 0)

/-- R226, R227, R391, R454, R457, R460: the supply and the lid sensor: the voltage that SYS.VIN shows and a notice once per
episode, PFAIL, which stops the leaves and releases the bolt, the dump, its seal, the bleeder, and the stored powered time.
Its clauses rest on the model's own choices and readings in log entries 5, 43, 125, 126, 170, beside the rules. -/
def Obligations.SupplyEvents : Prop :=
  ∀ s : State, Roomy s →
    (∀ v : Nat,
      let shows (low high : Bool) : State := { putFld s Reg.SYS_VIN 15 0 v with
        pads := { s.pads with vinLow := low, vinHigh := high, vinAt := s.raw / 400000 } }
      let again (t : State) : State := { t with free := t.free + 1 }
      (3300 ≤ v → v < 3600 →
        (s.pads.vinLow = false → exec (.vinLow v) s = raised 0x0130 0 (shows true false)) ∧
        (s.pads.vinLow = true → exec (.vinLow v) s = .next (again (shows true false)) ∨
          exec (.vinLow v) s = raised 0x0130 0 (again (shows true false)))) ∧
      (7500 < v →
        (s.pads.vinHigh = false → exec (.vinHigh v) s = raised 0x0131 1 (shows false true)) ∧
        (s.pads.vinHigh = true → exec (.vinHigh v) s = .next (again (shows false true)) ∨
          exec (.vinHigh v) s = raised 0x0131 1 (again (shows false true))))) ∧
    (s.pads.pfailB = true → Ends (exec .pfail s) fun u => u.pads.pfailB = false ∧ u.pads.boltOut = false ∧ enabled u = false ∧
      u.frm.running = none ∧ u.frm.compute = false ∧ u.frm.pendingCommit = none ∧ u.leaf.actHalt = true) ∧
    (s.pads.pfailB = false →
      exec .dumpStart s = .next { s with mm := { s.mm with dump := .unsealed } } ∧
      exec .bleederConnect s = .next { s with pads := { s.pads with bleeder := true } }) ∧
    (s.pads.pfailB = false → s.mm.dump = .unsealed →
      (Ends (exec (.dumpSeal false) s) fun u => u.mm.dump = .sealed ∧ u.boot.por = true ∧ u.mm.dirty = [] ∧ u.pads.bleeder = true ∧
        ∀ a, isDirty s (a / 4096) = true → smGet memDefault u.mm.flash a = memByte s a) ∧
      (Ends (exec (.dumpSeal true) s) fun u => u.mm.dump = .absent ∧ u.boot.running = true ∧ u.boot.por = false ∧ u.raw = 0 ∧
        fld u Reg.SYS_RSTCAUSE 10 8 = 7)) ∧
    (Ends (exec .optimeStore s) fun u => SameOutside s u (pstBase + 0x80) 16 ∧
      memBytes u (pstBase + 0x80) 16 = countBlock s.pst.optime s.pst.pwrcyc) ∧
    (∀ t : Int, 950 < t →
      exec (.lidHot t) s = if s.pads.lidHot then .next s else raised 0x0132 1 { s with pads := { s.pads with lidHot := true } }) ∧
    (∀ t : Int, flag s Reg.FLT_STAT 1 = false →
      (t ≤ 1100 → Ends (exec (.lidTempReading t) s) fun u => u.flt = s.flt ∧
        fld u Reg.SYS_TEMP 31 16 = (BitVec.ofInt 16 (max (BitVec.ofNat 16 (fld s Reg.SYS_TEMP 31 16)).toInt t)).toNat ∧
        u.pads.lidHot = (s.pads.lidHot && decide (950 < t)) ∧
        u.pads.coolAt = if t < 1000 then some (s.pads.coolAt.getD s.raw) else none) ∧
      (1100 < t → Ends (exec (.lidTempReading t) s) fun u => flag u Reg.FLT_STAT 1 = true ∧
        fld u Reg.FLT_CUR3 31 16 = 0x0133 ∧ flag u Reg.FLT_CUR3 1 = false ∧ enabled u = false ∧ u.pads.boltOut = false))

/-- R28 to R35, R379, R435, R441: power-up, its release, the pulse on RST_B, the resets that a master writes, behind which the
cause of an F3 state that they end is entered anew, and a clock loss. Its clauses rest on the model's own choices and
readings in log entries 4, 17, 45, 46, 47, 48, 130, beside the rules. -/
def Obligations.ResetCommands : Prop :=
  ∀ s : State,
    (∀ vbat, Ends (exec (.powerOnReset vbat) s) fun u => u.boot.por = true ∧ u.pads.pfailB = false ∧ u.raw = 0 ∧
      regNat u Reg.SYS_RSTCAUSE = 0x701 ∧ haspState u = 0 ∧ curMode u = modeStop ∧ u.flt.queue = [] ∧ u.frm.insts = [] ∧
      u.boot.flash = s.boot.flash ∧ (vbat = true → u.rtc.sec = s.rtc.sec) ∧
      ∀ a, a < pstBase ∨ pstBase + pstSize ≤ a → memByte u a = memDefault a) ∧
    (s.boot.por = true → s.flt.arrived = [] → s.flt.queue.length ≤ 48 → Ends (exec .porRelease s) fun u =>
      u.boot.por = false ∧ u.boot.running = true ∧ u.pads.pfailB = true ∧ u.raw = 0 ∧ fld u Reg.SYS_CLKSTAT 1 0 = 3 ∧
      fld u Reg.BOOT_STAT 3 0 = if headerOk s 0 || headerOk s 1 then 2 else 5) ∧
    (∀ ns, ns < 200 → exec (.rstBPulse ns) s = .next s) ∧
    (∀ ns, 200 ≤ ns → ns < 1000 → exec (.rstBPulse ns) s = .fault .rstPulseUndefined) ∧
    (Runs s → s.flt.clkLoss = false →
      (∀ ns, 1000 ≤ ns → Ends (exec (.rstBPulse ns) s) fun u => DrstDone s u ∧
        flag u Reg.SYS_RSTCAUSE 1 = true ∧ fld u Reg.SYS_RSTCAUSE 10 8 = 7) ∧
      (∀ m, Ends (exec (.sysResetDrst m) s) fun u => DrstDone s u ∧
        flag u Reg.SYS_RSTCAUSE 2 = true ∧ fld u Reg.SYS_RSTCAUSE 10 8 = Master.num m) ∧
      (∀ m v, v.toNat / 2 ^ 16 = 0x4852 → v.getLsbD 0 = true → Ends (exec (.hostResetRequest m v) s) fun u => DrstDone s u ∧
        flag u Reg.SYS_RSTCAUSE 3 = true ∧ fld u Reg.SYS_RSTCAUSE 10 8 = 1)) ∧
    (Runs s → s.frm.ticking = true → s.flt.cdr = none → flag s Reg.FLT_STAT 1 = false →
      ∀ m, Ends (exec (.sysResetCdr m) s) fun u => u.flt.cdr = some (instep s) ∧ u.flt.since = s.raw ∧
        u.flt.why = 2 + Master.num m ∧ u.leaf.actHalt = true ∧ u.frm.compute = false ∧ u.frm.pendingCommit = none ∧
        (instep s = false → ∀ n, n < 48 → (aoCh u n).fail = true)) ∧
    (s.boot.por = false → s.flt.arrived = [] → ∀ c, Ends (exec (.clockLoss c) s) fun u =>
      flag u Reg.SYS_CLKSTAT (if c = .ref then 4 else if c = .leaf then 5 else 6) = true ∧ flag u Reg.FLT_STAT 1 = true ∧
      fld u Reg.FLT_CUR3 31 16 = 0x0110 ∧ flag u Reg.FLT_CUR3 1 = false ∧ u.pads.boltOut = false ∧ enabled u = false ∧
      alive u = (alive s && decide (c = .leaf)) ∧ u.flt.queue = s.flt.queue)

/-- R228, R423 to R428, R434: the steps of a start: the image, the memory, the restore, and the end of BOOT, where a SOLO
module asserts BOLT_OUT unless an F3 action or PFAIL keeps it released (R180), and raises BOLT_CONTEST where BOLT_IN is
asserted (R196). Its clauses rest on the model's own choices and readings in log entries 5, 118, 127, 172, beside the rules. -/
def Obligations.StartSteps : Prop :=
  ∀ s : State, Roomy s → s.boot.running = true → s.flt.held = none →
    (s.boot.imageOk = false → s.boot.waitMem = true ∨ s.boot.waitRestore = true → bootState s = 2 →
      slotFault s s.boot.slot = none → Ends (exec .imageLoaded s) fun u => u.boot.imageOk = true ∧ u.boot.slot = s.boot.slot ∧
        bootState u = 1 ∧ memBytes u imageCopy (imageLen s s.boot.slot) = flashBytes s (slotBase s s.boot.slot) (imageLen s s.boot.slot)) ∧
    (∀ c i, s.boot.imageOk = false → bootState s = 2 → s.boot.slot ≤ 1 → slotFault s s.boot.slot = some (c, i) →
      Ends (exec .imageLoaded s) fun u => regNat u Reg.BOOT_ERR = c * 2 ^ 28 + s.boot.slot * 2 ^ 27 + i * 2 ^ 23 ∧
        flag u Reg.BOOT_STAT 8 = true ∧ Queued 0x5102 0 u ∧
        (flag s Reg.BOOT_STAT 8 = false → headerOk s (1 - s.boot.slot) = true → u.boot.slot = 1 - s.boot.slot) ∧
        (flag s Reg.BOOT_STAT 8 = true ∨ headerOk s (1 - s.boot.slot) = false →
          fld u Reg.BOOT_STAT 3 0 = 5 ∧ Queued 0x5101 1 u)) ∧
    (s.boot.imageOk = false → exec .memoryInitDone s = .next { s with boot := { s.boot with waitMem := false } }) ∧
    (s.boot.imageOk = false → s.boot.waitRestore = true → smWf memDefault s.mm.flash = true →
      (s.mm.dump = .sealed → Ends (exec (.restoreComplete false) s) fun u => u.boot.waitRestore = false ∧ u.boot.retained = true ∧
        u.mm.dump = .absent ∧ fld u Reg.RET_STAT 2 0 = 2 ∧ Queued 0x0721 0 u ∧
        ∀ a, memByte u a = if restored a then smGet memDefault s.mm.flash a else memByte s a) ∧
      (∀ bad, s.mm.dump ≠ .sealed ∨ bad = true → bootState s ≠ 5 → flag s Reg.FLT_STAT 1 = false →
        Ends (exec (.restoreComplete bad) s) fun u => u.boot.retained = false ∧ fld u Reg.RET_STAT 2 0 = 3 ∧
          u.flt.held = some 0x0722 ∧ flag u Reg.FLT_STAT 1 = true ∧ Queued 0x0722 3 u)) ∧
    (s.boot.modeDecided = true → startMode s = 0 →
      (fld s Reg.HASP_CFG 1 0 = 0 → Ends (exec .endOfBoot s) fun u => u.boot.running = false ∧ fld u Reg.BOOT_STAT 3 0 = 4 ∧
        u.pads.boltOut = (s.pads.boltOut || mayBolt s) ∧ u.frm.first = true ∧ u.ward.counting = true ∧
        (s.pads.boltIn = true → Queued 0x060A 0 u)) ∧
      (fld s Reg.HASP_CFG 1 0 ≠ 0 → s.pads.boltIn = false → Ends (exec .endOfBoot s) fun u => u.boot.running = false ∧
        fld u Reg.BOOT_STAT 3 0 = 4 ∧ haspState u = 1 ∧ u.hasp.side = flag s Reg.HASP_CFG 4))

/-- R54, R58, R75: the tick begins the next frame: no phase of the old one lasts, and a request that waited for it takes effect.
Its clauses rest on the model's own choices and readings in log entries 1, 5, beside the rules. -/
def Obligations.TickBeginsFrame : Prop :=
  ∀ (s : State) (v : Nat), Undisturbed s → NoAction s → Bare s → v ≤ 2 →
    pair s Reg.FRM_FBASEN_LO + (now (advanceToTime (tickAt s (fnum s + 1)) s) - pair s Reg.FRM_FBASET_LO) / frameNs s ≤ fnum s + 1 →
    (v = curMode s ∧ s.frm.reqDue = none ∨
      v ≠ curMode s ∧ s.frm.reqDue = some v ∧ (v = modeRun → getReg s Reg.FRM_TIMSTAT = 0)) →
    Ends (exec .frameTick s) fun u => fnum u = (fnum s + 1) % 2 ^ 64 ∧ curMode u = v ∧ u.frm.phase = 0 ∧
      u.frm.compute = false ∧ u.frm.running = none ∧ u.frm.reqDue = s.frm.reqLate

/-- R59, R65: at IC the input image is the unforced values with the counts and the forces over them, and the compute phase
begins. Its clauses rest on the model's own choices and readings in log entry 5, beside the rules. -/
def Obligations.InputClosed : Prop :=
  ∀ s : State, Undisturbed s → NoAction s → s.frm.phase = 0 →
    (curMode s = modeRun → s.frm.insts = [] ∧ s.frm.later = [] ∧ s.frm.latchDue = false) →
    Ends (exec .inputClose s) fun u => u.frm.phase = 1 ∧ u.frm.compute = true ∧
      u.frm.inImg = applyOver (applyOver s.frm.unforced (countPoints s)) (inputForces s)

/-- R72, R73, R74, R153: what CC commits with nothing overrun: in RUN the image of the frame before, the buffers that are due
over it, in STOP the fail-state image, and over either the forces; the checkpoint is then pending. Its clauses rest on the
model's own choices and readings in log entries 5, 25, beside the rules. -/
def Obligations.CommitClosed : Prop :=
  ∀ s : State, Undisturbed s → NoAction s → s.hasp.takeoverFrame = none → s.frm.phase = 1 → s.frm.pend = [] →
    s.frm.trapStop = false → (∀ p ∈ s.frm.insts, p.2.emits = [] ∧ (p.2.deadline ≤ fnum s → p.2.st = .ended)) →
    let due := s.frm.insts.filter fun p => p.2.deadline ≤ fnum s && p.2.st = .ended
    let closes (img : SMap Word) (fail : Bool) : Prop := Ends (exec .commitClose s) fun u =>
      u.frm.phase = 2 ∧ u.frm.compute = false ∧ u.frm.running = none ∧ u.frm.last = applyOver img (outputForces s) ∧
      (∃ e, u.frm.pendingCommit = some { frame := fnum s, img := applyOver img (outputForces s), reqs := [], fail := fail,
                                         run := !fail, forced := (outputForces s).map (·.1), edges := e } ∧ (fail = true → e = [])) ∧
      u.frm.runImg = if fail then s.frm.runImg else applyOver img (outputForces s)
    (curMode s = modeRun → closes (commitInsts s due s.frm.last).1 false) ∧
    (curMode s = modeStop → closes (failImage s) true)

/-- R154, R220, R223: the checkpoint of a commit completes: its bank is the latest, the undo log is empty, and the next frame
applies the commit. Its clauses rest on the model's own choices and readings in log entries 5, 36, beside the rules. -/
def Obligations.CheckpointDone : Prop :=
  ∀ (s : State) (c : Commit), Undisturbed s → NoAction s → Bare s → s.frm.pendingCommit = some c → c.reqs = [] →
    Ends (exec .checkpointComplete s) fun u => u.frm.pendingCommit = none ∧ u.frm.nextOut = (if c.hold then none else some c) ∧
      u.mm.undo = [] ∧
      regNat u Reg.LEAF_CKSTAT = 2 ^ 31 + nextBank s * 2 ^ 30 + c.frame % 2 ^ 16

/-- R60, R293, R307: at AP a mapped digital output whose command has no timed edge in the commit takes its point of the
commit; at its instant an edge takes its value; a channel that waits for no edge is left as it is. Its clauses rest on the
model's own choices and readings in log entries 5, 93, beside the rules. -/
def Obligations.OutputsApplied : Prop :=
  ∀ (s : State), Undisturbed s →
    (∀ c e, s.frm.released = some c → commandEntries s kindDio clsQX = [e] → commandEntries s kindAo clsQW = [] → e.chan < 192 →
      isDo s e.chan = true → c.edge false e.chan = none →
      Ends (exec .applyInstant s) fun u => flag u (dioStat e.chan) 3 = (imgGet c.img e.key).getLsbD 0) ∧
    (∀ n, n < 192 → (dioCh s n).edge = none → exec (.timedEdge false n) s = .next s) ∧
    (∀ n e, n < 192 → (dioCh s n).edge = some e → isDo s n = true →
      Ends (exec (.timedEdge false n) s) fun u => flag u (dioStat n) 3 = e.v.getLsbD 0 ∧ (dioCh u n).edge = none ∧
        u.raw = max s.raw (rawAt s ((e.at2 + 1) / 2))) ∧
    (∀ n e, n < 48 → (aoCh s n).edge = some e →
      Ends (exec (.timedEdge true n) s) fun u => (aoCh u n).point = e.v ∧ (aoCh u n).fail = false ∧ (aoCh u n).edge = none)

/-- R57, R73, R75, R84: a mode request waits for its tick, the one after where it comes later than 5 µs before it; a reserved
value is refused, and a request for the mode in force cancels what waits. Its clauses rest on the model's own choices and
readings in log entry 19, beside the rules. -/
def Obligations.ModeRequests : Prop :=
  ∀ (s : State) (m : Master) (v : Word), Runs s → s.flt.cdr = none →
    let r := bits v.toNat 5 4
    let kept := putFld s Reg.FRM_MODE 5 4 r
    (r = 3 ∨ (r = modeRun ∧ getReg s Reg.FRM_TIMSTAT ≠ 0) → exec (.modeRequest m v) s = refused m 0x03FF s) ∧
    (r ≠ 3 → (r = modeRun → getReg s Reg.FRM_TIMSTAT = 0) →
      (r = curMode s → exec (.modeRequest m v) s =
        accepted (putFlag { kept with frm := { s.frm with reqDue := none, reqLate := none, reqHeld := none } } Reg.FRM_MODE 9 false)) ∧
      (r ≠ curMode s → now s + 5000 < tickAt s (fnum s + 1) → exec (.modeRequest m v) s =
        accepted (putFlag { kept with frm := { s.frm with reqDue := some r } } Reg.FRM_MODE 9 true)) ∧
      (r ≠ curMode s → tickAt s (fnum s + 1) ≤ now s + 5000 → exec (.modeRequest m v) s =
        accepted (putFlag { kept with frm := { s.frm with reqLate := some r } } Reg.FRM_MODE 9 true))) ∧
    (v.getLsbD 0 = false → exec (.frmCtrclr m v) s = accepted s) ∧
    (v.getLsbD 0 = true → Ends (exec (.frmCtrclr m v) s) fun u => regNat u Reg.FRM_SLACKMIN = 0xFFFFF ∧
      ∀ t, (t < 32 → regNat u (Reg.FRM_TASKMAX t) = 0) ∧ (t < 48 → fld u (taskStat t) 31 8 = 0 ∧
        fld u (taskStat t) 7 0 = fld s (taskStat t) 7 0))

/-- R36, R38, R39, R183: BEGIN, COMMIT and ROLLBACK move their slot between IDLE, OPEN and PENDING; out of order they raise BADCMD
and change nothing. A write of a setting while the slot is open is staged in it, here of FRM.WIN, whose every value can be
staged. -/
def Obligations.TransactionCommands : Prop :=
  ∀ (s : State) (m : Master) (slot : Fin 4), Runs s → standbyBars m s = false →
    let n := slot.val
    let st := slotState s n
    (st = 0 → Ends (exec (.txnBegin m slot) s) fun u => slotState u n = 1 ∧ stagedOf u n = [] ∧ u.answer = .done ∧
      fld u (Reg.TXN_SLOT_STAT n) 7 4 = 0 ∧ fld u (Reg.TXN_SLOT_STAT n) 28 16 = 0 ∧
      pair u (Reg.TXN_SLOT_BEGSEQ_LO n) = txnSeq s ∧ pair u (Reg.TXN_SLOT_APPSEQ_LO n) = 0 ∧ u.txn.order = s.txn.order) ∧
    (st = 1 → (Ends (exec (.txnCommit m slot) s) fun u => slotState u n = 2 ∧ u.txn.order = s.txn.order ++ [(n, some s.raw)] ∧
        stagedOf u n = stagedOf s n ∧ u.answer = .done) ∧
      (Ends (exec (.txnRollback m slot) s) fun u => slotState u n = 0 ∧ fld u (Reg.TXN_SLOT_STAT n) 7 4 = 4 ∧
        stagedOf u n = [] ∧ u.answer = .done)) ∧
    (st ≠ 0 → exec (.txnBegin m slot) s = refused m 0x0203 s) ∧
    (st ≠ 1 → exec (.txnCommit m slot) s = refused m 0x0203 s) ∧
    (st = 2 → exec (.txnRollback m slot) s = refused m 0x0203 s) ∧
    (st = 0 → exec (.txnRollback m slot) s = accepted s) ∧
    (∀ v : Word, n = Master.num m → st = 1 → stagedOf s n = [] →
      Ends (exec (.stagedWrite m Reg.FRM_WIN v) s) fun u => stagedOf u n = [(Reg.FRM_WIN, v &&& 0xFFFFF)] ∧ slotState u n = 1 ∧
        getReg u Reg.FRM_WIN = getReg s Reg.FRM_WIN ∧ u.answer = .done)

/-- R5, R7, R8, R36, R40: a write of a setting is staged in the master's open slot, in place of an earlier one to its register,
and leaves the register as it is; one by M4 during BOOT is applied at once. A write of a plain register changes its writable
fields and clears its W1C fields where it holds 1, which is spelled out for every register without an effect of its own; a
write of an address without a writable register is refused, and within WARD it breaks a disable sequence (R369). Its clauses rest on the model's own choices and readings in log
entries 10 and 52, beside the rules. -/
def Obligations.RegisterWrites : Prop :=
  ∀ (s : State) (m : Master) (o : Nat) (v : Word), Runs s → targetOf (regBase + o) = .reg → o % 4 = 0 →
    let k := Master.num m
    (∀ r ix, regRow? o = some (r, ix) → r.rwt ≠ 0 → m ≠ .m4 → standbyBars m s = false →
      let w := v &&& BitVec.ofNat 32 r.rwt
      (slotState s k ≠ 1 → exec (.stagedWrite m o v) s = refused m (noticeCode true (regBase + o)) s) ∧
      (slotState s k = 1 → stageOk m o w.toNat s = true → (stagedOf s k).length < 4096 → (∀ p ∈ stagedOf s k, p.1 ≠ o) →
        Ends (exec (.stagedWrite m o v) s) fun u => stagedOf u k = stagedOf s k ++ [(o, w)] ∧ u.answer = .done ∧
          fld u (Reg.TXN_SLOT_STAT k) 28 16 = (stagedOf s k).length + 1 ∧
          ∀ o', o' ≠ Reg.TXN_SLOT_STAT k → getReg u o' = getReg s o') ∧
      (slotState s k = 1 → stageOk m o w.toNat s = true → (∃ p ∈ stagedOf s k, p.1 = o) →
        Ends (exec (.stagedWrite m o v) s) fun u => u.answer = .done ∧
          stagedOf u k = (stagedOf s k).map (fun p => if p.1 = o then (o, w) else p) ∧ ∀ o', getReg u o' = getReg s o')) ∧
    (∀ r ix, regRow? o = some (r, ix) → r.rwt ≠ 0 → s.boot.running = true → o ≠ Reg.OLC_CHG →
      stageOk .m4 o (v &&& BitVec.ofNat 32 r.rwt).toNat s = true → exec (.stagedWrite .m4 o v) s =
        accepted (putReg s o ((getReg s o &&& BitVec.ofNat 32 r.ro) ||| (v &&& BitVec.ofNat 32 r.rwt)))) ∧
    (s.leaf.stepReq = false → ∀ p ∈ [(Reg.SYS_RSTCAUSE, 0, 0xFF), (Reg.SYS_CLKSTAT, 0, 0x70), (Reg.FLT_CFG, 0x1F, 0),
        (Reg.RTC_TRIM, 0xFFFF, 0), (Reg.PST_RECLEN, 0xFFFF, 0), (Reg.PNL_UPD, 0xFF00FF, 0), (Reg.PNL_EXPCRC, 0xFFFFFFFF, 0),
        (Reg.PNL_TEMP, 0xFFFF, 0), (Reg.BOOT_CFG, 1, 0), (Reg.BOOT_PGADDR, 0x1FFFFFFF, 0), (Reg.HOST_CFG, 1, 0),
        (Reg.HOST_CAUSE_LO, 0, 0xFFFFFFFF), (Reg.HOST_CAUSE_HI, 0, 0xFFFFFFFF), (Reg.DBG_BPCFG, 0xF1, 0),
        (Reg.DBG_BP 0, 0xFFFFFF, 0), (Reg.DBG_BP 1, 0xFFFFFF, 0), (Reg.DBG_BP 2, 0xFFFFFF, 0), (Reg.DBG_BP 3, 0xFFFFFF, 0)] ++
        (List.range 16).map (fun n => (Reg.TIME_TEV_PER n, 0xFFFFFFFF, 0)) ++
        (List.range 64).map (fun n => (Reg.HOST_MSIX n, 0xFFFFFFFC, 0)) ++
        (List.range 64).map (fun n => (Reg.HOST_MSIX n + 4, 0xFFFFFFFF, 0)) ++
        (List.range 64).map (fun n => (Reg.HOST_MSIX n + 8, 0xFFFFFFFF, 0)) ++
        (List.range 48).map (fun n => (Reg.AO_CH_STAT n, 0, 0x100)) ++
        (List.range 64).map (fun n => (Reg.BOOT_PGBUF n, 0xFFFFFFFF, 0)),
      exec (.registerWrite m p.1 v) s = accepted (putReg s p.1
        (((getReg s p.1 &&& ~~~ BitVec.ofNat 32 p.2.1) ||| (v &&& BitVec.ofNat 32 p.2.1)) &&& ~~~ (v &&& BitVec.ofNat 32 p.2.2)))) ∧
    (s.leaf.stepReq = false → (0x20000 ≤ o → o < 0x20200 → standbyBars m s = false) →
      ∀ r ix, regRow? o = some (r, ix) → r.rwt = 0 → r.rwo = 0 → rwPairLow o = false →
      (4 ≤ o → rwPairLow (o - 4) = false) →
      (r.rw = 0 ∧ r.wo = 0 ∧ r.w1c = 0 ∧ r.w1s = 0 →
        exec (.registerWrite m o v) s = refused m (noticeCode true (regBase + o)) (wardTouched o s)) ∧
      (r.rw ≠ 0 ∨ r.wo ≠ 0 ∨ r.w1c ≠ 0 ∨ r.w1s ≠ 0 →
        (if o < 0x100000 then lowWrite m o v.toNat s else highWrite m o v.toNat s) = none →
        exec (.registerWrite m o v) s = accepted (putNat s o (fieldWrite r (regNat s o) v.toNat)))) ∧
    (s.leaf.stepReq = false → regRow? o = none →
      exec (.registerWrite m o v) s = refused m (noticeCode true (regBase + o)) (wardTouched o s)) ∧
    (s.leaf.stepReq = false → 0x20000 ≤ o → o < 0x20200 → standbyBars m s = true → regRow? o ≠ none →
      exec (.registerWrite m o v) s = refused m 0x060C s)

/-- R6, R439, R440: a read of a pair's low half latches the high half for its master, whose next read of it shows the latch; a
host request reads a register through BAR0, and one outside every window, or over a link that is down, does nothing. Its
clauses rest on the model's own choices and readings in log entries 9, 54, 55, beside the rules. -/
def Obligations.RegisterReads : Prop :=
  ∀ (s : State) (m : Master) (o : Nat) (q : HostReq), Runs s →
    (targetOf (regBase + o) = .reg → o % 4 = 0 → readable o = true → latchedBy o = [o + 4] → refreshRead o s = s →
      regView m o s = (getReg s o, s) → regView m (o + 4) s = (getReg s (o + 4), s) → alGet s.latch (masterKey m o) = none →
      (∀ r ix, regRow? o = some (r, ix) → r.wo = 0) →
      Ends (exec (.pairLowRead m o) s) fun u => u.answer = .data (regNat s o) ∧
        alGet u.latch (masterKey m (o + 4)) = some (getReg s (o + 4)) ∧ ∀ o', getReg u o' = getReg s o') ∧
    (s.leaf.stepReq = false → flag s Reg.HOST_STAT 0 = false → exec (.hostRequest q) s = .next s) ∧
    (s.leaf.stepReq = false → flag s Reg.HOST_STAT 0 = true → q.cfg = none →
      (windowAddr s q = none → exec (.hostRequest q) s = .next s) ∧
      (q.bar2 = false → q.write = false → q.off = o → q.len = 4 → targetOf (regBase + o) = .reg → o % 4 = 0 →
        ∀ w v, regRead .m1 o s = (some w, v) → v.flt.arrived = [] →
        exec (.hostRequest q) s =
          .next { v with answer := .data w.toNat, host := { v.host with cpl := some (true, leBytes 4 w.toNat) } }))

/-- R122 to R125, R139: run-ahead changes nothing that a program or a unit can see: FRM with every instance stands as before,
and no byte of memory changes but the predicted image. Its clauses rest on the model's own choices and readings in log entry
56, beside the rules. -/
def Obligations.RunAheadUnseen : Prop :=
  ∀ (s : State) (n : Nat), Roomy s →
    (mayRunAhead s = false → exec (.runAhead n) s = .next s) ∧
    Ends (exec (.runAhead n) s) fun u => u.frm = s.frm ∧
      (∀ a, a < predBase ∨ predBase + 0x50_0000 ≤ a → memByte u a = memByte s a) ∧
      (mayRunAhead s = true → 0 < n → aheadInsts s (aheadFrame s) ≠ [] → u.spec.frame = some (aheadFrame s))

/-- R144, R146, R148, R150, R159: the vote of three leaves: agreement issues the output, one leaf that differs is outvoted and
restarted, three different outputs issue nothing and halt the leaves; a tumbler that mismatches leaves the vote. R32: inside a
wider reset the restart that a mismatch asks for is discarded, and the failure counts. Its clauses rest on the model's own
choices and readings in log entries 61, 155, beside the rules. -/
def Obligations.VoteDecides : Prop :=
  ∀ (s : State), Roomy s → s.leaf.actHalt = false → inVote s = [0, 1, 2] → s.leaf.lastFail = [] →
    (∀ x, exec (.knuckleVote ⟨x, x, x, false⟩) s = .next { s with leaf := { s.leaf with issued := x } }) ∧
    (∀ x y, x ≠ y → Ends (exec (.knuckleVote ⟨x, x, y, false⟩) s) fun u => u.leaf.issued = x ∧ inVote u = [0, 1] ∧
      leafSt u 2 = 1 ∧ fld u Reg.LEAF_STAT 17 16 = 2 ∧ Queued 0x051A 1 u ∧
      fld u (Reg.LEAF_FAILCNT 2) 15 0 = min (fld s (Reg.LEAF_FAILCNT 2) 15 0 + 1) 0xFFFF) ∧
    (∀ x y z, x ≠ y → x ≠ z → y ≠ z → Ends (exec (.knuckleVote ⟨x, y, z, false⟩) s) fun u =>
      u.leaf.issued = s.leaf.issued ∧ fld u Reg.LEAF_STAT 17 16 = 0 ∧ (flag s Reg.FLT_STAT 1 = false → u.leaf.actHalt = true)) ∧
    (widerReset s = false → Ends (exec (.tumblerMismatch true false false) s) fun u => inVote u = [1, 2] ∧ leafSt u 0 = 1 ∧
      fld u Reg.LEAF_STAT 17 16 = 2 ∧ Queued 0x0510 1 u ∧
      fld u (Reg.LEAF_FAILCNT 0) 31 16 = min (fld s (Reg.LEAF_FAILCNT 0) 31 16 + 1) 0xFFFF) ∧
    (widerReset s = true → Ends (exec (.tumblerMismatch true false false) s) fun u => inVote u = [0, 1, 2] ∧
      fld u Reg.SYS_RSTCAUSE 7 7 = 1 ∧ Queued 0x0510 1 u ∧
      fld u (Reg.LEAF_FAILCNT 0) 31 16 = min (fld s (Reg.LEAF_FAILCNT 0) 31 16 + 1) 0xFFFF)

/-- R157, R159, R161, R163, R165: a leaf out of the vote waits, loads and stands ready, the commands of LEAF, and the trap log,
whose companions a read latches. R32: inside a wider reset the restart of a leaf is discarded. Its clauses rest on the model's
own choices and readings in log entries 5, 60, 155, beside the rules. -/
def Obligations.LeafCourse : Prop :=
  ∀ (s : State) (l : LeafId) (m : Master), Roomy s →
    let n := leafNum l
    (leafSt s n = 1 → exec (.lfrComplete l) s = .next (putLeafSt n 2 s)) ∧
    (leafSt s n = 3 → exec (.rejoinLoadDone l false) s = .next (putLeafSt n 4 s) ∧
      (Ends (exec (.rejoinLoadDone l true) s) fun u => leafSt u n = 2 ∧ alGet u.leaf.loadFrom n = none ∧ Queued (0x052C + n) 0 u) ∧
      (s.spec.frame ≠ some (nextCc s + 1) → exec (.rejoinLoadDone l true) s = raised (0x052C + n) 0
        { putLeafSt n 2 s with leaf := { s.leaf with loadFrom := alDel s.leaf.loadFrom n } })) ∧
    (inVote s = [0, 1, 2] →
      (widerReset s = false → s.leaf.actHalt = false → Ends (exec (.leafRestart m l) s) fun u => leafSt u n = 1 ∧
        (inVote u).length = 2 ∧ u.answer = .done ∧ fld u Reg.LEAF_STAT 17 16 = 2) ∧
      (widerReset s = true → exec (.leafRestart m l) s = accepted (discardReset s)) ∧
      (Ends (exec (.leafQuarantine m l) s) fun u => leafSt u n = 5 ∧ (inVote u).length = 2 ∧ u.answer = .done ∧
        Queued (0x0520 + n) 1 u)) ∧
    (leafSt s n = 5 → Ends (exec (.leafRelease m l) s) fun u => leafSt u n = 2 ∧ u.answer = .done ∧
      alGet u.leaf.lastFail n = none) ∧
    (leafSt s n ≠ 5 → exec (.leafRelease m l) s = accepted s) ∧
    (alGet s.latch (masterKey m Reg.LEAF_TRAPLOG) = none → Ends (exec (.traplogRead m) s) fun u =>
      u.answer = .data (regNat s Reg.LEAF_TRAPLOG) ∧
      ∀ o ∈ [Reg.LEAF_TRAPPC, Reg.LEAF_TRAPITER, Reg.LEAF_TRAPFN], alGet u.latch (masterKey m o) = some (getReg s o))

/-- R33, R57, R156, R375: a CDR begins 3 µs after its request: open transactions end, the leaves stay as they are, and the
instances are those of the latest complete checkpoint; at its tick the leaves are in the vote, the mode comes back (STOP where
TIMSTAT forbids RUN) and the action ends. Its clauses rest on the model's own choices and readings in log entries 5, 37, 38,
47, beside the rules. -/
def Obligations.CdrCourse : Prop :=
  ∀ (s : State), Roomy s →
    (s.flt.cdr = none → exec .cdrBegin s = .next s) ∧
    (s.flt.restored = false → exec .cdrResume s = .next s) ∧
    (s.flt.cdr.isSome = true → s.flt.restored = false → s.mm.undo = [] → s.olc.installing = none → s.spec.frame = none →
      (latestBank s (restoreBase s) = none → Ends (exec .cdrBegin s) fun u => u.flt.restored = true ∧ u.frm.insts = [] ∧
        u.frm.pend = [] ∧ u.frm.resumeMode = modeStop ∧ u.raw = max s.raw (s.flt.since + 1200) ∧
        (∀ k, k < 4 → slotState u k ≠ 1) ∧ ∀ l, l < 3 → leafSt u l = leafSt s l) ∧
      (∀ b, latestBank s (restoreBase s) = some b → bankGood s (bankAt (restoreBase s) b) = true →
        Ends (exec .cdrBegin s) fun u => u.flt.restored = true ∧
          u.frm.resumeMode = memNat s (bankAt (restoreBase s) b + 0x10) 4 % 4 ∧
          u.frm.insts = (List.range 48).filterMap
            (restoreInst s (bankAt (restoreBase s) b) ((alGet s.frm.marks b).getD {})))) ∧
    (Undisturbed s → Bare s → s.flt.restored = true → s.frm.reqDue = none → s.flt.retake = false → s.frm.resumeMode ≤ 2 →
      Ends (exec .cdrResume s) fun u => u.flt.cdr = none ∧ u.flt.restored = false ∧ u.leaf.actHalt = false ∧
        curMode u = (if s.flt.toStop || flag s Reg.FRM_CFG 8 ||
          (getReg s Reg.FRM_TIMSTAT ≠ 0 && !(s.frm.resumeMode = modeHold && curMode s = modeHold)) then modeStop
          else s.frm.resumeMode) ∧
        (∀ l, l < 3 → leafSt u l = if leafSt s l = 5 then 5 else 0) ∧
        flag u Reg.FLT_STAT 0 = false ∧ flag u Reg.FLT_CUR2 0 = false)

/-- R28, R376, R444: the instructions that the TAP selects: those that leave the pads to the device, and those that take them
over, which removes every output enable in an F3 state. R444, R445: Update-DR of DBGACC: an access by M3, which acts only
while DBGACC is selected; what Capture-DR shows of IDCODE and of the latest access. Its clauses rest on the model's own
choices and readings in log entry 124, beside the rules. -/
def Obligations.DebugPort : Prop :=
  (∀ (s : State) (i : Instr) (c : Nat),
     (i, c) ∈ [(Instr.idcode, 1), (.samplePreload, 2), (.extest, 3), (.clamp, 4), (.highz, 5), (.dbgacc, 8), (.bypass, 31),
       (.testLogicReset, 1)] →
     (alive s = false → s.flt.arrived = [] → exec i s = .next { s with tap := { s.tap with ir := c } }) ∧
     (Roomy s → flag s Reg.FLT_STAT 1 = false →
       (c < 3 ∨ 5 < c → exec i s = .next (putFlag { s with tap := { s.tap with ir := c } } Reg.DBG_STAT 16 false)) ∧
       (3 ≤ c → c ≤ 5 → Ends (exec i s) fun u => u.tap.ir = c ∧ flag u Reg.DBG_STAT 16 = true ∧
         flag u Reg.FLT_STAT 1 = true ∧ fld u Reg.FLT_CUR3 31 16 = 0x5201 ∧ enabled u = false ∧ u.pads.boltOut = false ∧
         u.leaf.actHalt = true))) ∧
  (∀ s : State, (s.tap.ir = 1 → tapCapture s = 0x29192B87) ∧
     (s.tap.ir = 8 → tapCapture s = s.tap.status + s.tap.rdata.toNat * 4)) ∧
  (∀ (s : State) (a : BitVec 40) (d : BitVec 32), Roomy s → s.leaf.stepReq = false →
     let dr (op : Nat) : BitVec 80 := BitVec.ofNat 80 (op + a.toNat * 2 ^ 2 + d.toNat * 2 ^ 42)
     let ends (st : Nat) (v : Word) (s : State) : State := { s with tap := { s.tap with status := st, rdata := v } }
     (∀ op, op < 4 → s.tap.ir ≠ 8 ∨ op = 0 ∨ op = 3 → exec (.dbgaccUpdate (dr op)) s = .next s) ∧
     (s.tap.ir = 8 → a.toNat < 2 ^ 33 → a.toNat % 4 = 0 → eccAt s a.toNat = .good →
       exec (.dbgaccUpdate (dr 1)) s = .next (ends 0 (BitVec.ofNat 32 (seenNat s a.toNat 4)) s) ∧
       (standbyBars .m3 s = false → Ends (exec (.dbgaccUpdate (dr 2)) s) fun u => u.tap.status = 0 ∧
         memBytes u a.toNat 4 = leBytes 4 d.toNat)) ∧
     (s.tap.ir = 8 → targetOf a.toNat = .unmapped → ∀ op, op = 1 ∨ op = 2 →
       exec (.dbgaccUpdate (dr op)) s = .next (settleFaults (ends 2 0 (raiseBy .m3 0x01FE 0 s)))))

/-- R77, R446: HALT stops the leaves and asks for HOLD, RESUME gives the mode back, and STEP executes one instruction of the
halted instance; out of place they are refused. Its clauses rest on the model's own choices and readings in log entry 29,
beside the rules. -/
def Obligations.DebugCommands : Prop :=
  ∀ (s : State) (m : Master), Roomy s → s.leaf.stepReq = false →
    let no := refused m 0x52FF s
    (haspState s = 3 ∨ haspState s = 4 → exec (.dbgHalt m) s = no ∧ exec (.dbgResume m) s = no ∧ exec (.dbgStep m) s = no) ∧
    (haspState s ≠ 3 → haspState s ≠ 4 →
      (s.leaf.dbgHalt = false → s.flt.cdr = none → curMode s ≠ modeHold → Ends (exec (.dbgHalt m) s) fun u =>
        u.leaf.dbgHalt = true ∧ flag u Reg.DBG_STAT 0 = true ∧ fld u Reg.DBG_STAT 3 1 = 1 ∧ fld u Reg.DBG_STAT 5 4 = curMode s ∧
        (u.frm.reqDue = some modeHold ∨ u.frm.reqLate = some modeHold) ∧ Queued 0x5202 0 u ∧ u.answer = .done) ∧
      (s.leaf.dbgHalt = true → exec (.dbgHalt m) s = accepted s) ∧
      (s.leaf.dbgHalt = false → exec (.dbgResume m) s = no) ∧
      (s.leaf.dbgHalt = true → Ends (exec (.dbgResume m) s) fun u => u.leaf.resuming = true ∧ u.answer = .done ∧
        u.leaf.passBp = s.leaf.haltedInst) ∧
      (curMode s ≠ modeHold ∨ s.leaf.haltedInst = none → exec (.dbgStep m) s = no) ∧
      (curMode s = modeHold → ∀ t, s.leaf.haltedInst = some t → ∀ i, getInst s t = some i → i.st ≠ .ended → i.ctx.pc < 2 ^ 24 →
        (∀ j ∈ fetchIdx (codeWord s) i.ctx, eccAt s (codeBase s + 4 * j) = .good) →
        ∀ c, codeAct (envOf s i) i.ctx = .done c → c.rep = none → Ends (exec (.dbgStep m) s) fun u =>
          getInst u t = some { i with ctx := c, count := i.count + 1 } ∧ fld u Reg.DBG_STAT 3 1 = 4 ∧ u.answer = .done))

/-- R437, R438: a flash command is taken where it may run, and its end leaves the sector erased, or the page as PGBUF held it; a
failed one raises PROG_FAIL. Its clauses rest on the model's own choices and readings in log entries 5, 120, 121, beside the
rules. -/
def Obligations.FlashCommands : Prop :=
  ∀ (s : State) (m : Master), Roomy s →
    let a := fld s Reg.BOOT_PGADDR 28 0
    let sector := 2 ^ (s.boot.sector + 10)
    let no := refused m (noticeCode true (regBase + Reg.BOOT_PGCMD)) s
    let goes (op n : Nat) (i : Instr) : Prop :=
      ((bootState s ≠ 4 ∧ bootState s ≠ 5) ∨ flag s Reg.BOOT_PGSTAT 0 = true ∨ a % n ≠ 0 → exec i s = no) ∧
      (bootState s = 5 → flag s Reg.BOOT_PGSTAT 0 = false → a % n = 0 → a + n ≤ s.boot.density * 2 ^ 20 →
        s.boot.answers = true →
        exec i s = accepted { putFld s Reg.BOOT_PGSTAT 2 0 1 with boot := { s.boot with cmd := some (op, a) } })
    goes 1 sector (.erase m) ∧ goes 2 256 (.program m) ∧
    (∀ x, s.boot.cmd = some (1, x) → Ends (exec (.flashCommandEnd true) s) fun u => u.boot.cmd = none ∧
      fld u Reg.BOOT_PGSTAT 2 0 = 2 ∧ ∀ y, smGet flashErased u.boot.flash y =
        if x ≤ y ∧ y < x + sector then 0xFF else smGet flashErased s.boot.flash y) ∧
    (∀ x, s.boot.cmd = some (2, x) → Ends (exec (.flashCommandEnd true) s) fun u => u.boot.cmd = none ∧
      fld u Reg.BOOT_PGSTAT 2 0 = 2 ∧ ∀ y, smGet flashErased u.boot.flash y =
        if x ≤ y ∧ y < x + 256 then pageByte s (y - x) else smGet flashErased s.boot.flash y) ∧
    (∀ op x, s.boot.cmd = some (op, x) → Ends (exec (.flashCommandEnd false) s) fun u => u.boot.cmd = none ∧
      fld u Reg.BOOT_PGSTAT 2 0 = 4 ∧ Queued 0x5106 0 u)

/-- R62, R439, R441, R442, R443: the host port: doorbells trigger, signals set their causes, window B takes its base, and the
link comes up and goes down. Its clauses rest on the model's own choices and readings in log entries 5, 14, 122, beside the
rules. -/
def Obligations.HostPortCommands : Prop :=
  ∀ (s : State) (m : Master) (v : Word), Runs s →
    (∀ e k, haspState s = 0 → s.frm.ticking = true → s.leaf.actHalt = false → curMode s = modeHold → e < 16 → k < 16 →
      taskEn s (32 + e) = true → fld s (Reg.FRM_EVTSRC e) 15 12 = 5 → fld s (Reg.FRM_EVTSRC e) 11 0 = k → v.getLsbD k = true →
      Ends (exec (.doorbell m v) s) fun u => 32 + e ∈ u.frm.pend ∧ u.answer = .done) ∧
    (s.frm.ticking = false → exec (.doorbell m v) s = accepted s) ∧
    (Ends (exec (.signal m v) s) fun u => u.answer = .done ∧ ∀ k, k < 16 →
      flag u Reg.HOST_CAUSE_HI (8 + k) = (flag s Reg.HOST_CAUSE_HI (8 + k) || v.getLsbD k)) ∧
    (∀ r ix, regRow? Reg.HOST_WINB_HI = some (r, ix) →
      let lo := ((alGet s.low (masterKey m Reg.HOST_WINB_LO)).map (·.toNat)).getD (regNat s Reg.HOST_WINB_LO)
      let b := lo + (v.toNat &&& r.rw) * 2 ^ 32
      (winbOk b = true → Ends (exec (.windowBBaseWrite m v) s) fun u => pair u Reg.HOST_WINB_LO = b ∧ u.answer = .done ∧
        alGet u.low (masterKey m Reg.HOST_WINB_LO) = none) ∧
      (winbOk b = false → exec (.windowBBaseWrite m v) s = refused m (noticeCode true (regBase + Reg.HOST_WINB_HI)) s)) ∧
    (∀ x y, exec (.linkUp x y) s = .next (putFld (putFld (putFlag s Reg.HOST_STAT 0 true) Reg.HOST_STAT 3 2 x) Reg.HOST_STAT 5 4 y)) ∧
    (flag s Reg.HOST_STAT 0 = true → exec .linkDown s = raised 0x5001 0 (resetPort s)) ∧
    (flag s Reg.HOST_STAT 0 = false → exec .linkDown s = .next s) ∧
    (∀ b, exec (.portReset b) s = raised 0x5002 0 (resetPort s)) ∧
    (regNat (resetPort s) Reg.HOST_STAT = 0 ∧ regNat (resetPort s) Reg.HOST_CFG = 0 ∧ pair (resetPort s) Reg.HOST_WINB_LO = 0 ∧
      pair (resetPort s) Reg.HOST_PBA_LO = 0 ∧ ∀ k, k < 64 → flag (resetPort s) (Reg.HOST_MSIX k + 0xC) 0 = true)

/-- R302, R305, R306, R311, R312, R315, R316, R318: what the events of a digital channel and its bank leave: the status bit, and
the fault once on its setting, with the bank's latest fault; and the switch by the table of R310, whose latest change holds the
readback comparison off. Its clauses rest on the model's own choices and readings in log entries 5, 94, 98, 99, beside the
rules. -/
def Obligations.DigitalChannelEvents : Prop :=
  ∀ (s : State) (ch b : Nat) (m : Master), Roomy s → ch < 192 → b < 12 →
    let st := dioStat ch
    let meas := Reg.DIO_CH_MEAS (ch / 16) (ch % 16)
    let last (v : State) (k code c : Nat) : State :=
      putNat v (Reg.DIO_BANK_LASTEV k) (fnum s % 2 ^ 16 * 2 ^ 16 + code % 256 * 2 ^ 8 + c)
    let faults (code cls : Nat) (v : State) : Out := raised code cls (last v (ch / 16) code (ch % 16))
    let bank (code cls : Nat) (v : State) (o : Out) : Prop :=
      ∃ c, c < 16 ∧ o = raised code cls (last { v with free := s.free + 1 } b code c)
    let switched (v : State) (on : Bool) : State :=
      if flag v st 2 = on then v else putFlag (putDio v ch { dioCh v ch with swAt := some v.raw }) st 2 on
    (∀ lv, (dioCh s ch).level ≠ lv → Ends (exec (.rawTransition ch lv) s) fun u =>
      (dioCh u ch).level = lv ∧ (dioCh u ch).rawAt = now s) ∧
    (∀ lv, (dioCh s ch).level = lv → exec (.rawTransition ch lv) s = .next s) ∧
    (∀ k, Untriggered s → filtSteps s ch = some k →
      let lv := (dioCh s ch).level
      let t := ((dioCh s ch).filtAt / filtPeriod s ch + k) * filtPeriod s ch
      let sel := fld s (dioCfg ch) 5 4
      Ends (exec (.filteredEdge ch) s) fun u => flag u st 1 = lv ∧ pair u (dioFiltT ch) = t % 2 ^ 64 ∧
        pair u (dioRawT ch) = (dioCh s ch).rawAt % 2 ^ 64 ∧ u.raw = max s.raw (rawAt s t) ∧
        (sel = 0 ∨ (sel = 1 ∧ lv = true) ∨ (sel = 2 ∧ lv = false) →
          getReg u (dioEdgeCnt ch) = getReg s (dioEdgeCnt ch) + 1) ∧
        ((sel = 1 ∧ lv = false) ∨ (sel = 2 ∧ lv = true) → getReg u (dioEdgeCnt ch) = getReg s (dioEdgeCnt ch))) ∧
    (∀ w, w = now s / chatWin s ch * chatWin s ch → (dioCh s ch).chatAt < w → w ≤ (dioCh s ch).chatAt + chatWin s ch →
      rawAt s ((dioCh s ch).chatAt + chatWin s ch) ≤ s.raw →
      let v := putDio s ch { dioCh s ch with chat := 0, chatAt := w, part := false }
      exec (.chatterWindowEnd ch) s =
        .next (if !(dioCh s ch).part && (dioCh s ch).chat ≤ fld s (dioDiag ch) 31 16 then putFlag v st 12 false else v)) ∧
    (0 < fld s (dioDiag ch) 15 0 → flag s st 1 = true → (dioCh s ch).level = true → flag s st 11 = false →
      Ends (exec (.stuckActive ch) s) fun u => flag u st 11 = true ∧ Queued 0x3005 0 u ∧
        u.raw = max s.raw (rawAt s (pair s (dioFiltT ch) + fld s (dioDiag ch) 15 0 * 100000000))) ∧
    (enabled s = true → flag s (dioCfg ch) 6 = true → flag s st 1 = false →
      exec (.wireBreak ch) s = if flag s st 13 then .next s else faults 0x3004 0 (putFlag s st 13 true)) ∧
    (exec (.wireBreakClear ch) s = .next (if enabled s then putFlag s st 13 false else s)) ∧
    (∀ ma, flag s st 2 = true →
      let v := putFlag (putFld s meas 31 16 ma) st 7 true
      exec (.currentLimit ch ma) s = if (dioCh s ch).limiting then .next v
        else faults 0x3001 0 (putDio v ch { dioCh s ch with limiting := true })) ∧
    ((dioCh s ch).limiting = true →
      exec (.limitingEpisodeEnd ch) s = .next (putDio (putFlag s st 7 false) ch { dioCh s ch with limiting := false })) ∧
    (flag s st 8 = false →
      let v := putFld (putFlag s st 8 true) meas 15 8 (175 + 64)
      exec (.thermalShutdown ch) s =
        faults 0x3002 1 (switched (if flag s (dioCfg ch) 11 then putFlag v st 9 true else v) false)) ∧
    (flag s st 8 = true → exec (.thermalCool ch) s = .next (switched (putFld (putFlag s st 8 false) meas 15 8 (160 + 64))
      (enabled s && !flag s st 9 && isDo s ch && flag s st 3))) ∧
    (exec (.tlatchClear m ch) s = accepted (switched (putNat s st (regNat s st &&& 0xFFFFFDFF))
      (enabled s && !flag s st 8 && isDo s ch && flag s st 3))) ∧
    (now s ≤ (dioCh s ch).filtAt → switchSettled s ch = true → dioMode s ch = 4 → enabled s = true →
      flag s (bankStat (ch / 16)) 15 = false →
      flag s st 8 = false → flag s st 7 = false →
      (flag s st 1 ≠ flag s st 2 → flag s st 10 = false → exec (.rbMismatch ch) s = faults 0x3003 1 (putFlag s st 10 true)) ∧
      (flag s st 1 = flag s st 2 → exec (.rbMismatch ch) s = .next s ∧ exec (.rbmisClear ch) s = .next (putFlag s st 10 false))) ∧
    (∀ i, 600 < i → let v := putFld s (bankStat b) 31 16 i
      (flag s (bankStat b) 14 = true → exec (.bankOverload b i) s = .next v) ∧
      (flag s (bankStat b) 14 = false → bank 0x3008 0 (putFlag v (bankStat b) 14 true) (exec (.bankOverload b i) s))) ∧
    (∀ i, i < 600 → exec (.overloadClear b i) s = .next (putFlag (putFld s (bankStat b) 31 16 i) (bankStat b) 14 false)) ∧
    (∀ x, x < 1700 → let v := putFld s (bankStat b) 11 0 x
      (flag s (bankStat b) 15 = true → exec (.lpLow b x) s = .next v) ∧
      (flag s (bankStat b) 15 = false → bank 0x3007 1 (putFlag v (bankStat b) 15 true) (exec (.lpLow b x) s))) ∧
    (∀ x, 1800 < x → exec (.lpLowClear b x) s = .next (putFlag (putFld s (bankStat b) 11 0 x) (bankStat b) 15 false)) ∧
    (now s ≤ (dioCh s ch).filtAt → alGet s.latch (masterKey m (dioEdgeCnt ch)) = none →
      Ends (exec (.edgecntRead m ch) s) fun u => u.answer = .data (regNat s (dioEdgeCnt ch)) ∧ (∀ o, getReg u o = getReg s o) ∧
        ∀ o ∈ [dioRawT ch, dioRawT ch + 4, dioFiltT ch, dioFiltT ch + 4], alGet u.latch (masterKey m o) = some (getReg s o))

/-- R327, R328, R329, R331, R333, R338, R340: what the events of a loop output and its group leave: the status bit, the fault
once on its setting, with the group's latest fault, and what the channel then drives. Its clauses rest on the model's own
choices and readings in log entries 5, 98, 99, 168, beside the rules. -/
def Obligations.LoopOutputEvents : Prop :=
  ∀ (s : State) (ch g : Nat) (m : Master), Roomy s → ch < 48 → g < 6 →
    let st := aoStat ch
    let faults (code : Nat) (v : State) : Out := raised code 1
      (putNat v (Reg.AO_GRP_LASTEV (ch / 8)) (fnum s % 2 ^ 16 * 2 ^ 16 + code % 256 * 2 ^ 8 + ch % 8))
    (enabled s = true → flag s st 4 = false → flag s st 5 = false → flag s st 6 = false →
      ((aoMode s ch = 1 ∨ aoMode s ch = 2) → flag s st 9 = false →
        exec (.noCompliance ch) s = faults 0x3102 (refreshAo (putFlag s st 5 true) ch) ∧
        exec (.openLoop ch) s = if mA ≤ aoTarget s ch then faults 0x3103 (putFlag s st 6 true) else .next s) ∧
      (aoMode s ch ≠ 0 → (∀ t, (aoCh s ch).curAt = some t → t + 80000 ≤ s.raw) →
        exec (.aoRbMismatch ch) s = (if flag s st 7 then .next s else faults 0x3101 (putFlag s st 7 true)) ∧
        exec (.aoRbmisClear ch) s = .next (putFlag s st 7 false))) ∧
    exec (.nocompClear ch) s = .next (if flag s st 5 then refreshAo (putFlag s st 5 false) ch else s) ∧
    exec (.openLoopClear ch) s = .next (putFlag s st 6 false) ∧
    (∀ c, let v := putFld (refreshAo (putAo s ch { aoCh s ch with ceiling := some c }) ch) (Reg.AO_CH_MEAS ch) 15 8 (150 + 64)
      exec (.thermalFoldback ch c) s = (if flag s st 4 then .next v else faults 0x3104 (putFlag v st 4 true)) ∧
      fld v (Reg.AO_CH_CUR ch) 19 0 = min (aoRowCode s ch) (aoCode (c * mA / 1000000)) % 2 ^ 20) ∧
    (flag s st 4 = true → let v := refreshAo (putFlag (putAo s ch { aoCh s ch with ceiling := none }) st 4 false) ch
      exec (.foldbackEnd ch) s = .next v ∧ fld v (Reg.AO_CH_CUR ch) 19 0 = aoRowCode s ch % 2 ^ 20) ∧
    (flag s (Reg.AO_GRP_STAT g) 0 = false → Ends (exec (.groupSupply g) s) fun u => flag u (Reg.AO_GRP_STAT g) 0 = true ∧
      Queued 0x3105 1 u ∧ fld u (Reg.AO_GRP_LASTEV g) 15 8 = 0x05 ∧
      ∀ i, i < 8 → flag u (aoStat (8 * g + i)) 9 = true ∧ fld u (Reg.AO_CH_RB (8 * g + i)) 24 0 = 0) ∧
    (flag s (Reg.AO_GRP_STAT g) 0 = true → Ends (exec (.groupResume g) s) fun u => flag u (Reg.AO_GRP_STAT g) 0 = false ∧
      u.flt = s.flt ∧ ∀ i, i < 8 → flag u (aoStat (8 * g + i)) 9 = false) ∧
    (alGet s.latch (masterKey m (Reg.AO_CH_RB ch)) = none → (aoCh s ch).convAt = some (s.raw / 4000) →
      Ends (exec (.readbackRead m ch) s) fun u => u.answer = .data (regNat s (Reg.AO_CH_RB ch)) ∧ (∀ o, getReg u o = getReg s o) ∧
        ∀ o ∈ [Reg.AO_CH_MEAS ch, Reg.AO_CH_VSUP ch], alGet u.latch (masterKey m o) = some (getReg s o))

/-- R342, R344, R345, R346, R347, R348, R349, R352, R354, R355: the calendar's second, its halt and its start, its layouts and
its setting, the snapshot, the crystal, the correction and VBAT; a halt asked for while the crystal is stopped waits for its
next edge. Its clauses rest on the model's own choices and readings in log entries 5, 102, 103, 104, 105, 106, beside the
rules. -/
def Obligations.CalendarEvents : Prop :=
  ∀ (s : State) (m : Master) (v : Word), Roomy s →
    let r := s.rtc
    let next := if r.sec = 12622780799 then 0 else r.sec + 1
    let no := refused m 0x21FF s
    let fmt := flag s Reg.RTC_CTL 1
    let halted := flag s Reg.RTC_CTL 0
    (halted = true → exec .secondStep s = .next s) ∧
    (halted = false → r.haltDue = false → Untriggered s → Ends (exec .secondStep s) fun u => u.rtc.sec = next ∧ u.rtc.sub = 0 ∧
      (r.sec = 12622780799 → flag u Reg.RTC_STAT 3 = true ∧ Queued 0x2104 0 u) ∧
      (flag s Reg.RTC_ALM_HI 31 = true → regNat s Reg.RTC_ALM_LO + fld s Reg.RTC_ALM_HI 15 0 * 2 ^ 32 = next →
        flag u Reg.RTC_STAT 2 = true) ∧
      (flag s Reg.RTC_ALM_HI 31 = false → flag u Reg.RTC_STAT 2 = flag s Reg.RTC_STAT 2)) ∧
    (v.getLsbD 1 = fmt → v.getLsbD 0 = true → flag s Reg.RTC_ALM_HI 31 = false → r.sub < 32768 →
      (halted = true ∨ r.stopped = false) → Ends (exec (.rtcHalt m v) s) fun u => u.answer = .done ∧ flag u Reg.RTC_CTL 0 = true ∧
        (u.rtc.sec = r.sec ∧ r.sub ≤ u.rtc.sub ∧ u.rtc.sub ≤ r.sub + 2048 ∨ u.rtc.sec = next ∧ u.rtc.sub = 0) ∧
        (halted = true → u.rtc = r)) ∧
    (v.getLsbD 1 = fmt → v.getLsbD 0 = true → halted = false → r.stopped = true → Ends (exec (.rtcHalt m v) s) fun u =>
      u.answer = .done ∧ flag u Reg.RTC_CTL 0 = false ∧ u.rtc = { r with haltDue := true }) ∧
    (halted = false → r.haltDue = true → r.sub + 1 < 32768 → ∀ i, i = Instr.secondStep ∨ i = .rtcCorrection →
      exec i s = .next (putFlag { s with rtc := { r with stopped := false, haltDue := false, sub := r.sub + 1 } } Reg.RTC_CTL 0
        true)) ∧
    (halted = true → v.getLsbD 0 = false →
      let w := putFlag s Reg.RTC_CTL 1 (v.getLsbD 1)
      exec (.rtcRun m v) s = if r.raw = none ∧ r.sec ≤ 12622780799
        then accepted (putFlag (putFlag w Reg.RTC_CTL 0 false) Reg.RTC_STAT 1 false)
        else told m 0x2102 0 (putFlag w Reg.RTC_STAT 1 true)) ∧
    (halted = false → v.getLsbD 1 ≠ fmt → exec (.rtcFormatWrite m v) s = no ∧ exec (.rtcHalt m v) s = no) ∧
    (halted = true → v.getLsbD 0 = true → exec (.rtcFormatWrite m v) s = accepted (putFlag s Reg.RTC_CTL 1 (v.getLsbD 1))) ∧
    (∀ hi, halted = false → exec (.rtcClockWrite m hi v) s = no) ∧
    (halted = true → fmt = false →
      exec (.rtcClockWrite m false v) s =
        accepted { s with rtc := { r with sec := r.sec / 2 ^ 32 * 2 ^ 32 + v.toNat, raw := none, sub := 0 } } ∧
      exec (.rtcClockWrite m true v) s =
        accepted { s with rtc := { r with sec := r.sec % 2 ^ 32 + v.toNat % 2 ^ 16 * 2 ^ 32, raw := none, sub := 0 } }) ∧
    (∀ a b hi, halted = true → fmt = true → r.raw = some (a, b) →
      let c0 := if hi then a.toNat else v.toNat &&& 0x003F7F7F
      let c1 := if hi then v.toNat &&& 0xFFFF1F3F else b.toNat
      exec (.rtcClockWrite m hi v) s = match bcdCount c0 c1 with
        | some n => accepted { s with rtc := { r with sec := n, raw := none, sub := 0 } }
        | none => accepted { s with rtc := { r with raw := some (BitVec.ofNat 32 c0, BitVec.ofNat 32 c1), sub := 0 } }) ∧
    (alGet s.latch (masterKey m Reg.RTC_SNAP) = none → Ends (exec (.rtcSnap m) s) fun u =>
      u.answer = .data (u.rtc.sub % 2 ^ 32) ∧ alGet u.rtc.snaps (Master.num m) = some (r.sec, r.raw) ∧ u.rtc.sec = r.sec ∧
      r.sub ≤ u.rtc.sub ∧ (halted = true → u.rtc.sub = r.sub)) ∧
    (r.stopped = true → exec .oscStop s = .next s) ∧
    (r.stopped = false → Ends (exec .oscStop s) fun u => Queued 0x2101 1 u ∧ flag u Reg.RTC_STAT 0 = true ∧
      u.rtc = { r with stopped := true, sub := u.rtc.sub } ∧ r.sub ≤ u.rtc.sub ∧ u.rtc.sub < (r.sub / 2048 + 1) * 2048 ∧
      (halted = true → u.rtc.sub = r.sub)) ∧
    (∀ t : Int, -32768 ≤ t → t < 32768 →
      let x := r.trim * 50 - curveAt r.curve t
      Ends (exec (.rtcTempSample t) s) fun u =>
        let c := (BitVec.ofNat 16 (fld u Reg.RTC_TEMP 31 16)).toInt
        (BitVec.ofNat 16 (fld u Reg.RTC_TEMP 15 0)).toInt = t ∧
        (-32767 * 50 ≤ x → x ≤ 32767 * 50 → -50 < 50 * c - x ∧ 50 * c - x < 50 ∧ flag u Reg.RTC_STAT 6 = false) ∧
        (32767 * 50 < x → c = 32767 ∧ flag u Reg.RTC_STAT 6 = true) ∧
        (x < -32767 * 50 → c = -32767 ∧ flag u Reg.RTC_STAT 6 = true)) ∧
    (let a := r.acc + (BitVec.ofNat 16 (fld s Reg.RTC_TEMP 31 16)).toInt * 2048
      let b := (r.sub / 2048 + 1) * 2048
      (halted = true → exec .rtcCorrection s = .next s) ∧
      (halted = false → r.haltDue = false → exec .rtcCorrection s = .next { s with rtc := { r with
        stopped := false, acc := if 10 ^ 8 ≤ a then a - 10 ^ 8 else if a ≤ -10 ^ 8 then a + 10 ^ 8 else a,
        sub := if b < 32768 then b else r.sub } })) ∧
    (∀ x, x < 2000 → exec (.vbatCheck x) s =
      if flag s Reg.RTC_STAT 5 then .next s else raised 0x2105 0 (putFlag s Reg.RTC_STAT 5 true)) ∧
    (∀ x, 2100 < x → exec (.vbatCheck x) s = .next (putFlag s Reg.RTC_STAT 5 false)) ∧
    (∀ x, 2000 ≤ x → x ≤ 2100 → exec (.vbatCheck x) s = .next s)

/-- R360, R363, R365: a check-in is judged by the first row of R360 that holds. -/
def Obligations.CheckinJudged : Prop :=
  ∀ (s : State) (m : Master) (v : Word), Roomy s →
    let k := { s with ward := { s.ward with key := none } }
    let slot := bits v.toNat 12 8
    let st := wardState s
    let counts (hi lo : Nat) : State := bump k Reg.WARD_DIAGCNT hi lo
    let done := putFlag k Reg.WARD_DONE slot true
    let all := getReg done Reg.WARD_DONE &&& s.ward.enrol = s.ward.enrol
    (st = 0 ∨ st = 3 ∨ st = 4 → exec (.checkin m v) s = accepted k) ∧
    (st = 1 → m ≠ .m0 → exec (.checkin m v) s = told m 0x4005 1 (counts 23 16)) ∧
    ((st = 1 ∧ m = .m0) ∨ st = 2 →
      (s.ward.enrol.getLsbD slot = false → exec (.checkin m v) s = told m 0x4007 0 k) ∧
      (s.ward.enrol.getLsbD slot = true →
        let early := st = 2 ∧ opening s = false ∧ wardPos s < s.ward.wopen
        let class' := 2 + fld s Reg.WARD_CFG 0 0
        (early → exec (.checkin m v) s = told m 0x4002 class' (counts 7 0)) ∧
        (¬ early → s.ward.period ≤ wardPos s → exec (.checkin m v) s = accepted k) ∧
        (¬ early → wardPos s < s.ward.period →
          (v.toNat % 256 ≠ regNat s Reg.WARD_PCNT % 256 → exec (.checkin m v) s = told m 0x4006 0 (counts 15 8)) ∧
          (v.toNat % 256 = regNat s Reg.WARD_PCNT % 256 →
            (flag s Reg.WARD_DONE slot = true → exec (.checkin m v) s =
              if flag s Reg.WARD_CFG 2 then told m 0x4004 1 (counts 31 24) else accepted (counts 31 24)) ∧
            (flag s Reg.WARD_DONE slot = false →
              (¬ all → exec (.checkin m v) s = accepted done) ∧
              (all → st = 1 → exec (.checkin m v) s = accepted { done with ward := { k.ward with served := true } }) ∧
              (all → st = 2 → opening s = true ∨ 2 ≤ wardReason s ∨ curMode s ≠ modeRun → exec (.checkin m v) s =
                accepted { done with ward := { k.ward with served := true } }) ∧
              (all → st = 2 → opening s = false → wardReason s < 2 → curMode s = modeRun → exec (.checkin m v) s =
                accepted (putFld { done with ward := { k.ward with served := true } } Reg.WARD_STAT 2 0 1)))))))

/-- R359, R361, R363, R366, R368, R369, R371, R442: an expiry and a pre-warning, and the writes that command the ward. Its clauses
rest on the model's own choices and readings in log entries 5, 107, beside the rules. -/
def Obligations.WardCommands : Prop :=
  ∀ (s : State) (m : Master) (v : Word), Roomy s →
    let k := { s with ward := { s.ward with key := none } }
    let st := wardState s
    let no := refused m 0x40FF k
    let locked := flag s Reg.WARD_LOCK 0
    let t := v.toNat % 2 ^ 24
    let keyed (x : Option (Nat × Master × Nat)) : Out := accepted { s with ward := { s.ward with key := x } }
    (s.ward.counting = true → st = 1 ∨ st = 2 → s.ward.served = false →
      (wardPos s ≤ s.ward.period → s.ward.period < 2 ^ 24 → s.frm.ticking = true → flag s Reg.FLT_STAT 0 = false →
        flag s Reg.FLT_STAT 1 = false → Ends (exec .periodExpiry s) fun u =>
          getReg u Reg.WARD_MISSED = s.ward.enrol &&& ~~~ getReg s Reg.WARD_DONE ∧ wardPos u = s.ward.period ∧ wardState u = 4 ∧
          fld u Reg.WARD_DIAGCNT 7 0 = min (fld s Reg.WARD_DIAGCNT 7 0 + 1) 255 ∧ u.leaf.actHalt = true ∧
          (flag s Reg.WARD_CFG 0 = false → flag u Reg.FLT_STAT 0 = true ∧ Queued 0x4001 2 u) ∧
          (flag s Reg.WARD_CFG 0 = true → flag u Reg.FLT_STAT 1 = true ∧ Queued 0x4001 3 u)) ∧
      (s.ward.warned = false → s.ward.prewarn ≠ 0 → Untriggered s → Ends (exec .prewarn s) fun u => u.ward.warned = true ∧
        flag u Reg.HOST_CAUSE_LO 13 = true ∧ Queued 0x4003 0 u ∧ u.raw = max s.raw (wardRaw s (s.ward.period - s.ward.prewarn))) ∧
      (s.ward.warned = true ∨ s.ward.prewarn = 0 → exec .prewarn s = .next s)) ∧
    (st = 0 ∨ st = 3 ∨ st = 4 → exec .periodExpiry s = .next s ∧ exec .prewarn s = .next s ∧ exec (.wardTest m) s = no) ∧
    (v.toNat % 256 = 0x3C → exec (.wardKey m v) s = keyed (some (1, m, s.raw))) ∧
    (∀ x, v.toNat % 256 = 0xC3 → s.ward.key = some (1, m, x) → s.raw ≤ x + 64 →
      exec (.wardKey m v) s = keyed (some (2, m, s.raw))) ∧
    (v.toNat % 256 ≠ 0x3C → v.toNat % 256 ≠ 0xC3 → exec (.wardKey m v) s = accepted k) ∧
    (∀ x, s.ward.key = some (2, m, x) → s.raw ≤ x + 64 → locked = false →
      exec (.wardDisable m) s = told m 0x4008 0 (putFld k Reg.WARD_STAT 2 0 0)) ∧
    (locked = true ∨ s.ward.key = none → exec (.wardDisable m) s = no) ∧
    (st ≠ 0 → exec (.wardEnable m) s = no) ∧
    (st = 0 → flag s Reg.FLT_STAT 0 = true ∨ flag s Reg.FLT_STAT 1 = true →
      exec (.wardEnable m) s = accepted (putFld k Reg.WARD_STAT 2 0 4)) ∧
    (st = 0 → flag s Reg.FLT_STAT 0 = false → flag s Reg.FLT_STAT 1 = false → freezes s = false →
      Ends (exec (.wardEnable m) s) fun u => wardState u = 2 ∧ wardReason u = 0 ∧ opening u = true ∧ wardPos u = 0 ∧
        getReg u Reg.WARD_DONE = 0 ∧ getReg u Reg.WARD_PCNT = getReg s Reg.WARD_PCNT + 1 ∧
        u.ward.period = regNat s Reg.WARD_PERIOD ∧ u.ward.served = false ∧ u.answer = .done) ∧
    (st = 1 → exec (.wardTest m) s =
      accepted (putFlag (putFld (putFld k Reg.WARD_STAT 2 0 2) Reg.WARD_STAT 5 4 2) Reg.WARD_STAT 6 true)) ∧
    (st = 2 → exec (.wardTest m) s = accepted (putFld k Reg.WARD_STAT 5 4 2)) ∧
    (st ≠ 2 ∨ wardReason s ≠ 2 → exec (.wardNormal m) s = no) ∧
    (st = 2 → wardReason s = 2 → Ends (exec (.wardNormal m) s) fun u => wardState u = 1 ∧ opening u = false ∧ wardPos u = 0 ∧
      getReg u Reg.WARD_DONE = 0 ∧ getReg u Reg.WARD_PCNT = getReg s Reg.WARD_PCNT + 1 ∧ u.answer = .done) ∧
    (exec (.wardLock m v) s = accepted (if v.getLsbD 0 then putFlag k Reg.WARD_LOCK 0 true else k)) ∧
    (let bad := t ≤ regNat s Reg.WARD_WOPEN ∨ t ≤ regNat s Reg.WARD_PREWARN ∨ (flag s Reg.WARD_CFG 3 = true ∧ wardPos s < s.ward.wopen)
     (bad → exec (.wardPeriodWrite m v) s = no) ∧
     (¬ bad → exec (.wardPeriodWrite m v) s = accepted (putNat k Reg.WARD_PERIOD t)))

/-- R373 to R378, R380: what taking a fault enters, counts and begins, by its class, and the commands of FLT. R130, R141: the
report of a ledger error discards the run-ahead work, as an F0 fault that is raised once per frame. R239: that of spare blocks
leaves less than 10 percent. Its clauses rest on the model's own choices and readings in log entries 11, 12, 13, 16, 147,
beside the rules. -/
def Obligations.FaultsTaken : Prop :=
  ∀ (s : State) (code : BitVec 16) (cls : Fin 4) (mas : BitVec 4) (m : Master), Roomy s → code ∉ [(0x0120 : BitVec 16), 0x0403, 0x0713] →
    let c := code.toNat
    let e := fltEntry c cls.val false mas s
    let report := exec (.faultReport code cls mas) s
    let halts (u : State) : Prop := u.leaf.actHalt = true ∧ u.frm.running = none ∧ u.frm.compute = false ∧
      u.frm.pendingCommit = none ∧ (wardState s ≠ 0 → wardState u = 4) ∧ (wardState s = 0 → wardState u = 0)
    (cls.val ≤ 1 → matchSources c s = [] → Ends report fun u => Faulted c cls.val s u ∧
      regNat u (Reg.FLT_CNT cls.val) = min (regNat s (Reg.FLT_CNT cls.val) + 1) (2 ^ 32 - 1) ∧
      (∀ n, s.flt.queue.getLast? = some n → n.code = code → n.cls = cls →
        u.flt.queue = s.flt.queue.dropLast ++ [{ n with rep := min 255 (n.rep + 1) }]) ∧
      ((∀ n, s.flt.queue.getLast? = some n → n.code ≠ code ∨ n.cls ≠ cls) → u.flt.queue = s.flt.queue ++ [e])) ∧
    (flag s Reg.FLT_STAT 1 = false →
      (cls.val = 2 → s.frm.ticking = true → flag s Reg.FLT_STAT 0 = false → Ends report fun u => halts u ∧ Queued c 2 u ∧
        flag u Reg.FLT_STAT 0 = true ∧ regNat u Reg.FLT_CUR2 = c * 2 ^ 16 + 1 ∧ u.flt.cdr = some (instep s) ∧ u.flt.since = s.raw ∧
        (instep s = false → ∀ n, n < 48 → (aoCh u n).fail = true)) ∧
      (cls.val = 3 ∨ (cls.val = 2 ∧ s.frm.ticking = true ∧ flag s Reg.FLT_STAT 0 = true) → Ends report fun u => halts u ∧
        Queued c 3 u ∧ flag u Reg.FLT_STAT 1 = true ∧ flag u Reg.FLT_STAT 0 = false ∧ fld u Reg.FLT_CUR3 31 16 = c ∧
        u.pads.boltOut = false ∧ enabled u = false ∧ u.flt.cdr = none)) ∧
    (0x0403 ∈ s.spec.raised → exec (.faultReport 0x0403 cls mas) s = .next (specDiscard s)) ∧
    (matchSources 0x0403 s = [] → 0x0403 ∉ s.spec.raised →
      Ends (exec (.faultReport 0x0403 cls mas) s) fun u =>
        Faulted 0x0403 0 { specDiscard s with spec := { (specDiscard s).spec with raised := 0x0403 :: s.spec.raised } } u ∧
        ∀ n, s.spec.frame = some n → s.spec.barred ≠ some n → fnum s < n → u.spec.work = [] ∧ u.spec.barred = some n ∧
          regNat u Reg.SPEC_DISCARDS = min (regNat s Reg.SPEC_DISCARDS + 1) (2 ^ 32 - 1)) ∧
    (Ends (exec (.faultReport 0x0713 1 mas) s) fun u => regNat u Reg.RET_SPARE < 10 ∧ Queued 0x0713 1 u) ∧
    (flag s Reg.FLT_STAT 1 = true → Ends report fun u => Queued c cls.val u ∧ u.leaf = s.leaf ∧ u.frm = s.frm ∧ u.pads = s.pads) ∧
    exec (.fltPop m) s = accepted { s with flt := { s.flt with queue := s.flt.queue.drop 1 } } ∧
    (Ends (exec (.fltClear m) s) fun u => u.flt.queue = [] ∧ regNat u Reg.FLT_LOST = 0 ∧ u.answer = .done ∧
      ∀ i, i < 4 → regNat u (Reg.FLT_CNT i) = 0) ∧
    (∀ b, flag s Reg.FLT_STAT 1 = false → Ends (exec (.fltRelease m b) s) fun u => u.answer = .done ∧
      { u with flt := s.flt, answer := s.answer } = s) ∧
    (∀ b, flag s Reg.FLT_STAT 1 = true → flag s Reg.FLT_CUR3 1 = false → Ends (exec (.fltRelease m b) s) fun u =>
      u.answer = .error ∧ flag u Reg.FLT_STAT 1 = true ∧ u.flt.cdr = s.flt.cdr ∧ Queued 0x01FF 0 u) ∧
    (∀ b, flag s Reg.FLT_STAT 1 = true → flag s Reg.FLT_CUR3 1 = true → s.flt.held = none →
      Ends (exec (.fltRelease m b) s) fun u => u.answer = .done ∧ flag u Reg.FLT_STAT 1 = false ∧ regNat u Reg.FLT_CUR3 = 0 ∧
        u.flt.cdr = some false ∧ u.flt.toStop = true ∧ u.flt.since = s.raw ∧ u.leaf.actHalt = s.leaf.actHalt) ∧
    (∀ h r, s.flt.queue = h :: r → alGet s.latch (masterKey m Reg.FLT_HEAD_CODE) = none → h.rep < 256 →
      Ends (exec (.headCodeRead m) s) fun u => u.flt.queue = s.flt.queue ∧
        u.answer = .data (h.code.toNat * 2 ^ 16 + h.cls.val * 2 ^ 14 + (if h.esc then 2 ^ 13 else 0) + 2 ^ 12 +
          h.master.toNat * 2 ^ 8 + h.rep) ∧
        alGet u.latch (masterKey m Reg.FLT_HEAD_FNUM) = some (BitVec.ofNat 32 h.fnum) ∧
        alGet u.latch (masterKey m Reg.FLT_HEAD_TIME_LO) = some (BitVec.ofNat 32 h.time) ∧
        alGet u.latch (masterKey m Reg.FLT_HEAD_TIME_HI) = some (BitVec.ofNat 32 (h.time / 2 ^ 32)))

/-- R274, R278, R291, R292, R295, R296, R297: samples and their loss, the pulse per second, the field counters, steps and events
of device time, and the reads that latch it. Its clauses rest on the model's own choices and readings in log entries 5, 89,
92, 93, beside the rules. -/
def Obligations.TimeEvents : Prop :=
  ∀ (s : State) (m : Master), Roomy s →
    let may := s.frm.ticking = false ∨ curMode s = modeStop
    let settime := pair s Reg.TIME_SETTIME_LO
    let t := now s
    (may → t ≤ settime → exec (.timeStep m) s = accepted { s with time := { s.time with stepCmd := true } }) ∧
    (¬ may ∨ settime < t → exec (.timeStep m) s = refused m 0x20FF s) ∧
    (∀ i, i < 16 →
      let cfg := Reg.TIME_TEV_CFG i
      let at' := pair s (Reg.TIME_TEV_AT_LO i)
      let per := regNat s (Reg.TIME_TEV_PER i) * 10
      (flag s cfg 31 = false → exec (.timeEvent i) s = .next s) ∧
      (flag s cfg 31 = true → Untriggered s → Ends (exec (.timeEvent i) s) fun u => u.raw = max s.raw (rawAt s at') ∧
        fld u cfg 15 0 = min (fld s cfg 15 0 + 1) 65535 ∧ flag u cfg 31 = decide (0 < per) ∧
        pair u (Reg.TIME_TEV_AT_LO i) = (at' + per) % 2 ^ 64)) ∧
    (alGet s.latch (masterKey m Reg.TIME_NOW_LO) = none → Ends (exec (.timeNowRead m) s) fun u =>
      u.answer = .data (t % 2 ^ 32) ∧ alGet u.latch (masterKey m Reg.TIME_NOW_HI) = some (BitVec.ofNat 32 (t / 2 ^ 32)) ∧
      alGet u.latch (masterKey m Reg.TIME_RAW_LO) = some (BitVec.ofNat 32 s.raw) ∧
      alGet u.latch (masterKey m Reg.TIME_RAW_HI) = some (BitVec.ofNat 32 (s.raw / 2 ^ 32))) ∧
    (∀ p : Fin 2, let o := Reg.TIME_MAP_RAW_LO p.val
      alGet s.latch (masterKey m o) = none → Ends (exec (.mapRead m p) s) fun u => u.answer = .data (regNat s o) ∧
        ∀ x ∈ [o + 4, o + 8, o + 0xC, o + 0x10], alGet u.latch (masterKey m x) = some (getReg s x)) ∧
    (flag s Reg.TIME_PPS 31 = true → s.pads.timeOut = false → Ends (exec .ppsOutputRise s) fun u => u.pads.timeOut = true ∧
      u.raw = max s.raw (rawAt s ((t + 999999999) / 1000000000 * 1000000000))) ∧
    (s.pads.timeOut = true → Ends (exec .ppsOutputFall s) fun u => u.pads.timeOut = false ∧
      u.raw = max s.raw (rawAt s (t / 1000000000 * 1000000000 + fld s Reg.TIME_PPS 7 0 * 1000))) ∧
    (flag s Reg.TIME_PPS 30 = false → exec .timeInEdge s = .next s) ∧
    (flag s Reg.TIME_PPS 30 = true →
      let cap := putPair s Reg.TIME_PPSCAP_LO t
      (sourceNow s ≠ 2 → exec .timeInEdge s = .next cap) ∧
      (sourceNow s = 2 → 500000 < t % 1000000000 → t % 1000000000 < 999500000 → s.time.ppsBadAt = none →
        exec .timeInEdge s = raised 0x2005 0 { cap with time := { s.time with ppsBadAt := some t } }) ∧
      (∀ (o T : Int) (l : Nat), sourceNow s = 2 → ¬ may → s.time.lastSample = some l → T = max 1 (t - l : Nat) →
        (t % 1000000000 ≤ 500000 ∧ o = (t % 1000000000 : Nat)) ∨
          (999500000 ≤ t % 1000000000 ∧ o = (t % 1000000000 : Nat) - 1000000000) →
        Ends (exec .timeInEdge s) fun u => getReg u Reg.TIME_OFFSET = BitVec.ofInt 32 o ∧
          u.time.lastSample = some t ∧ pair u Reg.TIME_PPSCAP_LO = t ∧
          ∃ di dp : Int, |di * (64 * T) - o * 2 ^ 40| < 64 * T ∧ |dp * (8 * T) - o * 2 ^ 40| < 8 * T ∧
            u.time.ratei = min 219902326 (max (-219902326) (s.time.ratei - di)) ∧
            u.time.rate = min 219902326 (max (-219902326) (u.time.ratei - dp)))) ∧
    (∀ out : BitVec 18, let w := putFld s Reg.TIME_FSTAT 17 0 out.toNat
      exec (.fieldRealign out) s =
        if out &&& ~~~ BitVec.ofNat 18 (fld s Reg.TIME_FSTAT 17 0) = 0 then .next w else raised 0x2006 1 w) ∧
    (discState s = 0 ∨ discState s = 3 → exec .sourceLost s = .next s) ∧
    (discState s = 1 ∨ discState s = 2 → sourceNow s = 1 ∨ sourceNow s = 3 → 8 ≤ s.time.ticksNoSample →
      Ends (exec .sourceLost s) fun u => discState u = 3 ∧ u.time.rate = s.time.ratei ∧ u.time.ratei = s.time.ratei ∧
        fld u Reg.TIME_EVCNT 15 0 = min (fld s Reg.TIME_EVCNT 15 0 + 1) 65535 ∧ Queued 0x2002 1 u)

/-- R283, R285, R287, R288, R289: references and echo exchanges. R260, R266: a reference or an echo that arrives takes the next
receive buffer and lowers the receive error counter. Its clauses rest on the model's own choices and readings in log entries 5,
80, 89, 90, 91, 167, beside the rules. -/
def Obligations.TimeExchanges : Prop :=
  ∀ (s : State) (n : Nat), Roomy s → n < 12 →
    let ref := Reg.TIME_LANE_REF n
    let echo := Reg.TIME_LANE_ECHO n
    let stamp (r : Nat) : Nat := timeAt s r - fld s (Reg.TIME_LANE_RXCOMP n) 9 0
    let l := lane s n
    let on := onBus s n = true ∧ s.pads.pfailB = true ∧ laneTec s n < 256
    let taken (u : State) : Prop := (lane u n).rxBuf = (!l.rxBuf) ∧
      (laneMon s n = false → laneRec s n ≤ 127 → laneRec u n = laneRec s n - 1)
    let received (v : LaneState) (o : Out) : Prop := Ends o fun u => taken u ∧ u.time = s.time ∧ { lane u n with rxBuf := l.rxBuf } = v
    (∀ won, flag s ref 31 = false ∨ s.frm.ticking = false → exec (.referenceMessage n won) s = .next s) ∧
    (∀ won, flag s ref 31 = true → fld s ref 29 28 = 0 → s.frm.ticking = true → maySend s n = true →
      Ends (exec (.referenceMessage n won) s) fun u => role u n = (if won then 1 else 2) ∧
        (won = true → (lane u n).wire = some .reference ∧ (lane u n).disc = false ∧
          (lane u n).sentStamp = some (timeAt s u.raw - fld s (Reg.TIME_LANE_RXCOMP n) 9 0)) ∧
        (won = false → (lane u n).wire = none)) ∧
    (∀ q : RefMsg, (onBus s n = false ∨ s.pads.pfailB = false ∨ q.id.toNat / 8 ≠ fld s ref 10 3 →
        exec (.referenceReception n q) s = .next s) ∧
      (on → q.id.toNat / 8 = fld s ref 10 3 → Ends (exec (.referenceReception n q) s) fun u => taken u ∧
        role u n = (if flag s ref 31 then 2 else 3) ∧ (lane u n).refStamp = some (stamp q.stamp) ∧
        (∀ p, l.refStamp = some p → flag s ref 31 = false → role s n = 3 → sourceNow s = 1 → srcLane s = n →
          fld s Reg.TIME_STAT 19 16 = 1 → q.disc = false → q.cc = false → l.echoDelay = none →
          -2147483648 ≤ (p : Int) - q.time → (p : Int) - q.time ≤ 2147483647 →
          getReg u Reg.TIME_OFFSET = BitVec.ofInt 32 ((p : Int) - q.time)))) ∧
    (∀ q : EchoMsg, onBus s n = false ∨ s.pads.pfailB = false →
      exec (.echoReq n q) s = .next s ∧ exec (.echoRsp n q) s = .next s ∧ exec (.echoRes n q) s = .next s) ∧
    (∀ q : EchoMsg, on → role s n = 2 ∨ role s n = 3 →
      (q.addr ≠ fld s echo 9 0 → received l (exec (.echoReq n q) s) ∧ received l (exec (.echoRes n q) s)) ∧
      (q.addr = fld s echo 9 0 →
        (flag s (Reg.LANE_CFG n) 27 = true → maySend s n = true → Ends (exec (.echoReq n q) s) fun u => taken u ∧
          (lane u n).wire = some (.echo q.addr) ∧ (lane u n).echoT3 = stamp s.raw % 2 ^ 32 ∧
          let b := lmmBase + n * 0x10000 + if l.txBuf then 0x5100 else 0x4800
          memNat u (b + 4) 4 = fld s echo 26 16 + 1 ∧
          memBytes u (b + 32) 16 = leBytes 2 q.addr ++ [q.seq, 0] ++ leBytes 4 0 ++ leBytes 4 (stamp q.stamp) ++ leBytes 4 l.echoT3) ∧
        (sourceNow s ≠ 1 ∨ srcLane s ≠ n →
          received { l with echoDelay := some q.w4.toNat } (exec (.echoRes n q) s)) ∧
        (sourceNow s = 1 → srcLane s = n → s.time.lastSample.isSome = true → ¬ (mayStep s = true ∧ q.w8.toInt < -stepThr s) →
          Ends (exec (.echoRes n q) s) fun u => taken u ∧ (lane u n).echoDelay = some q.w4.toNat ∧ getReg u Reg.TIME_OFFSET = q.w8))) ∧
    (l.echoNow = none → exec (.echoFail n) s = .next s ∧ (on → ∀ q, received l (exec (.echoRsp n q) s))) ∧
    (∀ j t1, l.echoNow = some (j, t1) → j < 1024 →
      (Ends (exec (.echoFail n) s) fun u => (lane u n).echoNow = none ∧
        alGet (lane u n).echoFails j = some ((alGet l.echoFails j).getD 0 + 1) ∧
        (4 ≤ (alGet l.echoFails j).getD 0 + 1 → flag u (Reg.TIME_EDLY j) 31 = false) ∧
        (alGet l.echoFailAt j = none → Queued 0x2007 0 u)) ∧
      (∀ q : EchoMsg, on → (q.addr ≠ j ∨ q.seq ≠ l.echoSeq → received l (exec (.echoRsp n q) s)) ∧
        (q.addr = j → q.seq = l.echoSeq → Ends (exec (.echoRsp n q) s) fun u => taken u ∧ (lane u n).echoNow = none ∧
          alGet (lane u n).echoPrev j = some (t1, q.w8.toNat, stamp q.stamp) ∧ alGet (lane u n).echoFails j = none ∧
          fld u (Reg.TIME_EDLY j) 30 16 = min (fld s (Reg.TIME_EDLY j) 30 16 + 1) 32767 ∧
          (∀ x, alGet l.echoPrev j = some x → flag u (Reg.TIME_EDLY j) 31 = true))))

/-- R245, R246, R248, R251, R258 to R264: a lane's receptions and transmissions, the windows they go in, and its errors and
recovery; an occurrence that began before the lane was integrated does not count, and a lane that a boundary has taken off the
bus stays off it. Its clauses rest on the model's own choices and readings in log entries 5, 80, 81, 82, 83, 87, 137, beside
the rules. -/
def Obligations.LaneTraffic : Prop :=
  ∀ (s : State) (n w : Nat) (m : Master), Roomy s → n < 12 →
    let l := lane s n
    let err := Reg.LANE_ERRCNT n
    let on := onBus s n = true ∧ s.pads.pfailB = true
    let start := tickAt s (fnum s) + if w < 48 then winStart s n w else 0
    let down := !inService s n || flag s (Reg.LANE_STAT n) 9
    let recovering := putFld s (Reg.LANE_STAT n) 2 0 6
    (∀ f, onBus s n = false ∨ s.pads.pfailB = false → exec (.frameReception n f) s = .next s) ∧
    (∀ f : BusFrame, on → haspState s = 0 → laneRec s n = 0 → f.fmt = 0 →
      (f.remote = true → Ends (exec (.frameReception n f) s) fun u => u.frm = s.frm ∧
        fld u (Reg.LANE_REJCNT n) 15 0 = min (fld s (Reg.LANE_REJCNT n) 15 0 + 1) 65535) ∧
      (f.remote = false → nodeOf s n f.xtd f.id.toNat = none → Ends (exec (.frameReception n f) s) fun u => u.frm = s.frm ∧
        fld u (Reg.LANE_REJCNT n) 31 16 = min (fld s (Reg.LANE_REJCNT n) 31 16 + 1) 65535 ∧
        (l.undecl = false → Queued ((0x10 + n) * 256 + 7) 0 u)) ∧
      (∀ j, f.remote = false → nodeOf s n f.xtd f.id.toNat = some j → j < 1024 → Untriggered s →
        Ends (exec (.frameReception n f) s) fun u =>
          fld u (Reg.LANE_NODE_STAT j) 31 16 = min (fld s (Reg.LANE_NODE_STAT j) 31 16 + 1) 65535 ∧
          fld u (Reg.LANE_NODE_STAT j) 15 0 = fnum s % 2 ^ 16 ∧
          u.frm.unforced = applyOver s.frm.unforced ((s.frm.iomap.filter fun e =>
            e.kind = kindRecv && e.chan = n && e.xtd = f.xtd && e.ident = f.id.toNat).map fun e => (e.key, pointOfData e f.data)) ∧
          (∀ k q, filterDecide s n f = (some k, q) → k < 128 →
            regNat u (Reg.LANE_ACF_HITS n k) = min (regNat s (Reg.LANE_ACF_HITS n k) + 1) (2 ^ 32 - 1)) ∧
          (∀ k, filterDecide s n f = (k, 2) → arrOf (lane u n) 0 = arrOf l 0 ∧ arrOf (lane u n) 1 = arrOf l 1) ∧
          (∀ k q, filterDecide s n f = (k, q) → q < 2 → flag s (Reg.LANE_RXQ_CFG n q) 31 = true → f.data.length ≤ rxqArea s n q →
            rxqFill l q < rxqSize s n q → arrOf (lane u n) q = (arrOf l q + 1) % 2 ^ 32 ∧
              (lane u n).recNo = (l.recNo + 1) % 2 ^ 32 ∧
              regNat u (Reg.LANE_RXCNT n) = min (regNat s (Reg.LANE_RXCNT n) + 1) (2 ^ 32 - 1)))) ∧
    (∀ r, on → 128 ≤ r → laneTec s n < 128 → laneStat s n = 2 → flag s err 30 = false →
      Ends (exec (.receptionError n r) s) fun u => laneStat u n = 3 ∧ flag u err 30 = true ∧
        fld u err 7 0 = min r 255 ∧ Queued ((0x10 + n) * 256 + 2) 0 u) ∧
    (∀ r, on → r < 128 → laneTec s n < 128 → Ends (exec (.receptionError n r) s) fun u => laneStat u n = 2 ∧
      flag u err 30 = false ∧ fld u err 7 0 = r) ∧
    (onBus s n = true → s.frm.ticking = true → winIsOpen s n w = true → l.win ≠ some w → fld s (Reg.TIME_LANE_ECHO n) 15 10 ≠ w →
      l.upAt ≤ start → Ends (exec (.windowOccurrence n w) s) fun u => (lane u n).win = some w ∧
        (w < 48 → u.raw = max s.raw (rawAt s (tickAt s (fnum s) + winStart s n w))) ∧
        (maySend s n = false ∨ eligible s n w (fnum s) = [] → (lane u n).wire = l.wire) ∧
        (maySend s n = true → eligible s n w (fnum s) ≠ [] → ∃ c ∈ eligible s n w (fnum s), (lane u n).wire = some c.src ∧
          ∀ d ∈ eligible s n w (fnum s), c.rank < d.rank ∨ (c.rank = d.rank ∧ c.order ≤ d.order))) ∧
    (onBus s n = false ∨ winIsOpen s n w = false ∨ l.win = some w ∨ start < l.upAt → exec (.windowOccurrence n w) s = .next s) ∧
    (l.win = some w → w < 48 → continues s n w = false → exec (.windowClose n w) s =
      .next (putLane n { l with win := none }
        (if eligible s n w (fnum s) = [] then s else bump s (Reg.TIME_LANE_WIN_LATE n w) 31 0))) ∧
    (l.win ≠ some w → exec (.windowClose n w) s = .next s) ∧
    (l.wire = none → exec (.transmissionComplete n) s = .next s ∧ ∀ t, exec (.transmissionError n t) s = .next s) ∧
    (∀ src, l.wire = some src → l.leaving = false → l.win = none →
      (laneTec s n ≤ 255 → Ends (exec (.transmissionComplete n) s) fun u => (lane u n).wire = none ∧
        regNat u (Reg.LANE_TXCNT n) = min (regNat s (Reg.LANE_TXCNT n) + 1) (2 ^ 32 - 1) ∧ laneTec u n = laneTec s n - 1 ∧
        (∀ q i, src = .queue q i → q < 12 → i < 64 → qState u q i = 0) ∧
        (∀ x d, src = .mapped x d → (lane u n).mapped = l.mapped.filter fun f => !(f.xtd = x && f.id = d))) ∧
      (∀ t, t < 256 → Ends (exec (.transmissionError n t) s) fun u => (lane u n).wire = none ∧ laneTec u n = t ∧
        (lane u n).mapped = l.mapped ∧ (∀ q i, src = .queue q i → q < 12 → i < 64 → (lane u q).entries.contains (qEntry s q i)) ∧
        (128 ≤ t → flag s err 30 = false → Queued ((0x10 + n) * 256 + 2) 0 u)) ∧
      (∀ t, 256 ≤ t → Ends (exec (.transmissionError n t) s) fun u => (lane u n).wire = none ∧ flag u err 31 = true ∧
        Queued ((0x10 + n) * 256 + 1) 1 u ∧
        (flag s (Reg.LANE_CFG n) 30 = true → laneStat u n = 5 ∧ Queued ((0x10 + n) * 256 + 9) 1 u) ∧
        (flag s (Reg.LANE_CFG n) 30 = false → laneStat u n = if flag s (Reg.LANE_CFG n) 29 then 6 else 4))) ∧
    (laneStat s n ≠ 6 → exec (.recovered n) s = .next s) ∧
    (laneStat s n = 6 → Ends (exec (.recovered n) s) fun u => laneStat u n = (if down then 0 else 2) ∧ regNat u err = 0 ∧
      Queued ((0x10 + n) * 256 + 3) 0 u) ∧
    (laneStat s n = 4 ∨ laneStat s n = 5 →
      (l.wasOut = down → exec (.recover m n) s = accepted recovering) ∧
      (l.wasOut = false → down = true → exec (.recover m n) s = accepted (putLane n { l with wasOut := true } recovering)) ∧
      (l.wasOut = true → down = false → Ends (exec (.recover m n) s) fun u => u.answer = .done ∧ laneStat u n = 6 ∧
        lane u n = { l with wasOut := false, served := true } ∧ (l.served = true → Queued ((0x10 + n) * 256 + 0xA) 0 u))) ∧
    (laneStat s n ≠ 4 → laneStat s n ≠ 5 → exec (.recover m n) s = refused m ((0x10 + n) * 256 + 0xFF) s) ∧
    exec (.integrationDone n) s = .next (if laneStat s n = 1 then
      putFld (putLane n { l with upAt := now s } s) (Reg.LANE_STAT n) 2 0 (if flag s err 30 then 3 else 2) else s)

/-- R168 to R171, R177, R179 to R181, R184, R188: the bolt, the heartbeats and the lanes of a pair: what a module that waits,
tries, hears or loses its partner becomes, and what the primary makes of its partner's state. R180: nothing asserts BOLT_OUT
while an F3 state or PFAIL keeps it released. Its clauses rest on the model's own choices and readings in log entries 5, 62, 63,
64, 65, beside the rules. -/
def Obligations.PairRoles : Prop :=
  ∀ (s : State) (c : Bool) (l : Fin 2) (q : HbRec), Roomy s →
    let st := haspState s
    let partner (u : State) : Nat := fld u Reg.HASP_STAT 27 25
    let waits (r : Nat) (u : State) : Prop := haspState u = st ∧ u.raw = max s.raw r ∧ u.hasp.retry = some u.raw ∧ Queued 0x060A 0 u ∧
      u.pads = s.pads
    let limit := s.hasp.since + 40000 + if s.hasp.side then 10000 else 0
    (st ≠ 1 → exec (.arbitrationTimeout c) s = .next s) ∧
    (st = 1 → s.hasp.retry = none → s.flt.held = none →
      (s.pads.boltIn = true → Ends (exec (.arbitrationTimeout c) s) fun u => haspState u = 3 ∧ u.raw = max s.raw limit ∧
        fld u Reg.HASP_XFERSTAT 2 0 = 1 ∧ (s.olc.installing = none → u.pads = s.pads)) ∧
      (s.pads.boltIn = false → mayBolt s = false → exec (.arbitrationTimeout c) s = .next (advanceTo limit s)) ∧
      (s.pads.boltIn = false → mayBolt s = true →
        (Ends (exec (.arbitrationTimeout true) s) (waits limit)) ∧
        (startMode s = 0 → Ends (exec (.arbitrationTimeout false) s) fun u => haspState u = 2 ∧ u.pads.boltOut = true ∧
          enabled u = s.pads.hwEnable ∧ u.raw = max s.raw limit))) ∧
    (s.hasp.retry = none → exec (.boltRetry c) s = .next s) ∧
    (∀ r, s.hasp.retry = some r → st = 1 →
      (s.pads.boltIn = true → Ends (exec (.boltRetry c) s) fun u => haspState u = 3 ∧ u.hasp.retry = none) ∧
      (s.pads.boltIn = false → mayBolt s = true → Ends (exec (.boltRetry true) s) (waits (r + if s.hasp.side then 12000 else 2000)))) ∧
    (exec (.boltInChange s.pads.boltIn c) s = .next s) ∧
    (∀ b, s.pads.boltIn ≠ b →
      (st = 0 → Ends (exec (.boltInChange b c) s) fun u => u.pads = { s.pads with boltIn := b } ∧ haspState u = 0 ∧
        enabled u = (s.pads.boltOut && !b && s.pads.hwEnable) ∧ flag u Reg.HASP_STAT 9 = b ∧
        (b = true → s.boot.running = false → Queued 0x060A 0 u)) ∧
      (st = 1 → b = true → Ends (exec (.boltInChange b c) s) fun u => haspState u = 3 ∧ u.pads.boltIn = true)) ∧
    (st = 0 ∨ st = 1 ∨ st = 5 → exec .heartbeatSend s = .next s) ∧
    (st = 2 ∨ st = 3 ∨ st = 4 → s.frm.ticking = true → s.hasp.hbStopped = false → flag s Reg.FLT_STAT 1 = false →
      s.pads.pfailB = true → Ends (exec .heartbeatSend s) fun u => u.hasp.sent = "HEARTBEAT" :: s.hasp.sent ∧
        u.raw = max s.raw (rawAt s ((now s / 12500 + 1) * 12500))) ∧
    (st = 0 → exec (.heartbeat q) s = .next s) ∧
    (st ≠ 0 → st ≠ 1 ∨ (s.txn.jregs = [] ∧ s.olc.installing = none) → Ends (exec (.heartbeat q) s) fun u =>
      flag u Reg.HASP_STAT 11 = true ∧ u.hasp.lastHb = some (s.raw, q.state) ∧ haspState u = if st = 1 then 3 else st) ∧
    (st = 2 →
      (q.state = 3 → Ends (exec (.heartbeat q) s) fun u => partner u = 2 ∧
        (partner s ≠ 2 → fld u Reg.HASP_XFERSTAT 2 0 = 1 ∧ pair u Reg.HASP_XFERLEFT_LO = 2 ^ 33 ∧
          u.hasp.sent = "COPY" :: s.hasp.sent)) ∧
      (q.state = 5 → Ends (exec (.heartbeat q) s) fun u => partner u = 3) ∧
      (q.state = 4 → s.hasp.hbOther = none → s.hasp.digestBad = false → s.hasp.overdue = [] →
        Ends (exec (.heartbeat q) s) fun u => partner u = 1 ∧
        (fld s Reg.HASP_XFERSTAT 2 0 = 3 → fld u Reg.HASP_XFERSTAT 2 0 = 4 ∧ Queued 0x0607 0 u))) ∧
    (flag s Reg.HASP_STAT 11 = false → exec (.heartbeatLost c) s = .next s ∧ exec (.yieldRecord c) s = .next s) ∧
    (∀ r, flag s Reg.HASP_STAT 11 = true → s.hasp.lastHb = some r →
      let lost (u : State) : Prop := flag u Reg.HASP_STAT 11 = false ∧ Queued 0x0601 1 u ∧
        fld u Reg.HASP_HBMISS 31 16 = min (fld s Reg.HASP_HBMISS 31 16 + 1) 65535
      (st = 2 →
        (Ends (exec (.heartbeatLost c) s) fun u => lost u ∧ haspState u = 2 ∧ partner u = 0 ∧ u.raw = max s.raw (r.1 + 20000)) ∧
        (Ends (exec (.yieldRecord c) s) fun u => lost u ∧ haspState u = 2 ∧ partner u = 0)) ∧
      (st = 4 → s.pads.boltIn = true →
        (Ends (exec (.heartbeatLost c) s) fun u => lost u ∧ haspState u = 4 ∧ u.hasp.watch = some u.raw) ∧
        (Ends (exec (.yieldRecord c) s) fun u => lost u ∧ haspState u = 4 ∧ u.hasp.watch = some s.raw)) ∧
      (st = 4 → s.pads.boltIn = false → mayBolt s = false →
        Ends (exec (.heartbeatLost c) s) fun u => lost u ∧ haspState u = 4 ∧ u.pads = s.pads) ∧
      (st = 4 → s.pads.boltIn = false → mayBolt s = true →
        (Ends (exec (.heartbeatLost true) s) fun u => lost u ∧ waits (r.1 + 20000) u) ∧
        (s.frm.phase = 2 → s.hasp.imgFrame = some (fnum s) → s.hasp.rx = [] →
          Ends (exec (.heartbeatLost false) s) fun u => lost u ∧ haspState u = 2 ∧ partner u = 0 ∧ u.pads.boltOut = true ∧
            Queued 0x0605 1 u ∧ fld u Reg.HASP_EVCNT 31 16 = min (fld s Reg.HASP_EVCNT 31 16 + 1) 65535))) ∧
    (s.hasp.watch = none → exec .unreachable s = .next s) ∧
    (∀ r, s.hasp.watch = some r → st = 4 → s.pads.boltIn = true → Ends (exec .unreachable s) fun u => haspState u = 5 ∧
      partner u = 4 ∧ Queued 0x0602 1 u ∧ u.raw = max s.raw (r + 5000)) ∧
    (s.hasp.yielded = none → exec (.handoverFail c) s = .next s) ∧
    (∀ r, s.hasp.yielded = some r → st = 2 → s.pads.boltIn = false → s.hasp.retry = none → mayBolt s = true →
      (Ends (exec (.handoverFail true) s) (waits (r + 4000))) ∧
      (Ends (exec (.handoverFail false) s) fun u => haspState u = 2 ∧ u.pads.boltOut = true ∧ u.hasp.yielded = none ∧
        partner u = 0 ∧ Queued 0x060D 1 u ∧ ∀ n, n < 48 → (aoCh u n).fail = true)) ∧
    (let bit := 16 + l.val
     (st = 0 → exec (.haspLaneDown l) s = .next s ∧ exec (.haspLaneUp l) s = .next s) ∧
     (st ≠ 0 → exec (.haspLaneUp l) s = .next (putFlag s Reg.HASP_STAT bit true) ∧
       exec (.haspLaneDown l) s = if flag s Reg.HASP_STAT bit then raised 0x0606 0 (putFlag s Reg.HASP_STAT bit false) else .next s))

/-- R172 to R178, R182, R186, R190: what the records of the link do: a standby holds and applies them, and every other module
leaves them. R171, R192: a LEAVE record loses the partner's heartbeat at once. Its clauses rest on the model's own choices and
readings in log entries 5, 66, 67, 68, 69, 70, 162, beside the rules. -/
def Obligations.PairRecords : Prop :=
  ∀ (s : State) (n k : Nat) (d : List Byte) (smp : SampleRec) (acc : AcceptRec) (f : BusFrame) (pos : PosRec) (wr : WriteRec)
    (own : Word) (cm : CommitsRec) (cc : CcRec) (crc : Word) (kind index : Nat), Roomy s →
    let st := haspState s
    let alone := st ≠ 3 ∧ st ≠ 4
    (alone → ∀ i ∈ [Instr.sample smp, .accept acc, .payload n k f, .triggerRecord kind index n, .close n k, .position pos,
      .writeRecord wr, .commits cm, .ccRecord cc, .txdone k n, .copyRecord n d, .mirrorRecord n d, .shadowClose], exec i s = .next s) ∧
    (st ≠ 2 → ∀ i ∈ [Instr.payloadRequest n k n, .digest n crc, .digestTimeout n, .copyPassEnd, .joinRestart],
      exec i s = .next s) ∧
    (st = 0 ∨ (st ≠ 2 ∧ flag s Reg.HASP_STAT 11 = false) → exec .leaveRecord s = .next s) ∧
    (st ≠ 0 → st ≠ 2 → flag s Reg.HASP_STAT 11 = true → st ≠ 4 ∨ s.pads.boltIn = true → Ends (exec .leaveRecord s) fun u =>
      flag u Reg.HASP_STAT 11 = false ∧ haspState u = st ∧ u.flt = s.flt ∧ u.pads = s.pads ∧
      fld u Reg.HASP_HBMISS 31 16 = min (fld s Reg.HASP_HBMISS 31 16 + 1) 65535 ∧ (st = 4 → u.hasp.watch = some s.raw)) ∧
    (st = 4 →
      (s.frm.phase ≠ 1 →
        (Ends (exec (.sample smp) s) fun u => u.frm.unforced = applyOver s.frm.unforced smp.points ∧
          (shadowOf u smp.frame).sample = some smp.points) ∧
        (Ends (exec (.close n k) s) fun u => (shadowOf u n).close = some k ∧ u.frm = s.frm) ∧
        (ownReception s acc = none → s.hasp.accQ = [] → Ends (exec (.accept acc) s) fun u =>
          u.hasp.sent = "PAYLOAD_REQUEST" :: s.hasp.sent ∧ u.hasp.accQ = [acc] ∧ u.frm = s.frm) ∧
        (∀ r j, ownReception s acc = some r → s.hasp.accQ = [] → Untriggered s → r.node = some j →
          Ends (exec (.accept acc) s) fun u => u.hasp.accQ = [] ∧ (shadowOf u acc.frame).accepts = (shadowOf s acc.frame).accepts ++ [acc] ∧
            u.frm.unforced = applyOver s.frm.unforced ((s.frm.iomap.filter fun e =>
              e.kind = kindRecv && e.chan = acc.lane && e.xtd = r.frame.xtd && e.ident = r.frame.id.toNat).map fun e =>
                (e.key, pointOfData e r.frame.data))) ∧
        (s.hasp.accQ = [acc] → acc.frame = n → acc.lane = k → acc.stamp = f.stamp → acc.crc = f.crc → ownReception s acc = none →
          Ends (exec (.payload n k f) s) fun u => u.hasp.accQ = [] ∧
            (shadowOf u acc.frame).accepts = (shadowOf s acc.frame).accepts ++ [acc])) ∧
      (∀ e, e < 16 → fld s (Reg.FRM_EVTSRC e) 15 12 = kind → fld s (Reg.FRM_EVTSRC e) 11 0 = index → taskEn s (32 + e) = true →
        curMode s = modeRun → (alGet s.frm.tasks (32 + e)).isSome = true → getInst s (32 + e) = none →
        s.frm.pend.contains (32 + e) = false → alGet s.frm.later (32 + e) = none →
        Ends (exec (.triggerRecord kind index n) s) fun u => alGet u.frm.later (32 + e) = some n) ∧
      (s.frm.compute = false ∨ s.frm.running.isSome = true → ∀ it : PosItem, it = .pos pos ∨ it = .write wr →
        let held : Out := .next { s with hasp := { s.hasp with posQ := s.hasp.posQ ++ [it] } }
        ((∃ x r, s.hasp.posQ = x :: r ∧ applyPos x s = none) ∨
          (s.hasp.posQ = [] ∧ fnum s < pos.frame ∧ fnum s < wr.frame) →
          (it = .pos pos → exec (.position pos) s = held) ∧ (it = .write wr → exec (.writeRecord wr) s = held))) ∧
      (∀ i, s.hasp.posQ = [] → s.frm.insts = [(pos.tid, i)] → s.frm.running = some pos.tid → i.st = .running →
        pos.kind = .preempt → pos.frame = fnum s → curMode s = modeRun → s.frm.phase ≠ 2 →
        (i.count < pos.count → exec (.position pos) s = .next { s with hasp := { s.hasp with posQ := [.pos pos] } }) ∧
        (pos.count ≤ i.count → Ends (exec (.position pos) s) fun u => u.hasp.posQ = [] ∧ u.frm.running = none ∧
          u.frm.insts = [(pos.tid, { i with st := .suspended })])) ∧
      (s.hasp.posQ = [] → wr.frame = fnum s → curMode s ≠ modeRun → inWorking wr.addr = true → inForce wr.addr = false →
        0 < wr.data.length → wr.addr % 8 + wr.data.length ≤ 8 → StorableAll s wr.addr wr.data.length →
        Ends (exec (.writeRecord wr) s) fun u => u.hasp.posQ = [] ∧ memBytes u wr.addr wr.data.length = wr.data) ∧
      exec (.ccRecord cc) s = .next { s with hasp := { s.hasp with
        shadow := { shadowOf s cc.frame with cc := some cc } :: s.hasp.shadow.filter fun v => v.frame ≠ (shadowOf s cc.frame).frame } } ∧
      (∀ i, k < 12 → i < 64 → qState s k i ≠ 0 → memNat s (qEntry s k i + 0x10) 8 = n →
        (∀ j, j < i → qState s k j = 0 ∨ memNat s (qEntry s k j + 0x10) 8 ≠ n) →
        Ends (exec (.txdone k n) s) fun u => qState u k i = 0) ∧
      (s.frm.phase = 1 → s.frm.ticking = true → s.pads.pfailB = true →
        ((shadowOf s (fnum s)).cc = none → s.hasp.posQ = [] → Ends (exec .shadowClose s) fun u => haspState u = 5 ∧ Queued 0x0604 1 u ∧
          u.frm.compute = false ∧ u.frm.pendingCommit = none ∧ u.raw = max s.raw (rawAt s (ccAt s (fnum s) + 6000))) ∧
        (∀ q, (shadowOf s (fnum s)).cc = some q → s.hasp.imgFrame = some (fnum s) → s.hasp.posQ = [] → NoAction s →
          s.frm.insts = [] → s.frm.pend = [] → s.frm.trapStop = false → flag s Reg.FLT_STAT 1 = false →
          Ends (exec .shadowClose s) fun u => u.frm.phase = 2 ∧ u.frm.compute = false ∧ "DIGEST" ∈ u.hasp.sent ∧
            haspState u = if getReg u Reg.HASP_DIGEST = q.digest then 4 else 5))) ∧
    (st = 3 ∨ st = 4 → exec (.commits cm) s = .next { s with hasp := { s.hasp with commitsDue := s.hasp.commitsDue ++ [cm] } }) ∧
    (st = 3 → inRetained (n * 4096) = true → d.length = 4096 → (∀ p ∈ s.ecc, p.1 % 8 = 0) →
      Ends (exec (.copyRecord n d) s) fun u => memBytes u (n * 4096) 4096 = d ∧
        (n ∉ s.hasp.copied → pair u Reg.HASP_XFERLEFT_LO = pair s Reg.HASP_XFERLEFT_LO - 4096 ∧
          fld u Reg.HASP_XFERSTAT 31 24 = fld s Reg.HASP_XFERSTAT 31 24) ∧
        (n ∈ s.hasp.copied → fld u Reg.HASP_XFERSTAT 31 24 = min (fld s Reg.HASP_XFERSTAT 31 24 + 1) 255)) ∧
    (st = 3 → n + d.length < 2 ^ 33 → d ≠ [] → (∀ p ∈ s.ecc, p.2 = .double → n + d.length ≤ p.1 ∨ p.1 + 8 ≤ n) →
      Ends (exec (.mirrorRecord n d) s) fun u =>
      memBytes u n d.length = d ∧ fld u Reg.HASP_XFERSTAT 2 0 = 2) ∧
    (st = 2 →
      exec (.payloadRequest n k n) s = .next { s with hasp := { s.hasp with sent := "PAYLOAD" :: s.hasp.sent } } ∧
      (alGet s.hasp.undigested n = none → exec (.digest n crc) s = .next s ∧ exec (.digestTimeout n) s = .next s) ∧
      (alGet s.hasp.undigested n = some own →
        (own = crc → exec (.digest n crc) s = .next { s with hasp := { s.hasp with
          undigested := alDel s.hasp.undigested n, overdue := s.hasp.overdue.filter (· ≠ n) } }) ∧
        (own ≠ crc → Ends (exec (.digest n crc) s) fun u => Queued 0x0603 1 u ∧
          fld u Reg.HASP_EVCNT 15 0 = min (fld s Reg.HASP_EVCNT 15 0 + 1) 65535 ∧
          fld u Reg.HASP_STAT 27 25 = if instep s then 3 else fld s Reg.HASP_STAT 27 25) ∧
        (Ends (exec (.digestTimeout n) s) fun u => u.raw = max s.raw (rawAt s (ccAt s n + 11000)) ∧ n ∈ u.hasp.overdue ∧
          fld u Reg.HASP_STAT 27 25 = if instep s then 3 else fld s Reg.HASP_STAT 27 25)) ∧
      (Ends (exec .leaveRecord s) fun u => Queued 0x0609 0 u ∧ fld u Reg.HASP_STAT 27 25 = 0 ∧ flag u Reg.HASP_STAT 11 = false) ∧
      (fld s Reg.HASP_XFERSTAT 2 0 = 1 →
        let left := s.hasp.copyDirty.length
        let ends := left ≤ fld s Reg.HASP_XFERCFG 15 0 * 256 ∨ fld s Reg.HASP_XFERCFG 23 16 ≤ fld s Reg.HASP_XFERSTAT 31 24
        Ends (exec .copyPassEnd s) fun u => u.hasp.copyDirty = [] ∧ pair u Reg.HASP_XFERLEFT_LO = left * 4096 % 2 ^ 64 ∧
          (ends → fld u Reg.HASP_XFERSTAT 2 0 = 2 ∧ u.hasp.mirroring = true) ∧
          (¬ ends → fld u Reg.HASP_XFERSTAT 2 0 = 1 ∧ fld u Reg.HASP_XFERSTAT 31 24 = min (fld s Reg.HASP_XFERSTAT 31 24 + 1) 255)) ∧
      (fld s Reg.HASP_XFERSTAT 2 0 = 2 → Ends (exec .copyPassEnd s) fun u => u.hasp.copyDirty = [] ∧ u.hasp.finalDue = true) ∧
      (∀ r, s.hasp.rejoin = some r → Ends (exec .joinRestart s) fun u => u.raw = max s.raw (r + 400000000) ∧ u.hasp.rejoin = none ∧
        u.hasp.copyDirty = [] ∧ fld u Reg.HASP_XFERSTAT 2 0 = 1 ∧ fld u Reg.HASP_XFERSTAT 31 24 = 1 ∧
        pair u Reg.HASP_XFERLEFT_LO = 2 ^ 33))

/-- R180, R189, R191, R192: the commands of HASP, and the join that a standby makes on its own. Its clauses rest on the
model's own choices and readings in log entries 5, 64, 70, beside the rules. -/
def Obligations.PairCommands : Prop :=
  ∀ (s : State) (m : Master) (c : Bool), Roomy s →
    let st := haspState s
    let no := refused m 0x06FF s
    (st ≠ 5 → exec (.join m) s = no ∧ exec (.haspAssume m c) s = no ∧ exec .autojoin s = .next s) ∧
    (st = 5 →
      (Ends (exec (.join m) s) fun u => haspState u = 3 ∧ u.hasp.autoSuspended = false ∧ u.hasp.hbStopped = false ∧
        fld u Reg.HASP_XFERSTAT 2 0 = 1 ∧ u.answer = .done) ∧
      (flag s Reg.HASP_CFG 8 = true → flag s Reg.HASP_STAT 11 = true → s.hasp.autoSuspended = false → s.flt.cdr = none →
        Ends (exec .autojoin s) fun u => haspState u = 3 ∧ u.raw = max s.raw (s.hasp.since + 400000000)) ∧
      (s.pads.boltIn = true ∨ mayBolt s = false → exec (.haspAssume m c) s = no) ∧
      (s.pads.boltIn = false → mayBolt s = true →
        (Ends (exec (.haspAssume m true) s) fun u => haspState u = 5 ∧ u.answer = .error ∧ Queued 0x060A 0 u ∧ Queued 0x06FF 0 u) ∧
        (s.flt.cdr = none → Ends (exec (.haspAssume m false) s) fun u => haspState u = 2 ∧ u.pads.boltOut = true ∧
          u.answer = .done ∧ u.flt.cdr.isSome = true ∧ u.flt.why = 1 ∧ u.leaf.actHalt = true))) ∧
    (st = 3 ∨ st = 4 ∨ st = 5 → Ends (exec (.leave m) s) fun u => haspState u = 5 ∧ "LEAVE" ∈ u.hasp.sent ∧
      u.hasp.hbStopped = true ∧ u.hasp.autoSuspended = true ∧ u.answer = .done) ∧
    (st = 0 ∨ st = 1 ∨ st = 2 → exec (.leave m) s = no) ∧
    (instep s = false → exec (.haspYield m) s = no) ∧
    (instep s = true → Ends (exec (.haspYield m) s) fun u => haspState u = 5 ∧ u.pads.boltOut = false ∧ enabled u = false ∧
      "YIELD" ∈ u.hasp.sent ∧ u.hasp.hbStopped = true ∧ u.answer = .done ∧ fld u Reg.HASP_STAT 27 25 = 0)

/-- R84, R139, R163, R193, R237, R238, R266, R373, R387: a unit's counters start again at the value that its CTRCLR gives them,
and nothing else changes; a write without CLEAR changes nothing. Its clauses rest on the model's own choices and readings in
log entries 107, 138, beside the rules. -/
def Obligations.CountersClear : Prop :=
  ∀ (s : State) (m : Master) (n : Nat) (v : Word), Runs s → n < 12 →
    (v.getLsbD 0 = false →
      (∀ i ∈ [Instr.specCtrclr m v, .leafCtrclr m v, .haspCtrclr m v, .memCtrclr m v, .retCtrclr m v, .laneCtrclr m n v,
        .timeCtrclr m v, .pstCtrclr m v, .frmCtrclr m v], exec i s = accepted s) ∧
      exec (.wardCtrclr m v) s = accepted { s with ward := { s.ward with key := none } }) ∧
    (v.getLsbD 0 = true →
      let clears (i : Instr) (f : Nat → Option Nat) : Prop := Ends (exec i s) fun u => Cleared s u f
      clears (.specCtrclr m v) (zeros ([Reg.SPEC_BUFPEAK, Reg.SPEC_DISCARDS, Reg.SPEC_RETIRED_LO, Reg.SPEC_RETIRED_LO + 4,
        Reg.SPEC_REPLAYED_LO, Reg.SPEC_REPLAYED_LO + 4] ++ (List.range 6).map Reg.SPEC_CAUSE)) ∧
      clears (.leafCtrclr m v) (fun o => if o = Reg.LEAF_TRAPLOG then some (fld s o 15 0) else zeros ((List.range 3).map Reg.LEAF_FAILCNT) o) ∧
      clears (.haspCtrclr m v) (fun o => if o = Reg.HASP_LAG then some (fld s o 15 0) else zeros [Reg.HASP_HBMISS, Reg.HASP_EVCNT] o) ∧
      clears (.memCtrclr m v) (zeros [Reg.MEM_CECNT, Reg.MEM_UECNT, Reg.MEM_UNDOPEAK]) ∧
      clears (.retCtrclr m v) (zeros [Reg.RET_STALLCNT]) ∧
      clears (.pstCtrclr m v) (zeros [Reg.PST_CECNT]) ∧
      clears (.laneCtrclr m n v) (fun o => if o = Reg.LANE_RXQ_STAT n 0 ∨ o = Reg.LANE_RXQ_STAT n 1 then
          some (withBits (regNat s o) 28 16 0)
        else zeros ([Reg.LANE_RXCNT n, Reg.LANE_TXCNT n, Reg.LANE_REJCNT n, Reg.LANE_DROPCNT n] ++
          (List.range 128).map (Reg.LANE_ACF_HITS n)) o) ∧
      clears (.timeCtrclr m v) (zeros (Reg.TIME_EVCNT :: (List.range 12).map Reg.TIME_LANE_OFFWIN ++
        (List.range 12).flatMap fun k => (List.range 48).map (Reg.TIME_LANE_WIN_LATE k))) ∧
      clears (.frmCtrclr m v) (fun o => if o = Reg.FRM_SLACKMIN then some 0xFFFFF
        else if o ∈ (List.range 48).map taskStat then some (fld s o 7 0)
        else zeros ((List.range 32).map Reg.FRM_TASKMAX) o) ∧
      Ends (exec (.wardCtrclr m v) s) fun u =>
        Cleared { s with ward := { s.ward with key := none } } u (zeros [Reg.WARD_DIAGCNT]))

/-- R183, R199, R200, R203 to R206, R214: the force table takes an entry that R199 allows and refuses every other, FCLR clears
every VALID; a write of the delta's place or length leaves no verdict, VERIFY starts the reading of the delta, which ends
VERIFIED with its ITIME or BAD with its VERR. Its clauses rest on the model's own choices and readings in log entries 5, 71,
73, 74, beside the rules. -/
def Obligations.OnlineChangeAndForcing : Prop :=
  ∀ (s : State) (m : Master) (a : Nat) (d : List Byte) (v : Word), Roomy s → standbyBars m s = false →
    let no := refused m 0x08FF s
    let old := forceEntry s ((a - forceBase) / 8)
    let bad (u : State) (e : Bad) : Prop := vstate u = 3 ∧ regNat u Reg.OLC_VERR = (e.cause * 2 ^ 28 + e.off) % 2 ^ 32 ∧ Queued 0x0802 0 u
    (inForce a = false → exec (.forceTableWrite m a d) s = .next s) ∧
    (inForce a = true →
      ((d.length ≠ 4 ∧ d.length ≠ 8) ∨ a % d.length ≠ 0 → exec (.forceTableWrite m a d) s = refused m 0x0801 s) ∧
      (∀ e, a % d.length = 0 → (d.length = 8 ∧ e = leNat d) ∨ (d.length = 4 ∧ a % 8 = 0 ∧ e = old / 2 ^ 32 * 2 ^ 32 + leNat d) ∨
          (d.length = 4 ∧ a % 8 = 4 ∧ e = old % 2 ^ 32 + leNat d * 2 ^ 32) →
        (forceValid e = true ∧ forceOk s ((a - forceBase) / 8) e = false → exec (.forceTableWrite m a d) s = refused m 0x0801 s) ∧
        (forceValid e = false ∨ forceOk s ((a - forceBase) / 8) e = true → Storable s a →
          Ends (exec (.forceTableWrite m a d) s) fun u => u.answer = .done ∧ memBytes u a d.length = d ∧ SameOutside s u a d.length))) ∧
    (Ends (exec (.forceClear m) s) fun u => u.answer = .done ∧ (∀ x, inForce x = false ∨ x % 8 ≠ 3 → memByte u x = memByte s x) ∧
      ((∀ p ∈ s.ecc, p.2 = .double → p.1 + 8 ≤ forceBase ∨ forceBase + 0x8000 ≤ p.1) →
        ∀ f, f < 4096 → forceValid (forceEntry u f) = false)) ∧
    (let ok := v.toNat % 8 = 0 ∧ 64 ≤ v.toNat ∧ v.toNat ≤ 134217728
     (ok → Ends (exec (.deltaWrite m Reg.OLC_DLEN v) s) fun u => u.answer = .done ∧ regNat u Reg.OLC_DLEN = v.toNat ∧ vstate u = 0) ∧
     (¬ ok → exec (.deltaWrite m Reg.OLC_DLEN v) s = no)) ∧
    (exec (.deltaWrite m Reg.OLC_DBASE_LO v) s =
      accepted { s with low := alPut s.low (masterKey m Reg.OLC_DBASE_LO) (v &&& 0xFFFFFFF8) }) ∧
    (∀ lo, alGet s.low (masterKey m Reg.OLC_DBASE_LO) = some lo → Ends (exec (.deltaWrite m Reg.OLC_DBASE_HI v) s) fun u =>
      u.answer = .done ∧ pair u Reg.OLC_DBASE_LO = lo.toNat + v.toNat % 256 * 2 ^ 32 ∧ vstate u = 0 ∧
        alGet u.low (masterKey m Reg.OLC_DBASE_LO) = none) ∧
    (goInFlight s = true → exec (.verify m) s = no) ∧
    (goInFlight s = false → exec (.verify m) s =
      accepted { putFld s Reg.OLC_STAT 2 0 1 with olc := { s.olc with verAt := s.raw } }) ∧
    (vstate s ≠ 1 → exec (.verifyAbandon m) s = accepted s ∧ exec .verificationEnd s = .next s) ∧
    (vstate s = 1 →
      (Ends (exec (.verifyAbandon m) s) fun u => u.answer = .done ∧ bad u { cause := 13, off := 0, upto := 0 }) ∧
      (∀ rs, readDelta s (dbase s) (deltaLen s) = .ok rs → Ends (exec .verificationEnd s) fun u => vstate u = 2 ∧
        (itimeOf rs < 2 ^ 24 → regNat u Reg.OLC_ITIME = itimeOf rs) ∧ regNat u Reg.OLC_VERR = 0 ∧
        u.raw = max s.raw (s.olc.verAt + (deltaLen s + 4) / 5)) ∧
      (∀ e, readDelta s (dbase s) (deltaLen s) = .error e → Ends (exec .verificationEnd s) fun u => bad u e ∧
        (e.cause = 12 → Queued 0x0702 1 u) ∧ u.raw = max s.raw (s.olc.verAt + (e.upto + 4) / 5)))

/-- R216 to R218, R224, R225, R230, R237: the patrol scrub, an armed error, the cleaning of pages, a write that waits for one,
and the measurement of the hold-up capacitor. Its clauses rest on the model's own choices and readings in log entries 5, 32,
40, 41, 42, 165, beside the rules. -/
def Obligations.MemoryAndRetention : Prop :=
  ∀ (s : State) (m : Master) (a p cap volt : Nat) (v : Word) (q : StallReq), Roomy s →
    let word := a / 8 * 8
    (inRetained a = false → exec (.patrolScrub a) s = .next s) ∧
    (inRetained a = true →
      (eccAt s a = .good → exec (.patrolScrub a) s = .next (
        if a < 2 ^ 33 then
          if a / 8 = 2 ^ 30 - 1 then bump (putFld s Reg.MEM_SCRUB 15 0 0) Reg.MEM_SCRUB 31 16 else putFld s Reg.MEM_SCRUB 15 0 (a / 2 ^ 17)
        else s)) ∧
      (∀ k, eccAt s a = .single k → Ends (exec (.patrolScrub a) s) fun u => eccAt u a = .good ∧ SameMemory s u ∧
        regNat u Reg.MEM_CECNT = min (regNat s Reg.MEM_CECNT + 1) (2 ^ 32 - 1) ∧ regNat u Reg.MEM_ERRADDR_LO = word % 2 ^ 32 ∧
        (s.mm.corrAt = none → Queued 0x0701 0 u)) ∧
      (eccAt s a = .double → Ends (exec (.patrolScrub a) s) fun u => eccAt u a = .double ∧ SameMemory s u ∧
        flag u Reg.MEM_STAT 0 = true ∧ flag u Reg.MEM_ERRADDR_HI 31 = true ∧ word ∈ u.mm.known ∧ Queued 0x0703 1 u ∧
        (word ∉ s.mm.known → regNat u Reg.MEM_UECNT = min (regNat s Reg.MEM_UECNT + 1) (2 ^ 32 - 1)))) ∧
    (bits v.toNat 31 16 ≠ 0x4D45 → exec (.memInject m v) s = refused m 0x07FF s) ∧
    (bits v.toNat 31 16 = 0x4D45 → exec (.memInject m v) s = accepted
      (if v.getLsbD 7 then { s with mm := { s.mm with inject := alPut s.mm.inject (Master.num m) v } } else s)) ∧
    (∀ r rest, s.mm.dirty = (p, r) :: rest →
      (s.mm.forced = true ∨ governed s = true ∧ coldPage s = true →
        Ends (exec (.pageCleaning p) s) fun u => u.mm.dirty = alDel s.mm.dirty p ∧ SameMemory s u ∧
        u.mm.written = s.mm.written + 4096 ∧
        (smWf memDefault s.mem = true → smWf memDefault s.mm.flash = true → ∀ x,
          smGet memDefault u.mm.flash x = if x / 4096 = p then memByte s x else smGet memDefault s.mm.flash x)) ∧
      (s.mm.forced = false → governed s = false ∨ coldPage s = false → exec (.pageCleaning p) s = .next s) ∧
      (∀ p', p' ≠ p → exec (.pageCleaning p') s = .next s)) ∧
    (let n := q.data.length
     q.m ≠ .m0 → standbyBars q.m s = false → inWorking q.addr = true → n ∈ [1, 2, 4, 8] → q.addr % n = 0 → s.hasp.mirroring = false →
      (∀ r rest, s.mm.dirty = (p, r) :: rest → limitPages s ≤ s.mm.dirty.length → isDirty s (q.addr / 4096) = false →
        inImageCopy (q.addr / 4096) = false → eccAt s q.addr = .good → s.mm.inject = [] →
        Ends (exec (.dirtyStall q) s) fun u => u.answer = .done ∧ memBytes u q.addr n = q.data ∧ SameOutside s u q.addr n ∧
          regNat u Reg.RET_STALLCNT = min (regNat s Reg.RET_STALLCNT + 1) (2 ^ 32 - 1) ∧ isDirty u p = false ∧
          isDirty u (q.addr / 4096) = true ∧ (s.mm.stalled = false → Queued 0x0710 0 u)) ∧
      (∀ w, n = 8 → isDirty s (q.addr / 4096) = true → alGet s.mm.inject (Master.num q.m) = some w →
        Ends (exec (.dirtyStall q) s) fun u => u.answer = .done ∧ alGet u.mm.inject (Master.num q.m) = none ∧
          eccAt u q.addr = if w.getLsbD 8 then .double else .single (bits w.toNat 5 0))) ∧
    (let bytes := cap * (volt ^ 2 - 3400 ^ 2) * 4 / 45
     Ends (exec (.holdupMeasure cap volt) s) fun u => u.mm.covered = bytes ∧
      (retStat u).testBit 31 = decide (fld s Reg.RET_CFG 26 16 * 2 ^ 20 ≤ bytes) ∧
      flag u Reg.RET_STAT 30 = (s.pads.pfailB && decide (volt < 7200)) ∧
      regNat u Reg.RET_HOLDUP = cap % 2 ^ 16 * 2 ^ 16 + volt % 2 ^ 16 ∧
      u.mm.holdLow = decide (bytes < 2 ^ 26) ∧ (bytes < 2 ^ 26 → s.mm.holdLow = false → Queued 0x0711 1 u))

/-- R388, R389, R392 to R396: block protect is written once, the key locks page 1, SELECT shows the newer valid copy of a
record, and SEAL writes the header of the other copy, its CRC first; a SEAL into a locked page is refused. Its clauses rest on
the model's own choices and readings in log entries 5, 110, beside the rules. -/
def Obligations.ParameterRecords : Prop :=
  ∀ (s : State) (m : Master) (r : Fin 16) (v : Word), Roomy s → s.ecc = [] →
    let no := refused m 0x41FF s
    let copy (c : Nat) : RecCopy := (readCopy (masNib m) r.val c s).1
    let busy (op : Nat) (u : State) : Prop := u.pst.busy = some (r.val, op, m) ∧ flag u Reg.PST_STAT 0 = true ∧ u.answer = .done
    let shows (c flags seq : Nat) (u : State) : Prop := busy 1 u ∧ regNat u Reg.PST_RECSTAT = r.val * 2 ^ 16 + 2 ^ 7 + flags + c % 2 ∧
      regNat u Reg.PST_RECSEQ = seq ∧ alGet u.pst.selected r.val = some (c, BitVec.ofNat 32 seq)
    (Reg.PST_PROT ∈ s.once → exec (.blockProtectWrite m v) s = no) ∧
    (Reg.PST_PROT ∉ s.once → Ends (exec (.blockProtectWrite m v) s) fun u => u.answer = .done ∧ Reg.PST_PROT ∈ u.once ∧
      fld u Reg.PST_PROT 1 0 = v.toNat % 4) ∧
    (bits v.toNat 31 16 ≠ 0x5031 → exec (.page1Lock m v) s = no) ∧
    (bits v.toNat 31 16 = 0x5031 → exec (.page1Lock m v) s = accepted (if v.getLsbD 0 then putFlag s Reg.PST_STAT 2 true else s)) ∧
    (flag s Reg.PST_STAT 0 = true ∨ recMax s r = 0 → exec (.select m r) s = no ∧ exec (.sealRec m r) s = no) ∧
    (flag s Reg.PST_STAT 0 = false → recMax s r ≠ 0 →
      ((copy 0).valid = false → (copy 1).valid = false → Ends (exec (.select m r) s) fun u => shows 2 0x2C 0 u ∧ Queued 0x4108 1 u) ∧
      ((copy 0).valid = false → (copy 1).valid = true → Ends (exec (.select m r) s) fun u => shows 1 4 (copy 1).seq u ∧ Queued 0x4107 0 u) ∧
      ((copy 0).valid = true → (copy 1).valid = false → Ends (exec (.select m r) s) fun u => shows 0 8 (copy 0).seq u ∧ Queued 0x4107 0 u) ∧
      ((copy 0).valid = true → (copy 1).valid = true →
        (recNewer (copy 0).seq (copy 1).seq = true → Ends (exec (.select m r) s) (shows 0 0 (copy 0).seq)) ∧
        (recNewer (copy 1).seq (copy 0).seq = true → Ends (exec (.select m r) s) (shows 1 0 (copy 1).seq))) ∧
      (sealTarget s r.val = none ∨ recMax s r < fld s Reg.PST_RECLEN 15 0 → exec (.sealRec m r) s = no) ∧
      (∀ c seq, sealTarget s r.val = some (c, seq) → fld s Reg.PST_RECLEN 15 0 ≤ recMax s r →
        let o := recOff s r c
        (pstLocked o s = true → o + 16 ≤ pstSize → Ends (exec (.sealRec m r) s) fun u => u.answer = .error ∧ u.pst = s.pst ∧
          SameMemory s u ∧ Queued 0x4104 0 u ∧ Queued 0x41FF 0 u) ∧
        (512 ≤ o → o + 16 ≤ pstProtFrom s ∨ (m = .m0 ∨ m = .m4) ∧ o + 16 ≤ pstSize → Ends (exec (.sealRec m r) s) fun u =>
          busy 2 u ∧ regNat u Reg.PST_RECSTAT = r.val * 2 ^ 16 + 2 ^ 7 + c ∧ SameMemory s u))) ∧
    (s.pst.busy = none → exec .recordCommandDone s = .next s) ∧
    (s.pst.busy = some (r.val, 1, m) → Ends (exec .recordCommandDone s) fun u => u.pst.busy = none ∧ flag u Reg.PST_STAT 0 = false ∧
      flag u Reg.PST_RECSTAT 7 = false ∧ SameMemory s u) ∧
    (∀ c seq, s.pst.busy = some (r.val, 2, m) → sealTarget s r.val = some (c, seq) →
      let o := recOff s r c
      let len := fld s Reg.PST_RECLEN 15 0
      let h := leBytes 4 seq ++ leBytes 4 len
      o + 24 + len ≤ pstSize → Ends (exec .recordCommandDone s) fun u => u.pst.busy = none ∧ flag u Reg.PST_STAT 0 = false ∧
        memBytes u (pstBase + o) 16 = h ++ leBytes 4 (crc32c (h ++ memBytes s (pstBase + o + 16) len)).toNat ++ [0, 0, 0, 0] ∧
        SameOutside s u (pstBase + o) 16 ∧ regNat u Reg.PST_RECSEQ = seq % 2 ^ 32 ∧ alGet u.pst.selected r.val = none)

/-- R398 to R404: a trigger of an enabled source enters the recorder's queue, the oldest firing becomes the next record, a
cursor finds whether its record is gone, and a clear removes every record. Its clauses rest on the model's own choices and
readings in log entries 5, 112, 113, beside the rules. -/
def Obligations.EventRecorder : Prop :=
  ∀ (s : State) (m : Master) (v : Word), Roomy s →
    let k := Master.num m
    let src := v.toNat % 32
    (flag s (Reg.EVR_SRC_CFG src) 31 = false → exec (.evrTrig m v) s = accepted s) ∧
    (flag s (Reg.EVR_SRC_CFG src) 31 = true →
      (s.evr.queue.length < 16 → exec (.evrTrig m v) s = accepted { s with evr := { s.evr with
        queue := s.evr.queue ++ [{ src := src, code := 0, master := k, time := now s, fnum := fnum s }] } }) ∧
      (16 ≤ s.evr.queue.length → Ends (exec (.evrTrig m v) s) fun u => u.answer = .done ∧ u.evr.queue = s.evr.queue ∧
        Queued 0x4201 0 u)) ∧
    (s.evr.queue = [] → exec .eventRecordWrite s = .next s) ∧
    (∀ f rest, s.evr.queue = f :: rest →
      let x := takeSnaps f.src (min 16 (fld s (Reg.EVR_SRC_CFG f.src) 20 16)) 0 { s with evr := { s.evr with queue := rest } }
      let q := evrNext x.2
      x.2.flt.arrived = [] → (∀ p ∈ x.2.ecc, p.2 ≠ .double) →
        Ends (exec .eventRecordWrite s) fun u => u.evr.queue = x.2.evr.queue ∧ evrNext u = (q + 1) % 2 ^ 64 ∧
        evrOldest u = (if ringSlots ≤ q - evrOldest x.2 then (evrOldest x.2 + 1) % 2 ^ 64 else evrOldest x.2) ∧
        memBytes u (evrSlot x.2 q) 512 = recordBytes x.2 q f x.1 ∧
        memBytes u (evrCtl x.2) 20 = ctlBytes (q + 1) (if ringSlots ≤ q - evrOldest x.2 then evrOldest x.2 + 1 else evrOldest x.2)) ∧
    (exec (.cursorWrite m false v) s = accepted { s with low := alPut s.low (masterKey m Reg.EVR_CURSOR_LO) v }) ∧
    (∀ lo, alGet s.low (masterKey m Reg.EVR_CURSOR_LO) = some lo → Ends (exec (.cursorWrite m true v) s) fun u => u.answer = .done ∧
      cursorOf u k = lo.toNat + v.toNat * 2 ^ 32 ∧ (k ∈ u.evr.gone ↔ cursorOf u k < evrOldest s)) ∧
    (Ends (exec (.evrClear m) s) fun u => u.answer = .done ∧ evrOldest u = evrNext s ∧ evrNext u = evrNext s ∧
      ((∀ p ∈ s.ecc, p.2 ≠ .double) → memBytes u (evrCtl s) 20 = ctlBytes (evrNext s) (evrNext s)) ∧ Queued 0x4203 0 u ∧
      ((∀ i, i < 32 → flag s (Reg.EVR_SRC_CFG i) 31 = false) → regNat u Reg.EVR_DROPCNT = 0))

/-- R408 to R417: UPDATE draws the target levels and begins to drive, at the end the driven rows are shown, a repaint follows,
and the thermistor and PNL_HVEN. Its clauses rest on the model's own choices and readings in log entries 5, 114, 115, 116,
beside the rules. -/
def Obligations.StatusPanel : Prop :=
  ∀ (s : State) (m : Master) (t : Int), Roomy s → pnlCols s ≤ 320 → pnlRows s ≤ 240 →
    let first := fld s Reg.PNL_UPD 7 0
    let last := fld s Reg.PNL_UPD 23 16
    let may := pnlState s = 0 ∧ first ≤ last ∧ last < pnlRows s ∧ flag s Reg.PNL_CFG 31 = true ∧ pnlHeld s = false
    let crc := crc32c (memBytes s pnlBase 245760)
    let good := flag s Reg.PNL_CFG 29 = false ∨ crc = getReg s Reg.PNL_EXPCRC
    let ends (j : PnlJob) (u : State) : Prop := pnlState u = 0 ∧ u.pnl.job = none ∧ u.pnl.hvenOff = some (u.raw + 40000) ∧
      regNat u Reg.PNL_UPDCNT = (regNat s Reg.PNL_UPDCNT + 1) % 2 ^ 32 ∧
      u.raw = max s.raw (j.startAt + (j.last + 1 - j.first) * j.per) ∧
      ((∀ p ∈ s.ecc, p.2 ≠ .double) → ∀ l y x, l < 3 → j.first ≤ y → y ≤ j.last → x < pnlCols s →
        memByte u (shownAddr s l y x) = memByte s (targetAddr s l y x))
    let temp := putFld s Reg.PNL_TEMP 31 16 (BitVec.ofInt 16 t).toNat
    (¬ may → exec (.update m) s = refused m 0x43FF s) ∧
    (may → good → pnlTemp s = none → Ends (exec (.update m) s) fun u => u.answer = .done ∧ u.pnl = s.pnl ∧ SameMemory s u ∧
      getReg u Reg.PNL_CRC = crc ∧ Queued 0x4305 0 u) ∧
    (may → ¬ good → Ends (exec (.update m) s) fun u => u.answer = .done ∧ u.pnl = s.pnl ∧ flag u Reg.PNL_STAT 9 = true ∧
        pnlState u = 0 ∧
        getReg u Reg.PNL_CRC = crc ∧ Queued 0x4301 1 u) ∧
    (∀ x, may → good → pnlTemp s = some x → Ends (exec (.update m) s) fun u => u.answer = .done ∧ pnlState u = 1 ∧
        u.pnl.hven = true ∧ flag u Reg.PNL_STAT 9 = false ∧ fld u Reg.PNL_STAT 18 16 = pnlBand s x ∧ getReg u Reg.PNL_CRC = crc ∧
        (∃ j, u.pnl.job = some j ∧ j.repaint = false ∧ j.first = first ∧ j.last = last ∧ j.wave = bandWaves s (pnlBand s x) ∧
          s.raw ≤ j.startAt ∧ j.startAt ≤ s.raw + 40000) ∧
        ((∀ p ∈ s.ecc, p.2 ≠ .double) → ∀ l y i, l < 3 → first ≤ y → y ≤ last → i < pnlCols s →
          (memByte u (targetAddr s l y i)).toNat = gammaLevel s l (memByte s (pixelAddr l y i)).toNat)) ∧
    (exec (.pnlCrc m) s = accepted (putReg s Reg.PNL_CRC crc)) ∧
    (∀ j, s.pnl.job = some j →
      (j.repaint = true → exec .updateEnd s = .next s) ∧ (j.repaint = false → exec .repaintEnd s = .next s) ∧
      (j.done = 0 → 0 < j.per → j.last < 240 → 
        (j.repaint = false → j.first ≤ j.last → Ends (exec .updateEnd s) (ends j)) ∧
        (j.repaint = true → j.first = 0 → Ends (exec .repaintEnd s) fun u => ends j u ∧ Queued 0x4303 0 u))) ∧
    (s.pnl.job = none → exec .updateEnd s = .next s ∧ exec .repaintEnd s = .next s) ∧
    (s.pnl.waiting = false ∨ pnlTemp s = none ∨ pnlHeld s = true → exec .repaintStart s = .next s) ∧
    (∀ x, s.pnl.waiting = true → pnlTemp s = some x → pnlHeld s = false → Ends (exec .repaintStart s) fun u => pnlState u = 3 ∧
      u.pnl.hven = true ∧ u.pnl.waiting = false ∧ fld u Reg.PNL_STAT 18 16 = pnlBand s x ∧
      ∃ j, u.pnl.job = some j ∧ j.repaint = true ∧ j.first = 0 ∧ j.last = pnlRows s - 1 ∧ j.startAt = s.raw) ∧
    (s.pnl.hvenOff = none → exec .hvenOff s = .next s) ∧
    (∀ r, s.pnl.hvenOff = some r → Ends (exec .hvenOff s) fun u => u.pnl.hven = s.pnl.job.isSome ∧ u.pnl.hvenOff = none ∧
      u.raw = max s.raw r) ∧
    (-300 ≤ t ∧ t ≤ 800 → exec (.thermistorReading t) s =
      .next { putFlag temp Reg.PNL_STAT 8 false with pnl := { s.pnl with validAt := some s.raw, valid := t } }) ∧
    (t < -300 ∨ 800 < t → exec (.thermistorReading t) s =
      if flag s Reg.PNL_STAT 8 then .next temp else raised 0x4302 0 (putFlag temp Reg.PNL_STAT 8 true))
end

