-- ==== Sys2Proof/Laws/SMap.lean ====
section
/-! SUPPORT. The laws of the sparse map: a read after a write, and the canonical form. -/

namespace Sys2Proof

variable {α : Type}

/-- A key that a map does not list. -/
def smFree (m : SMap α) (k : Nat) : Prop := ∀ p ∈ m, p.1 ≠ k

theorem smFree_smDel (m : SMap α) (k : Nat) : smFree (smDel m k) k := by
  induction m with
  | nil => simp [smDel, smFree]
  | cons p r ih =>
    obtain ⟨k', w⟩ := p
    by_cases h : k' = k
    · simpa [smDel, h] using ih
    · intro q hq
      simp only [smDel, h, if_false, List.mem_cons] at hq
      rcases hq with rfl | hq
      · exact h
      · exact ih q hq

theorem smGet_smDel (d : Nat → α) (m : SMap α) (k k' : Nat) :
    smGet d (smDel m k) k' = if k' = k then d k' else smGet d m k' := by
  induction m with
  | nil => simp [smDel, smGet]
  | cons p r ih =>
    obtain ⟨k₀, w⟩ := p
    by_cases h : k₀ = k
    · subst h
      by_cases h' : k' = k₀
      · subst h'; simp [smDel, ih]
      · simp [smDel, smGet, ih, h', Ne.symm h']
    · by_cases h' : k₀ = k'
      · subst h'; simp [smDel, smGet, h]
      · simp [smDel, smGet, h, h', ih]

theorem smGet_smIns (d : Nat → α) (m : SMap α) (k : Nat) (v : α) (hf : smFree m k) (k' : Nat) :
    smGet d (smIns k v m) k' = if k' = k then v else smGet d m k' := by
  induction m with
  | nil => simp [smIns, smGet, eq_comm]
  | cons p r ih =>
    obtain ⟨k₀, w⟩ := p
    have hk : k₀ ≠ k := hf (k₀, w) (by simp)
    have hr : smFree r k := fun p hp => hf p (by simp [hp])
    by_cases h : k < k₀
    · simp [smIns, smGet, h, eq_comm]
    · by_cases h' : k₀ = k'
      · subst h'; simp [smIns, smGet, h, hk]
      · simp [smIns, smGet, h, h', ih hr]

/-- A read after a write gives the value written at its key, and what was there at every other. -/
theorem smGet_smSet [DecidableEq α] (d : Nat → α) (m : SMap α) (k : Nat) (v : α) (k' : Nat) :
    smGet d (smSet d m k v) k' = if k' = k then v else smGet d m k' := by
  unfold smSet
  split
  · rename_i h
    rw [smGet_smDel]
    split
    · rename_i h'; rw [h', h]
    · rfl
  · rw [smGet_smIns d _ k v (smFree_smDel m k), smGet_smDel]
    by_cases h' : k' = k <;> simp [h']

@[simp] theorem smGet_smSet_same [DecidableEq α] (d : Nat → α) (m : SMap α) (k : Nat) (v : α) :
    smGet d (smSet d m k v) k = v := by simp [smGet_smSet]

theorem smGet_smSet_ne [DecidableEq α] (d : Nat → α) (m : SMap α) {k k' : Nat} (v : α) (h : k' ≠ k) :
    smGet d (smSet d m k v) k' = smGet d m k' := by simp [smGet_smSet, h]

/-! The canonical form. -/

@[simp] theorem smWf_nil [DecidableEq α] (d : Nat → α) : smWf d [] = true := rfl

theorem smWfFrom_mono [DecidableEq α] (d : Nat → α) {lo lo' : Nat} (h : lo ≤ lo') :
    ∀ m : SMap α, smWfFrom d lo' m = true → smWfFrom d lo m = true
  | [], _ => rfl
  | (k, v) :: r, hm => by
    simp only [smWfFrom, Bool.and_eq_true, decide_eq_true_eq] at hm ⊢
    exact ⟨⟨le_trans h hm.1.1, hm.1.2⟩, hm.2⟩

theorem smWfFrom_smDel [DecidableEq α] (d : Nat → α) (k : Nat) :
    ∀ (m : SMap α) (lo : Nat), smWfFrom d lo m = true → smWfFrom d lo (smDel m k) = true
  | [], _, _ => rfl
  | (k', w) :: r, lo, hm => by
    simp only [smWfFrom, Bool.and_eq_true, decide_eq_true_eq] at hm
    by_cases h : k' = k
    · simp only [smDel, h, if_true]
      exact smWfFrom_smDel d k r lo (smWfFrom_mono d (by omega) r hm.2)
    · simp only [smDel, h, if_false, smWfFrom, Bool.and_eq_true, decide_eq_true_eq]
      exact ⟨hm.1, smWfFrom_smDel d k r _ hm.2⟩

theorem smWfFrom_smIns [DecidableEq α] (d : Nat → α) (k : Nat) (v : α) (hv : v ≠ d k) :
    ∀ (m : SMap α) (lo : Nat), lo ≤ k → smFree m k → smWfFrom d lo m = true → smWfFrom d lo (smIns k v m) = true
  | [], lo, hlo, _, _ => by simp [smIns, smWfFrom, hlo, hv]
  | (k', w) :: r, lo, hlo, hf, hm => by
    simp only [smWfFrom, Bool.and_eq_true, decide_eq_true_eq] at hm
    have hk : k' ≠ k := hf (k', w) (by simp)
    have hr : smFree r k := fun p hp => hf p (by simp [hp])
    by_cases h : k < k'
    · simp only [smIns, h, if_true, smWfFrom, Bool.and_eq_true, decide_eq_true_eq]
      exact ⟨⟨hlo, hv⟩, ⟨by omega, hm.1.2⟩, hm.2⟩
    · simp only [smIns, h, if_false, smWfFrom, Bool.and_eq_true, decide_eq_true_eq]
      exact ⟨hm.1, smWfFrom_smIns d k v hv r _ (by omega) hr hm.2⟩

/-- A write keeps the canonical form. -/
theorem smWf_smSet [DecidableEq α] (d : Nat → α) (m : SMap α) (k : Nat) (v : α) (h : smWf d m = true) :
    smWf d (smSet d m k v) = true := by
  unfold smWf smSet at *
  split
  · exact smWfFrom_smDel d k m 0 h
  · rename_i hv
    exact smWfFrom_smIns d k v hv _ 0 (Nat.zero_le k) (smFree_smDel m k) (smWfFrom_smDel d k m 0 h)

theorem smWfFrom_filter [DecidableEq α] (d : Nat → α) (p : Nat × α → Bool) :
    ∀ (m : SMap α) (lo : Nat), smWfFrom d lo m = true → smWfFrom d lo (m.filter p) = true
  | [], _, _ => rfl
  | (k, v) :: r, lo, hm => by
    simp only [smWfFrom, Bool.and_eq_true, decide_eq_true_eq] at hm
    by_cases h : p (k, v)
    · simp only [List.filter, h, smWfFrom, Bool.and_eq_true, decide_eq_true_eq]
      exact ⟨hm.1, smWfFrom_filter d p r _ hm.2⟩
    · simp only [List.filter, h]
      exact smWfFrom_filter d p r lo (smWfFrom_mono d (by omega) r hm.2)

/-- A map with some of its entries dropped is canonical. -/
theorem smWf_filter [DecidableEq α] (d : Nat → α) (p : Nat × α → Bool) (m : SMap α) (h : smWf d m = true) :
    smWf d (m.filter p) = true := smWfFrom_filter d p m 0 h

/-- What a map answers once the keys that fail a test are gone. -/
theorem smGet_filter (d : Nat → α) (p : Nat → Bool) (m : SMap α) (k : Nat) :
    smGet d (m.filter fun q => p q.1) k = if p k then smGet d m k else d k := by
  induction m with
  | nil => simp [smGet]
  | cons q r ih =>
    obtain ⟨j, v⟩ := q
    rw [List.filter_cons]
    by_cases hp : p j = true
    · simp only [hp, if_true, smGet]
      by_cases hj : j = k
      · subst hj; simp [hp]
      · simp only [if_neg hj, ih]
    · simp only [Bool.not_eq_true] at hp
      simp only [hp, Bool.false_eq_true, if_false, ih, smGet]
      by_cases hj : j = k
      · subst hj; simp [hp]
      · simp [hj]

end Sys2Proof
end

