-- ==== Sys2Proof/Laws/State.lean ====
section
/-! SUPPORT. One lemma per field per named update of `Machine/Ops.lean`: what the update leaves alone. -/

namespace Sys2Proof.Machine

variable (s : State)

/-! putReg. -/

@[simp] theorem putReg_pending (o : Nat) (v : Word) : (putReg s o v).pending = s.pending := rfl
@[simp] theorem putReg_free (o : Nat) (v : Word) : (putReg s o v).free = s.free := rfl
@[simp] theorem putReg_raw (o : Nat) (v : Word) : (putReg s o v).raw = s.raw := rfl
@[simp] theorem putReg_latch (o : Nat) (v : Word) : (putReg s o v).latch = s.latch := rfl
@[simp] theorem putReg_low (o : Nat) (v : Word) : (putReg s o v).low = s.low := rfl
@[simp] theorem putReg_once (o : Nat) (v : Word) : (putReg s o v).once = s.once := rfl
@[simp] theorem putReg_mem (o : Nat) (v : Word) : (putReg s o v).mem = s.mem := rfl
@[simp] theorem putReg_ecc (o : Nat) (v : Word) : (putReg s o v).ecc = s.ecc := rfl
@[simp] theorem putReg_frm (o : Nat) (v : Word) : (putReg s o v).frm = s.frm := rfl
@[simp] theorem putReg_txn (o : Nat) (v : Word) : (putReg s o v).txn = s.txn := rfl
@[simp] theorem putReg_spec (o : Nat) (v : Word) : (putReg s o v).spec = s.spec := rfl
@[simp] theorem putReg_leaf (o : Nat) (v : Word) : (putReg s o v).leaf = s.leaf := rfl
@[simp] theorem putReg_flt (o : Nat) (v : Word) : (putReg s o v).flt = s.flt := rfl
@[simp] theorem putReg_hasp (o : Nat) (v : Word) : (putReg s o v).hasp = s.hasp := rfl
@[simp] theorem putReg_olc (o : Nat) (v : Word) : (putReg s o v).olc = s.olc := rfl
@[simp] theorem putReg_mm (o : Nat) (v : Word) : (putReg s o v).mm = s.mm := rfl
@[simp] theorem putReg_lanes (o : Nat) (v : Word) : (putReg s o v).lanes = s.lanes := rfl
@[simp] theorem putReg_time (o : Nat) (v : Word) : (putReg s o v).time = s.time := rfl
@[simp] theorem putReg_dio (o : Nat) (v : Word) : (putReg s o v).dio = s.dio := rfl
@[simp] theorem putReg_ao (o : Nat) (v : Word) : (putReg s o v).ao = s.ao := rfl
@[simp] theorem putReg_rtc (o : Nat) (v : Word) : (putReg s o v).rtc = s.rtc := rfl
@[simp] theorem putReg_ward (o : Nat) (v : Word) : (putReg s o v).ward = s.ward := rfl
@[simp] theorem putReg_pst (o : Nat) (v : Word) : (putReg s o v).pst = s.pst := rfl
@[simp] theorem putReg_evr (o : Nat) (v : Word) : (putReg s o v).evr = s.evr := rfl
@[simp] theorem putReg_pnl (o : Nat) (v : Word) : (putReg s o v).pnl = s.pnl := rfl
@[simp] theorem putReg_boot (o : Nat) (v : Word) : (putReg s o v).boot = s.boot := rfl
@[simp] theorem putReg_host (o : Nat) (v : Word) : (putReg s o v).host = s.host := rfl
@[simp] theorem putReg_tap (o : Nat) (v : Word) : (putReg s o v).tap = s.tap := rfl
@[simp] theorem putReg_pads (o : Nat) (v : Word) : (putReg s o v).pads = s.pads := rfl
@[simp] theorem putReg_answer (o : Nat) (v : Word) : (putReg s o v).answer = s.answer := rfl

/-! putFld. -/

@[simp] theorem putFld_pending (o hi lo x : Nat) : (putFld s o hi lo x).pending = s.pending := rfl
@[simp] theorem putFld_free (o hi lo x : Nat) : (putFld s o hi lo x).free = s.free := rfl
@[simp] theorem putFld_raw (o hi lo x : Nat) : (putFld s o hi lo x).raw = s.raw := rfl
@[simp] theorem putFld_latch (o hi lo x : Nat) : (putFld s o hi lo x).latch = s.latch := rfl
@[simp] theorem putFld_low (o hi lo x : Nat) : (putFld s o hi lo x).low = s.low := rfl
@[simp] theorem putFld_once (o hi lo x : Nat) : (putFld s o hi lo x).once = s.once := rfl
@[simp] theorem putFld_mem (o hi lo x : Nat) : (putFld s o hi lo x).mem = s.mem := rfl
@[simp] theorem putFld_ecc (o hi lo x : Nat) : (putFld s o hi lo x).ecc = s.ecc := rfl
@[simp] theorem putFld_frm (o hi lo x : Nat) : (putFld s o hi lo x).frm = s.frm := rfl
@[simp] theorem putFld_txn (o hi lo x : Nat) : (putFld s o hi lo x).txn = s.txn := rfl
@[simp] theorem putFld_spec (o hi lo x : Nat) : (putFld s o hi lo x).spec = s.spec := rfl
@[simp] theorem putFld_leaf (o hi lo x : Nat) : (putFld s o hi lo x).leaf = s.leaf := rfl
@[simp] theorem putFld_flt (o hi lo x : Nat) : (putFld s o hi lo x).flt = s.flt := rfl
@[simp] theorem putFld_hasp (o hi lo x : Nat) : (putFld s o hi lo x).hasp = s.hasp := rfl
@[simp] theorem putFld_olc (o hi lo x : Nat) : (putFld s o hi lo x).olc = s.olc := rfl
@[simp] theorem putFld_mm (o hi lo x : Nat) : (putFld s o hi lo x).mm = s.mm := rfl
@[simp] theorem putFld_lanes (o hi lo x : Nat) : (putFld s o hi lo x).lanes = s.lanes := rfl
@[simp] theorem putFld_time (o hi lo x : Nat) : (putFld s o hi lo x).time = s.time := rfl
@[simp] theorem putFld_dio (o hi lo x : Nat) : (putFld s o hi lo x).dio = s.dio := rfl
@[simp] theorem putFld_ao (o hi lo x : Nat) : (putFld s o hi lo x).ao = s.ao := rfl
@[simp] theorem putFld_rtc (o hi lo x : Nat) : (putFld s o hi lo x).rtc = s.rtc := rfl
@[simp] theorem putFld_ward (o hi lo x : Nat) : (putFld s o hi lo x).ward = s.ward := rfl
@[simp] theorem putFld_pst (o hi lo x : Nat) : (putFld s o hi lo x).pst = s.pst := rfl
@[simp] theorem putFld_evr (o hi lo x : Nat) : (putFld s o hi lo x).evr = s.evr := rfl
@[simp] theorem putFld_pnl (o hi lo x : Nat) : (putFld s o hi lo x).pnl = s.pnl := rfl
@[simp] theorem putFld_boot (o hi lo x : Nat) : (putFld s o hi lo x).boot = s.boot := rfl
@[simp] theorem putFld_host (o hi lo x : Nat) : (putFld s o hi lo x).host = s.host := rfl
@[simp] theorem putFld_tap (o hi lo x : Nat) : (putFld s o hi lo x).tap = s.tap := rfl
@[simp] theorem putFld_pads (o hi lo x : Nat) : (putFld s o hi lo x).pads = s.pads := rfl
@[simp] theorem putFld_answer (o hi lo x : Nat) : (putFld s o hi lo x).answer = s.answer := rfl

/-! putFlag. -/

@[simp] theorem putFlag_pending (o i : Nat) (b : Bool) : (putFlag s o i b).pending = s.pending := rfl
@[simp] theorem putFlag_free (o i : Nat) (b : Bool) : (putFlag s o i b).free = s.free := rfl
@[simp] theorem putFlag_raw (o i : Nat) (b : Bool) : (putFlag s o i b).raw = s.raw := rfl
@[simp] theorem putFlag_latch (o i : Nat) (b : Bool) : (putFlag s o i b).latch = s.latch := rfl
@[simp] theorem putFlag_low (o i : Nat) (b : Bool) : (putFlag s o i b).low = s.low := rfl
@[simp] theorem putFlag_once (o i : Nat) (b : Bool) : (putFlag s o i b).once = s.once := rfl
@[simp] theorem putFlag_mem (o i : Nat) (b : Bool) : (putFlag s o i b).mem = s.mem := rfl
@[simp] theorem putFlag_ecc (o i : Nat) (b : Bool) : (putFlag s o i b).ecc = s.ecc := rfl
@[simp] theorem putFlag_frm (o i : Nat) (b : Bool) : (putFlag s o i b).frm = s.frm := rfl
@[simp] theorem putFlag_txn (o i : Nat) (b : Bool) : (putFlag s o i b).txn = s.txn := rfl
@[simp] theorem putFlag_spec (o i : Nat) (b : Bool) : (putFlag s o i b).spec = s.spec := rfl
@[simp] theorem putFlag_leaf (o i : Nat) (b : Bool) : (putFlag s o i b).leaf = s.leaf := rfl
@[simp] theorem putFlag_flt (o i : Nat) (b : Bool) : (putFlag s o i b).flt = s.flt := rfl
@[simp] theorem putFlag_hasp (o i : Nat) (b : Bool) : (putFlag s o i b).hasp = s.hasp := rfl
@[simp] theorem putFlag_olc (o i : Nat) (b : Bool) : (putFlag s o i b).olc = s.olc := rfl
@[simp] theorem putFlag_mm (o i : Nat) (b : Bool) : (putFlag s o i b).mm = s.mm := rfl
@[simp] theorem putFlag_lanes (o i : Nat) (b : Bool) : (putFlag s o i b).lanes = s.lanes := rfl
@[simp] theorem putFlag_time (o i : Nat) (b : Bool) : (putFlag s o i b).time = s.time := rfl
@[simp] theorem putFlag_dio (o i : Nat) (b : Bool) : (putFlag s o i b).dio = s.dio := rfl
@[simp] theorem putFlag_ao (o i : Nat) (b : Bool) : (putFlag s o i b).ao = s.ao := rfl
@[simp] theorem putFlag_rtc (o i : Nat) (b : Bool) : (putFlag s o i b).rtc = s.rtc := rfl
@[simp] theorem putFlag_ward (o i : Nat) (b : Bool) : (putFlag s o i b).ward = s.ward := rfl
@[simp] theorem putFlag_pst (o i : Nat) (b : Bool) : (putFlag s o i b).pst = s.pst := rfl
@[simp] theorem putFlag_evr (o i : Nat) (b : Bool) : (putFlag s o i b).evr = s.evr := rfl
@[simp] theorem putFlag_pnl (o i : Nat) (b : Bool) : (putFlag s o i b).pnl = s.pnl := rfl
@[simp] theorem putFlag_boot (o i : Nat) (b : Bool) : (putFlag s o i b).boot = s.boot := rfl
@[simp] theorem putFlag_host (o i : Nat) (b : Bool) : (putFlag s o i b).host = s.host := rfl
@[simp] theorem putFlag_tap (o i : Nat) (b : Bool) : (putFlag s o i b).tap = s.tap := rfl
@[simp] theorem putFlag_pads (o i : Nat) (b : Bool) : (putFlag s o i b).pads = s.pads := rfl
@[simp] theorem putFlag_answer (o i : Nat) (b : Bool) : (putFlag s o i b).answer = s.answer := rfl

/-! putNat. -/

@[simp] theorem putNat_pending (o v : Nat) : (putNat s o v).pending = s.pending := rfl
@[simp] theorem putNat_free (o v : Nat) : (putNat s o v).free = s.free := rfl
@[simp] theorem putNat_raw (o v : Nat) : (putNat s o v).raw = s.raw := rfl
@[simp] theorem putNat_latch (o v : Nat) : (putNat s o v).latch = s.latch := rfl
@[simp] theorem putNat_low (o v : Nat) : (putNat s o v).low = s.low := rfl
@[simp] theorem putNat_once (o v : Nat) : (putNat s o v).once = s.once := rfl
@[simp] theorem putNat_mem (o v : Nat) : (putNat s o v).mem = s.mem := rfl
@[simp] theorem putNat_ecc (o v : Nat) : (putNat s o v).ecc = s.ecc := rfl
@[simp] theorem putNat_frm (o v : Nat) : (putNat s o v).frm = s.frm := rfl
@[simp] theorem putNat_txn (o v : Nat) : (putNat s o v).txn = s.txn := rfl
@[simp] theorem putNat_spec (o v : Nat) : (putNat s o v).spec = s.spec := rfl
@[simp] theorem putNat_leaf (o v : Nat) : (putNat s o v).leaf = s.leaf := rfl
@[simp] theorem putNat_flt (o v : Nat) : (putNat s o v).flt = s.flt := rfl
@[simp] theorem putNat_hasp (o v : Nat) : (putNat s o v).hasp = s.hasp := rfl
@[simp] theorem putNat_olc (o v : Nat) : (putNat s o v).olc = s.olc := rfl
@[simp] theorem putNat_mm (o v : Nat) : (putNat s o v).mm = s.mm := rfl
@[simp] theorem putNat_lanes (o v : Nat) : (putNat s o v).lanes = s.lanes := rfl
@[simp] theorem putNat_time (o v : Nat) : (putNat s o v).time = s.time := rfl
@[simp] theorem putNat_dio (o v : Nat) : (putNat s o v).dio = s.dio := rfl
@[simp] theorem putNat_ao (o v : Nat) : (putNat s o v).ao = s.ao := rfl
@[simp] theorem putNat_rtc (o v : Nat) : (putNat s o v).rtc = s.rtc := rfl
@[simp] theorem putNat_ward (o v : Nat) : (putNat s o v).ward = s.ward := rfl
@[simp] theorem putNat_pst (o v : Nat) : (putNat s o v).pst = s.pst := rfl
@[simp] theorem putNat_evr (o v : Nat) : (putNat s o v).evr = s.evr := rfl
@[simp] theorem putNat_pnl (o v : Nat) : (putNat s o v).pnl = s.pnl := rfl
@[simp] theorem putNat_boot (o v : Nat) : (putNat s o v).boot = s.boot := rfl
@[simp] theorem putNat_host (o v : Nat) : (putNat s o v).host = s.host := rfl
@[simp] theorem putNat_tap (o v : Nat) : (putNat s o v).tap = s.tap := rfl
@[simp] theorem putNat_pads (o v : Nat) : (putNat s o v).pads = s.pads := rfl
@[simp] theorem putNat_answer (o v : Nat) : (putNat s o v).answer = s.answer := rfl

/-! putPair. -/

@[simp] theorem putPair_pending (o v : Nat) : (putPair s o v).pending = s.pending := rfl
@[simp] theorem putPair_free (o v : Nat) : (putPair s o v).free = s.free := rfl
@[simp] theorem putPair_raw (o v : Nat) : (putPair s o v).raw = s.raw := rfl
@[simp] theorem putPair_latch (o v : Nat) : (putPair s o v).latch = s.latch := rfl
@[simp] theorem putPair_low (o v : Nat) : (putPair s o v).low = s.low := rfl
@[simp] theorem putPair_once (o v : Nat) : (putPair s o v).once = s.once := rfl
@[simp] theorem putPair_mem (o v : Nat) : (putPair s o v).mem = s.mem := rfl
@[simp] theorem putPair_ecc (o v : Nat) : (putPair s o v).ecc = s.ecc := rfl
@[simp] theorem putPair_frm (o v : Nat) : (putPair s o v).frm = s.frm := rfl
@[simp] theorem putPair_txn (o v : Nat) : (putPair s o v).txn = s.txn := rfl
@[simp] theorem putPair_spec (o v : Nat) : (putPair s o v).spec = s.spec := rfl
@[simp] theorem putPair_leaf (o v : Nat) : (putPair s o v).leaf = s.leaf := rfl
@[simp] theorem putPair_flt (o v : Nat) : (putPair s o v).flt = s.flt := rfl
@[simp] theorem putPair_hasp (o v : Nat) : (putPair s o v).hasp = s.hasp := rfl
@[simp] theorem putPair_olc (o v : Nat) : (putPair s o v).olc = s.olc := rfl
@[simp] theorem putPair_mm (o v : Nat) : (putPair s o v).mm = s.mm := rfl
@[simp] theorem putPair_lanes (o v : Nat) : (putPair s o v).lanes = s.lanes := rfl
@[simp] theorem putPair_time (o v : Nat) : (putPair s o v).time = s.time := rfl
@[simp] theorem putPair_dio (o v : Nat) : (putPair s o v).dio = s.dio := rfl
@[simp] theorem putPair_ao (o v : Nat) : (putPair s o v).ao = s.ao := rfl
@[simp] theorem putPair_rtc (o v : Nat) : (putPair s o v).rtc = s.rtc := rfl
@[simp] theorem putPair_ward (o v : Nat) : (putPair s o v).ward = s.ward := rfl
@[simp] theorem putPair_pst (o v : Nat) : (putPair s o v).pst = s.pst := rfl
@[simp] theorem putPair_evr (o v : Nat) : (putPair s o v).evr = s.evr := rfl
@[simp] theorem putPair_pnl (o v : Nat) : (putPair s o v).pnl = s.pnl := rfl
@[simp] theorem putPair_boot (o v : Nat) : (putPair s o v).boot = s.boot := rfl
@[simp] theorem putPair_host (o v : Nat) : (putPair s o v).host = s.host := rfl
@[simp] theorem putPair_tap (o v : Nat) : (putPair s o v).tap = s.tap := rfl
@[simp] theorem putPair_pads (o v : Nat) : (putPair s o v).pads = s.pads := rfl
@[simp] theorem putPair_answer (o v : Nat) : (putPair s o v).answer = s.answer := rfl

/-! bumpBy. -/

@[simp] theorem bumpBy_pending (o hi lo n : Nat) : (bumpBy s o hi lo n).pending = s.pending := rfl
@[simp] theorem bumpBy_free (o hi lo n : Nat) : (bumpBy s o hi lo n).free = s.free := rfl
@[simp] theorem bumpBy_raw (o hi lo n : Nat) : (bumpBy s o hi lo n).raw = s.raw := rfl
@[simp] theorem bumpBy_latch (o hi lo n : Nat) : (bumpBy s o hi lo n).latch = s.latch := rfl
@[simp] theorem bumpBy_low (o hi lo n : Nat) : (bumpBy s o hi lo n).low = s.low := rfl
@[simp] theorem bumpBy_once (o hi lo n : Nat) : (bumpBy s o hi lo n).once = s.once := rfl
@[simp] theorem bumpBy_mem (o hi lo n : Nat) : (bumpBy s o hi lo n).mem = s.mem := rfl
@[simp] theorem bumpBy_ecc (o hi lo n : Nat) : (bumpBy s o hi lo n).ecc = s.ecc := rfl
@[simp] theorem bumpBy_frm (o hi lo n : Nat) : (bumpBy s o hi lo n).frm = s.frm := rfl
@[simp] theorem bumpBy_txn (o hi lo n : Nat) : (bumpBy s o hi lo n).txn = s.txn := rfl
@[simp] theorem bumpBy_spec (o hi lo n : Nat) : (bumpBy s o hi lo n).spec = s.spec := rfl
@[simp] theorem bumpBy_leaf (o hi lo n : Nat) : (bumpBy s o hi lo n).leaf = s.leaf := rfl
@[simp] theorem bumpBy_flt (o hi lo n : Nat) : (bumpBy s o hi lo n).flt = s.flt := rfl
@[simp] theorem bumpBy_hasp (o hi lo n : Nat) : (bumpBy s o hi lo n).hasp = s.hasp := rfl
@[simp] theorem bumpBy_olc (o hi lo n : Nat) : (bumpBy s o hi lo n).olc = s.olc := rfl
@[simp] theorem bumpBy_mm (o hi lo n : Nat) : (bumpBy s o hi lo n).mm = s.mm := rfl
@[simp] theorem bumpBy_lanes (o hi lo n : Nat) : (bumpBy s o hi lo n).lanes = s.lanes := rfl
@[simp] theorem bumpBy_time (o hi lo n : Nat) : (bumpBy s o hi lo n).time = s.time := rfl
@[simp] theorem bumpBy_dio (o hi lo n : Nat) : (bumpBy s o hi lo n).dio = s.dio := rfl
@[simp] theorem bumpBy_ao (o hi lo n : Nat) : (bumpBy s o hi lo n).ao = s.ao := rfl
@[simp] theorem bumpBy_rtc (o hi lo n : Nat) : (bumpBy s o hi lo n).rtc = s.rtc := rfl
@[simp] theorem bumpBy_ward (o hi lo n : Nat) : (bumpBy s o hi lo n).ward = s.ward := rfl
@[simp] theorem bumpBy_pst (o hi lo n : Nat) : (bumpBy s o hi lo n).pst = s.pst := rfl
@[simp] theorem bumpBy_evr (o hi lo n : Nat) : (bumpBy s o hi lo n).evr = s.evr := rfl
@[simp] theorem bumpBy_pnl (o hi lo n : Nat) : (bumpBy s o hi lo n).pnl = s.pnl := rfl
@[simp] theorem bumpBy_boot (o hi lo n : Nat) : (bumpBy s o hi lo n).boot = s.boot := rfl
@[simp] theorem bumpBy_host (o hi lo n : Nat) : (bumpBy s o hi lo n).host = s.host := rfl
@[simp] theorem bumpBy_tap (o hi lo n : Nat) : (bumpBy s o hi lo n).tap = s.tap := rfl
@[simp] theorem bumpBy_pads (o hi lo n : Nat) : (bumpBy s o hi lo n).pads = s.pads := rfl
@[simp] theorem bumpBy_answer (o hi lo n : Nat) : (bumpBy s o hi lo n).answer = s.answer := rfl

/-! bump. -/

@[simp] theorem bump_pending (o hi lo : Nat) : (bump s o hi lo).pending = s.pending := rfl
@[simp] theorem bump_free (o hi lo : Nat) : (bump s o hi lo).free = s.free := rfl
@[simp] theorem bump_raw (o hi lo : Nat) : (bump s o hi lo).raw = s.raw := rfl
@[simp] theorem bump_latch (o hi lo : Nat) : (bump s o hi lo).latch = s.latch := rfl
@[simp] theorem bump_low (o hi lo : Nat) : (bump s o hi lo).low = s.low := rfl
@[simp] theorem bump_once (o hi lo : Nat) : (bump s o hi lo).once = s.once := rfl
@[simp] theorem bump_mem (o hi lo : Nat) : (bump s o hi lo).mem = s.mem := rfl
@[simp] theorem bump_ecc (o hi lo : Nat) : (bump s o hi lo).ecc = s.ecc := rfl
@[simp] theorem bump_frm (o hi lo : Nat) : (bump s o hi lo).frm = s.frm := rfl
@[simp] theorem bump_txn (o hi lo : Nat) : (bump s o hi lo).txn = s.txn := rfl
@[simp] theorem bump_spec (o hi lo : Nat) : (bump s o hi lo).spec = s.spec := rfl
@[simp] theorem bump_leaf (o hi lo : Nat) : (bump s o hi lo).leaf = s.leaf := rfl
@[simp] theorem bump_flt (o hi lo : Nat) : (bump s o hi lo).flt = s.flt := rfl
@[simp] theorem bump_hasp (o hi lo : Nat) : (bump s o hi lo).hasp = s.hasp := rfl
@[simp] theorem bump_olc (o hi lo : Nat) : (bump s o hi lo).olc = s.olc := rfl
@[simp] theorem bump_mm (o hi lo : Nat) : (bump s o hi lo).mm = s.mm := rfl
@[simp] theorem bump_lanes (o hi lo : Nat) : (bump s o hi lo).lanes = s.lanes := rfl
@[simp] theorem bump_time (o hi lo : Nat) : (bump s o hi lo).time = s.time := rfl
@[simp] theorem bump_dio (o hi lo : Nat) : (bump s o hi lo).dio = s.dio := rfl
@[simp] theorem bump_ao (o hi lo : Nat) : (bump s o hi lo).ao = s.ao := rfl
@[simp] theorem bump_rtc (o hi lo : Nat) : (bump s o hi lo).rtc = s.rtc := rfl
@[simp] theorem bump_ward (o hi lo : Nat) : (bump s o hi lo).ward = s.ward := rfl
@[simp] theorem bump_pst (o hi lo : Nat) : (bump s o hi lo).pst = s.pst := rfl
@[simp] theorem bump_evr (o hi lo : Nat) : (bump s o hi lo).evr = s.evr := rfl
@[simp] theorem bump_pnl (o hi lo : Nat) : (bump s o hi lo).pnl = s.pnl := rfl
@[simp] theorem bump_boot (o hi lo : Nat) : (bump s o hi lo).boot = s.boot := rfl
@[simp] theorem bump_host (o hi lo : Nat) : (bump s o hi lo).host = s.host := rfl
@[simp] theorem bump_tap (o hi lo : Nat) : (bump s o hi lo).tap = s.tap := rfl
@[simp] theorem bump_pads (o hi lo : Nat) : (bump s o hi lo).pads = s.pads := rfl
@[simp] theorem bump_answer (o hi lo : Nat) : (bump s o hi lo).answer = s.answer := rfl

/-! putByte. -/

@[simp] theorem putByte_pending (a : Nat) (b : Byte) : (putByte s a b).pending = s.pending := rfl
@[simp] theorem putByte_free (a : Nat) (b : Byte) : (putByte s a b).free = s.free := rfl
@[simp] theorem putByte_raw (a : Nat) (b : Byte) : (putByte s a b).raw = s.raw := rfl
@[simp] theorem putByte_regs (a : Nat) (b : Byte) : (putByte s a b).regs = s.regs := rfl
@[simp] theorem putByte_latch (a : Nat) (b : Byte) : (putByte s a b).latch = s.latch := rfl
@[simp] theorem putByte_low (a : Nat) (b : Byte) : (putByte s a b).low = s.low := rfl
@[simp] theorem putByte_once (a : Nat) (b : Byte) : (putByte s a b).once = s.once := rfl
@[simp] theorem putByte_ecc (a : Nat) (b : Byte) : (putByte s a b).ecc = s.ecc := rfl
@[simp] theorem putByte_frm (a : Nat) (b : Byte) : (putByte s a b).frm = s.frm := rfl
@[simp] theorem putByte_txn (a : Nat) (b : Byte) : (putByte s a b).txn = s.txn := rfl
@[simp] theorem putByte_spec (a : Nat) (b : Byte) : (putByte s a b).spec = s.spec := rfl
@[simp] theorem putByte_leaf (a : Nat) (b : Byte) : (putByte s a b).leaf = s.leaf := rfl
@[simp] theorem putByte_flt (a : Nat) (b : Byte) : (putByte s a b).flt = s.flt := rfl
@[simp] theorem putByte_hasp (a : Nat) (b : Byte) : (putByte s a b).hasp = s.hasp := rfl
@[simp] theorem putByte_olc (a : Nat) (b : Byte) : (putByte s a b).olc = s.olc := rfl
@[simp] theorem putByte_mm (a : Nat) (b : Byte) : (putByte s a b).mm = s.mm := rfl
@[simp] theorem putByte_lanes (a : Nat) (b : Byte) : (putByte s a b).lanes = s.lanes := rfl
@[simp] theorem putByte_time (a : Nat) (b : Byte) : (putByte s a b).time = s.time := rfl
@[simp] theorem putByte_dio (a : Nat) (b : Byte) : (putByte s a b).dio = s.dio := rfl
@[simp] theorem putByte_ao (a : Nat) (b : Byte) : (putByte s a b).ao = s.ao := rfl
@[simp] theorem putByte_rtc (a : Nat) (b : Byte) : (putByte s a b).rtc = s.rtc := rfl
@[simp] theorem putByte_ward (a : Nat) (b : Byte) : (putByte s a b).ward = s.ward := rfl
@[simp] theorem putByte_pst (a : Nat) (b : Byte) : (putByte s a b).pst = s.pst := rfl
@[simp] theorem putByte_evr (a : Nat) (b : Byte) : (putByte s a b).evr = s.evr := rfl
@[simp] theorem putByte_pnl (a : Nat) (b : Byte) : (putByte s a b).pnl = s.pnl := rfl
@[simp] theorem putByte_boot (a : Nat) (b : Byte) : (putByte s a b).boot = s.boot := rfl
@[simp] theorem putByte_host (a : Nat) (b : Byte) : (putByte s a b).host = s.host := rfl
@[simp] theorem putByte_tap (a : Nat) (b : Byte) : (putByte s a b).tap = s.tap := rfl
@[simp] theorem putByte_pads (a : Nat) (b : Byte) : (putByte s a b).pads = s.pads := rfl
@[simp] theorem putByte_answer (a : Nat) (b : Byte) : (putByte s a b).answer = s.answer := rfl

/-! putEcc. -/

@[simp] theorem putEcc_pending (a : Nat) (e : Ecc) : (putEcc s a e).pending = s.pending := rfl
@[simp] theorem putEcc_free (a : Nat) (e : Ecc) : (putEcc s a e).free = s.free := rfl
@[simp] theorem putEcc_raw (a : Nat) (e : Ecc) : (putEcc s a e).raw = s.raw := rfl
@[simp] theorem putEcc_regs (a : Nat) (e : Ecc) : (putEcc s a e).regs = s.regs := rfl
@[simp] theorem putEcc_latch (a : Nat) (e : Ecc) : (putEcc s a e).latch = s.latch := rfl
@[simp] theorem putEcc_low (a : Nat) (e : Ecc) : (putEcc s a e).low = s.low := rfl
@[simp] theorem putEcc_once (a : Nat) (e : Ecc) : (putEcc s a e).once = s.once := rfl
@[simp] theorem putEcc_mem (a : Nat) (e : Ecc) : (putEcc s a e).mem = s.mem := rfl
@[simp] theorem putEcc_frm (a : Nat) (e : Ecc) : (putEcc s a e).frm = s.frm := rfl
@[simp] theorem putEcc_txn (a : Nat) (e : Ecc) : (putEcc s a e).txn = s.txn := rfl
@[simp] theorem putEcc_spec (a : Nat) (e : Ecc) : (putEcc s a e).spec = s.spec := rfl
@[simp] theorem putEcc_leaf (a : Nat) (e : Ecc) : (putEcc s a e).leaf = s.leaf := rfl
@[simp] theorem putEcc_flt (a : Nat) (e : Ecc) : (putEcc s a e).flt = s.flt := rfl
@[simp] theorem putEcc_hasp (a : Nat) (e : Ecc) : (putEcc s a e).hasp = s.hasp := rfl
@[simp] theorem putEcc_olc (a : Nat) (e : Ecc) : (putEcc s a e).olc = s.olc := rfl
@[simp] theorem putEcc_mm (a : Nat) (e : Ecc) : (putEcc s a e).mm = s.mm := rfl
@[simp] theorem putEcc_lanes (a : Nat) (e : Ecc) : (putEcc s a e).lanes = s.lanes := rfl
@[simp] theorem putEcc_time (a : Nat) (e : Ecc) : (putEcc s a e).time = s.time := rfl
@[simp] theorem putEcc_dio (a : Nat) (e : Ecc) : (putEcc s a e).dio = s.dio := rfl
@[simp] theorem putEcc_ao (a : Nat) (e : Ecc) : (putEcc s a e).ao = s.ao := rfl
@[simp] theorem putEcc_rtc (a : Nat) (e : Ecc) : (putEcc s a e).rtc = s.rtc := rfl
@[simp] theorem putEcc_ward (a : Nat) (e : Ecc) : (putEcc s a e).ward = s.ward := rfl
@[simp] theorem putEcc_pst (a : Nat) (e : Ecc) : (putEcc s a e).pst = s.pst := rfl
@[simp] theorem putEcc_evr (a : Nat) (e : Ecc) : (putEcc s a e).evr = s.evr := rfl
@[simp] theorem putEcc_pnl (a : Nat) (e : Ecc) : (putEcc s a e).pnl = s.pnl := rfl
@[simp] theorem putEcc_boot (a : Nat) (e : Ecc) : (putEcc s a e).boot = s.boot := rfl
@[simp] theorem putEcc_host (a : Nat) (e : Ecc) : (putEcc s a e).host = s.host := rfl
@[simp] theorem putEcc_tap (a : Nat) (e : Ecc) : (putEcc s a e).tap = s.tap := rfl
@[simp] theorem putEcc_pads (a : Nat) (e : Ecc) : (putEcc s a e).pads = s.pads := rfl
@[simp] theorem putEcc_answer (a : Nat) (e : Ecc) : (putEcc s a e).answer = s.answer := rfl

/-! putBytes. -/

/-- Memory with bytes stored at ascending addresses. -/
def memPut (m : SMap Byte) (a : Nat) : List Byte → SMap Byte
  | [] => m
  | b :: r => memPut (smSet memDefault m a b) (a + 1) r

theorem putBytes_eq (l : List Byte) : ∀ (s : State) (a : Nat), putBytes s a l = { s with mem := memPut s.mem a l } := by
  induction l with
  | nil => intro s a; rfl
  | cons b r ih => intro s a; simp only [putBytes, ih, memPut, putByte]

@[simp] theorem putBytes_pending (a : Nat) (l : List Byte) : (putBytes s a l).pending = s.pending := by simp [putBytes_eq]
@[simp] theorem putBytes_free (a : Nat) (l : List Byte) : (putBytes s a l).free = s.free := by simp [putBytes_eq]
@[simp] theorem putBytes_raw (a : Nat) (l : List Byte) : (putBytes s a l).raw = s.raw := by simp [putBytes_eq]
@[simp] theorem putBytes_regs (a : Nat) (l : List Byte) : (putBytes s a l).regs = s.regs := by simp [putBytes_eq]
@[simp] theorem putBytes_latch (a : Nat) (l : List Byte) : (putBytes s a l).latch = s.latch := by simp [putBytes_eq]
@[simp] theorem putBytes_low (a : Nat) (l : List Byte) : (putBytes s a l).low = s.low := by simp [putBytes_eq]
@[simp] theorem putBytes_once (a : Nat) (l : List Byte) : (putBytes s a l).once = s.once := by simp [putBytes_eq]
@[simp] theorem putBytes_ecc (a : Nat) (l : List Byte) : (putBytes s a l).ecc = s.ecc := by simp [putBytes_eq]
@[simp] theorem putBytes_frm (a : Nat) (l : List Byte) : (putBytes s a l).frm = s.frm := by simp [putBytes_eq]
@[simp] theorem putBytes_txn (a : Nat) (l : List Byte) : (putBytes s a l).txn = s.txn := by simp [putBytes_eq]
@[simp] theorem putBytes_spec (a : Nat) (l : List Byte) : (putBytes s a l).spec = s.spec := by simp [putBytes_eq]
@[simp] theorem putBytes_leaf (a : Nat) (l : List Byte) : (putBytes s a l).leaf = s.leaf := by simp [putBytes_eq]
@[simp] theorem putBytes_flt (a : Nat) (l : List Byte) : (putBytes s a l).flt = s.flt := by simp [putBytes_eq]
@[simp] theorem putBytes_hasp (a : Nat) (l : List Byte) : (putBytes s a l).hasp = s.hasp := by simp [putBytes_eq]
@[simp] theorem putBytes_olc (a : Nat) (l : List Byte) : (putBytes s a l).olc = s.olc := by simp [putBytes_eq]
@[simp] theorem putBytes_mm (a : Nat) (l : List Byte) : (putBytes s a l).mm = s.mm := by simp [putBytes_eq]
@[simp] theorem putBytes_lanes (a : Nat) (l : List Byte) : (putBytes s a l).lanes = s.lanes := by simp [putBytes_eq]
@[simp] theorem putBytes_time (a : Nat) (l : List Byte) : (putBytes s a l).time = s.time := by simp [putBytes_eq]
@[simp] theorem putBytes_dio (a : Nat) (l : List Byte) : (putBytes s a l).dio = s.dio := by simp [putBytes_eq]
@[simp] theorem putBytes_ao (a : Nat) (l : List Byte) : (putBytes s a l).ao = s.ao := by simp [putBytes_eq]
@[simp] theorem putBytes_rtc (a : Nat) (l : List Byte) : (putBytes s a l).rtc = s.rtc := by simp [putBytes_eq]
@[simp] theorem putBytes_ward (a : Nat) (l : List Byte) : (putBytes s a l).ward = s.ward := by simp [putBytes_eq]
@[simp] theorem putBytes_pst (a : Nat) (l : List Byte) : (putBytes s a l).pst = s.pst := by simp [putBytes_eq]
@[simp] theorem putBytes_evr (a : Nat) (l : List Byte) : (putBytes s a l).evr = s.evr := by simp [putBytes_eq]
@[simp] theorem putBytes_pnl (a : Nat) (l : List Byte) : (putBytes s a l).pnl = s.pnl := by simp [putBytes_eq]
@[simp] theorem putBytes_boot (a : Nat) (l : List Byte) : (putBytes s a l).boot = s.boot := by simp [putBytes_eq]
@[simp] theorem putBytes_host (a : Nat) (l : List Byte) : (putBytes s a l).host = s.host := by simp [putBytes_eq]
@[simp] theorem putBytes_tap (a : Nat) (l : List Byte) : (putBytes s a l).tap = s.tap := by simp [putBytes_eq]
@[simp] theorem putBytes_pads (a : Nat) (l : List Byte) : (putBytes s a l).pads = s.pads := by simp [putBytes_eq]
@[simp] theorem putBytes_answer (a : Nat) (l : List Byte) : (putBytes s a l).answer = s.answer := by simp [putBytes_eq]
@[simp] theorem putBytes_mem (a : Nat) (l : List Byte) : (putBytes s a l).mem = memPut s.mem a l := by simp [putBytes_eq]

end Sys2Proof.Machine
end

