-- ==== Sys2Proof/Laws/Regs.lean ====
section
/-! SUPPORT. The laws of registers and their fields: a read after a write. -/

namespace Sys2Proof.Machine

variable (s : State)

/-! Bit fields of a number. -/

theorem bits_lt (v hi lo : Nat) : bits v hi lo < 2 ^ (hi - lo + 1) := Nat.mod_lt _ (Nat.two_pow_pos _)

theorem bits_zero (hi lo : Nat) : bits 0 hi lo = 0 := by simp [bits]

/-- A number as its part below a field, the field, and its part above. -/
theorem bits_split (v lo w : Nat) :
    v = v % 2 ^ lo + v / 2 ^ lo % 2 ^ w * 2 ^ lo + v / 2 ^ (lo + w) * 2 ^ (lo + w) := by
  have h1 := Nat.div_add_mod v (2 ^ lo)
  have h2 := Nat.div_add_mod (v / 2 ^ lo) (2 ^ w)
  have h3 : v / 2 ^ lo / 2 ^ w = v / 2 ^ (lo + w) := by rw [Nat.div_div_eq_div_mul, ← pow_add]
  rw [h3] at h2
  have h4 : 2 ^ (lo + w) = 2 ^ lo * 2 ^ w := pow_add 2 lo w
  generalize v / 2 ^ (lo + w) = q at *
  generalize v / 2 ^ lo % 2 ^ w = m at *
  rw [h4]
  calc v = 2 ^ lo * (v / 2 ^ lo) + v % 2 ^ lo := h1.symm
    _ = 2 ^ lo * (2 ^ w * q + m) + v % 2 ^ lo := by rw [h2]
    _ = _ := by ring

/-- A number with a field replaced, in the same parts. -/
theorem withBits_split (v hi lo x : Nat) :
    withBits v hi lo x = v % 2 ^ lo + x % 2 ^ (hi - lo + 1) * 2 ^ lo + v / 2 ^ (lo + (hi - lo + 1)) * 2 ^ (lo + (hi - lo + 1)) := by
  have h := bits_split v lo (hi - lo + 1)
  unfold withBits bits
  omega

/-- The field just written. -/
theorem bits_withBits_same (v hi lo x : Nat) : bits (withBits v hi lo x) hi lo = x % 2 ^ (hi - lo + 1) := by
  rw [withBits_split, bits]
  generalize hi - lo + 1 = w
  have h : v % 2 ^ lo + x % 2 ^ w * 2 ^ lo + v / 2 ^ (lo + w) * 2 ^ (lo + w) =
      v % 2 ^ lo + (x % 2 ^ w + v / 2 ^ (lo + w) * 2 ^ w) * 2 ^ lo := by
    rw [pow_add]; ring
  rw [h, Nat.add_mul_div_right _ _ (Nat.two_pow_pos lo), Nat.div_eq_of_lt (Nat.mod_lt _ (Nat.two_pow_pos lo)), Nat.zero_add,
    Nat.add_mul_mod_self_right, Nat.mod_mod]

/-- A field that lies below the one written. -/
theorem bits_withBits_below (v hi lo x hi' lo' : Nat) (h : hi' < lo) (h' : lo' ≤ hi') :
    bits (withBits v hi lo x) hi' lo' = bits v hi' lo' := by
  have field : ∀ u i : Nat, (bits u hi' lo').testBit i = (decide (i < hi' - lo' + 1) && u.testBit (lo' + i)) := by
    intro u i
    rw [bits, Nat.testBit_mod_two_pow, Nat.testBit_div_two_pow, Nat.add_comm i lo']
  have low : withBits v hi lo x % 2 ^ lo = v % 2 ^ lo := by
    have e : 2 ^ (lo + (hi - lo + 1)) = 2 ^ (hi - lo + 1) * 2 ^ lo := by rw [Nat.add_comm, pow_add]
    rw [withBits_split, e, ← Nat.mul_assoc, Nat.add_mul_mod_self_right, Nat.add_mul_mod_self_right, Nat.mod_mod]
  apply Nat.eq_of_testBit_eq
  intro i
  rw [field, field]
  by_cases hi2 : i < hi' - lo' + 1
  · have hlt : lo' + i < lo := by omega
    have := congrArg (fun u => u.testBit (lo' + i)) low
    have same : (withBits v hi lo x).testBit (lo' + i) = v.testBit (lo' + i) := by simpa [Nat.testBit_mod_two_pow, hlt] using this
    rw [same]
  · simp [hi2]

/-- A field that lies above the one written. -/
theorem bits_withBits_above (v hi lo x hi' lo' : Nat) (h : hi < lo') (hl : lo ≤ hi) :
    bits (withBits v hi lo x) hi' lo' = bits v hi' lo' := by
  have key : ∀ u : Nat, u / 2 ^ lo' = u / 2 ^ (hi + 1) / 2 ^ (lo' - (hi + 1)) := by
    intro u
    rw [Nat.div_div_eq_div_mul, ← pow_add]
    congr 2; omega
  simp only [bits]
  rw [key, key v]
  congr 2
  rw [withBits_split]
  have e : lo + (hi - lo + 1) = hi + 1 := by omega
  rw [e, Nat.add_mul_div_right _ _ (Nat.two_pow_pos (hi + 1)), Nat.div_eq_of_lt, Nat.zero_add]
  have h1 : v % 2 ^ lo < 2 ^ lo := Nat.mod_lt _ (Nat.two_pow_pos lo)
  have h2 : x % 2 ^ (hi - lo + 1) < 2 ^ (hi - lo + 1) := Nat.mod_lt _ (Nat.two_pow_pos _)
  have h3 : 2 ^ (hi + 1) = 2 ^ (hi - lo + 1) * 2 ^ lo := by rw [← pow_add]; congr 1; omega
  rw [h3]
  calc v % 2 ^ lo + x % 2 ^ (hi - lo + 1) * 2 ^ lo < 2 ^ lo + x % 2 ^ (hi - lo + 1) * 2 ^ lo := by omega
    _ = (x % 2 ^ (hi - lo + 1) + 1) * 2 ^ lo := by ring
    _ ≤ 2 ^ (hi - lo + 1) * 2 ^ lo := Nat.mul_le_mul_right _ h2

/-- A field of a 32-bit word, replaced, stays a 32-bit word. -/
theorem withBits_lt (v hi lo x : Nat) (hv : v < 2 ^ 32) (h : hi ≤ 31) (hl : lo ≤ hi) : withBits v hi lo x < 2 ^ 32 := by
  have key : withBits v hi lo x / 2 ^ 32 = 0 := by
    have := bits_withBits_above v hi lo x 63 32 (by omega) hl
    simp only [bits] at this
    rw [Nat.div_eq_of_lt hv] at this
    rw [withBits_split]
    have e : lo + (hi - lo + 1) = hi + 1 := by omega
    rw [e]
    apply Nat.div_eq_of_lt
    have h1 : v % 2 ^ lo < 2 ^ lo := Nat.mod_lt _ (Nat.two_pow_pos lo)
    have h2 : x % 2 ^ (hi - lo + 1) < 2 ^ (hi - lo + 1) := Nat.mod_lt _ (Nat.two_pow_pos _)
    have h3 : 2 ^ (hi + 1) = 2 ^ (hi - lo + 1) * 2 ^ lo := by rw [← pow_add]; congr 1; omega
    have h4 : v / 2 ^ (hi + 1) < 2 ^ (31 - hi) := by
      apply Nat.div_lt_of_lt_mul
      rw [← pow_add]
      have : hi + 1 + (31 - hi) = 32 := by omega
      rw [this]; exact hv
    have h5 : v % 2 ^ lo + x % 2 ^ (hi - lo + 1) * 2 ^ lo < 2 ^ (hi + 1) := by
      rw [h3]
      calc v % 2 ^ lo + x % 2 ^ (hi - lo + 1) * 2 ^ lo < 2 ^ lo + x % 2 ^ (hi - lo + 1) * 2 ^ lo := by omega
        _ = (x % 2 ^ (hi - lo + 1) + 1) * 2 ^ lo := by ring
        _ ≤ 2 ^ (hi - lo + 1) * 2 ^ lo := Nat.mul_le_mul_right _ h2
    have h6 : 2 ^ 32 = 2 ^ (31 - hi) * 2 ^ (hi + 1) := by rw [← pow_add]; congr 1; omega
    rw [h6]
    calc v % 2 ^ lo + x % 2 ^ (hi - lo + 1) * 2 ^ lo + v / 2 ^ (hi + 1) * 2 ^ (hi + 1)
        < 2 ^ (hi + 1) + v / 2 ^ (hi + 1) * 2 ^ (hi + 1) := by omega
      _ = (v / 2 ^ (hi + 1) + 1) * 2 ^ (hi + 1) := by ring
      _ ≤ 2 ^ (31 - hi) * 2 ^ (hi + 1) := Nat.mul_le_mul_right _ h4
  exact (Nat.div_eq_zero_iff_lt (by norm_num)).mp key

/-! Registers. -/

theorem getReg_putReg (o o' : Nat) (v : Word) : getReg (putReg s o v) o' = if o' = o then v else getReg s o' := by
  simp [getReg, putReg, smGet_smSet]

@[simp] theorem getReg_putReg_same (o : Nat) (v : Word) : getReg (putReg s o v) o = v := by simp [getReg_putReg]

theorem getReg_putReg_ne {o o' : Nat} (v : Word) (h : o' ≠ o) : getReg (putReg s o v) o' = getReg s o' := by
  simp [getReg_putReg, h]

theorem getReg_putFld_ne {o o' : Nat} (hi lo x : Nat) (h : o' ≠ o) : getReg (putFld s o hi lo x) o' = getReg s o' := by
  simp [putFld, getReg_putReg, h]

theorem getReg_putFlag_ne {o o' : Nat} (i : Nat) (b : Bool) (h : o' ≠ o) : getReg (putFlag s o i b) o' = getReg s o' :=
  getReg_putFld_ne s i i (b2n b) h

theorem getReg_putNat_ne {o o' : Nat} (v : Nat) (h : o' ≠ o) : getReg (putNat s o v) o' = getReg s o' := by
  simp [putNat, getReg_putReg, h]

theorem getReg_bump_ne {o o' : Nat} (hi lo : Nat) (h : o' ≠ o) : getReg (bump s o hi lo) o' = getReg s o' := by
  simp [bump, bumpBy, getReg_putFld_ne, h]

@[simp] theorem getReg_putNat_same (o v : Nat) : getReg (putNat s o v) o = BitVec.ofNat 32 v := by simp [putNat]

@[simp] theorem regNat_putNat_same (o v : Nat) : regNat (putNat s o v) o = v % 2 ^ 32 := by simp [regNat, putNat]

/-- The value of a register with a field replaced. -/
theorem toNat_putFld (o hi lo x : Nat) (h : hi ≤ 31) (hl : lo ≤ hi) :
    (getReg (putFld s o hi lo x) o).toNat = withBits (getReg s o).toNat hi lo x := by
  simp only [putFld, getReg_putReg_same, BitVec.toNat_ofNat]
  exact Nat.mod_eq_of_lt (withBits_lt _ hi lo x (getReg s o).isLt h hl)

/-- A field reads as it was written. -/
theorem fld_putFld_same (o hi lo x : Nat) (h : hi ≤ 31) (hl : lo ≤ hi) :
    fld (putFld s o hi lo x) o hi lo = x % 2 ^ (hi - lo + 1) := by
  rw [fld, toNat_putFld s o hi lo x h hl, bits_withBits_same]

/-- A field keeps its value when another one of its register, or another register, is written. -/
theorem fld_putFld_other (o hi lo x o' hi' lo' : Nat) (h : hi ≤ 31) (hl : lo ≤ hi) (hl' : lo' ≤ hi')
    (hd : o' ≠ o ∨ hi' < lo ∨ hi < lo') : fld (putFld s o hi lo x) o' hi' lo' = fld s o' hi' lo' := by
  by_cases ho : o' = o
  · subst ho
    rw [fld, toNat_putFld s o' hi lo x h hl, fld]
    rcases hd with hd | hd | hd
    · exact absurd rfl hd
    · exact bits_withBits_below _ _ _ _ _ _ hd hl'
    · exact bits_withBits_above _ _ _ _ _ _ hd hl
  · simp [fld, getReg_putFld_ne s hi lo x ho]

/-- A flag is a field of one bit. -/
theorem flag_eq_fld (o i : Nat) : flag s o i = decide (fld s o i i = 1) := by
  have hb : fld s o i i = (getReg s o).toNat / 2 ^ i % 2 := by simp [fld, bits]
  rw [hb, flag, BitVec.getLsbD, Nat.testBit_eq_decide_div_mod_eq]

theorem flag_putFlag_same (o i : Nat) (b : Bool) (h : i ≤ 31) : flag (putFlag s o i b) o i = b := by
  rw [flag_eq_fld, putFlag, fld_putFld_same s o i i _ h (le_refl i)]
  cases b <;> simp [b2n]

theorem flag_putFlag_other (o i o' i' : Nat) (b : Bool) (h : i ≤ 31) (hd : o' ≠ o ∨ i' ≠ i) :
    flag (putFlag s o i b) o' i' = flag s o' i' := by
  rw [flag_eq_fld, flag_eq_fld, putFlag, fld_putFld_other s o i i _ o' i' i' h (le_refl i) (le_refl i') (by omega)]

theorem flag_putFld_other (o hi lo x o' i' : Nat) (h : hi ≤ 31) (hl : lo ≤ hi) (hd : o' ≠ o ∨ i' < lo ∨ hi < i') :
    flag (putFld s o hi lo x) o' i' = flag s o' i' := by
  rw [flag_eq_fld, flag_eq_fld, fld_putFld_other s o hi lo x o' i' i' h hl (le_refl i') hd]

theorem fld_putFlag_other (o i o' hi' lo' : Nat) (b : Bool) (h : i ≤ 31) (hl' : lo' ≤ hi') (hd : o' ≠ o ∨ hi' < i ∨ i < lo') :
    fld (putFlag s o i b) o' hi' lo' = fld s o' hi' lo' := fld_putFld_other s o i i _ o' hi' lo' h (le_refl i) hl' hd

/-- A saturating counter after one count. -/
theorem fld_bump_same (o hi lo : Nat) (h : hi ≤ 31) (hl : lo ≤ hi) :
    fld (bump s o hi lo) o hi lo = min (fld s o hi lo + 1) (2 ^ (hi - lo + 1) - 1) := by
  rw [bump, bumpBy, fld_putFld_same s o hi lo _ h hl]
  have := Nat.two_pow_pos (hi - lo + 1)
  exact Nat.mod_eq_of_lt (by omega)

/-- The value of a register pair after a write of both halves. -/
theorem pair_putPair (o v : Nat) : pair (putPair s o v) o = v % 2 ^ 64 := by
  have h : o ≠ o + 4 := by omega
  simp only [pair, putPair, regNat, getReg_putNat_ne _ _ h, getReg_putNat_same, BitVec.toNat_ofNat]
  omega

/-- A register write keeps the canonical form of the register file. -/
theorem putReg_wf (o : Nat) (v : Word) (h : smWf regReset s.regs = true) : smWf regReset (putReg s o v).regs = true :=
  smWf_smSet regReset s.regs o v h

theorem putFld_wf (o hi lo x : Nat) (h : smWf regReset s.regs = true) : smWf regReset (putFld s o hi lo x).regs = true :=
  putReg_wf s o _ h

theorem putNat_wf (o v : Nat) (h : smWf regReset s.regs = true) : smWf regReset (putNat s o v).regs = true := putReg_wf s o _ h

end Sys2Proof.Machine
end

