-- ==== Sys2Proof/Laws/Faults.lean ====
section
/-! SUPPORT. What taking faults does: nothing where none has arrived, and, for notices and F1 faults with room in the queue,
nothing outside what `Noted` names. -/

namespace Sys2Proof.Machine

/-! Nothing has arrived. -/

theorem takeArrivals_none (n : Nat) (s : State) (h : s.flt.arrived = []) : takeArrivals n s = s := by
  cases n with
  | zero =>
    have : ({ s with flt := { s.flt with arrived := [] } } : State) = s := by rw [← h]
    simpa [takeArrivals] using this
  | succ n => simp [takeArrivals, h]

theorem settleFaults_none (s : State) (h : s.flt.arrived = []) : settleFaults s = s := takeArrivals_none 4 s h

/-- Every arrival has been taken. -/
theorem takeArrivals_arrived (n : Nat) (s : State) : (takeArrivals n s).flt.arrived = [] := by
  induction n generalizing s with
  | zero => rfl
  | succ n ih =>
    unfold takeArrivals
    split
    · rename_i h
      simpa using h
    · exact ih _

theorem settleFaults_arrived (s : State) : (settleFaults s).flt.arrived = [] := takeArrivals_arrived 4 s

/-- A command that acts leaves no fault waiting. -/
theorem act_settled (s : State) (f : State → State) (h : s.flt.arrived = []) :
    ∃ t, act s f = .next t ∧ t.flt.arrived = [] := by
  refine ⟨_, rfl, ?_⟩
  split
  · exact settleFaults_arrived _
  · exact h

theorem run_settled (s : State) (f : State → State) : ∃ t, run f s = .next t ∧ t.flt.arrived = [] :=
  ⟨_, rfl, settleFaults_arrived _⟩

theorem act_runs {s : State} (f : State → State) (h : alive s = true) : act s f = .next (settleFaults (f s)) := by
  simp [act, h]

/-- A command that raises no fault. -/
theorem act_quiet {s : State} (f : State → State) (h : alive s = true) (hf : (f s).flt.arrived = []) : act s f = .next (f s) := by
  rw [act_runs f h, settleFaults_none _ hf]

theorem run_quiet {s : State} (f : State → State) (hf : (f s).flt.arrived = []) : run f s = .next (f s) := by
  simp [run, settleFaults_none _ hf]

/-! Noted. -/

theorem noted_refl (s : State) : Noted s s := ⟨rfl, rfl, rfl, rfl, fun _ _ => rfl⟩

theorem noted_trans {a b c : State} (h : Noted a b) (k : Noted b c) : Noted a c := by
  refine ⟨?_, ?_, ?_, ?_, fun o ho => (k.regs o ho).trans (h.regs o ho)⟩
  · rw [← h.rest, ← k.rest]
  · rw [← h.flt, ← k.flt]
  · rw [← h.evr, ← k.evr]
  · rw [← h.host, ← k.host]

theorem noted_putReg (s : State) (o : Nat) (v : Word) (h : faultReg o = true) : Noted s (putReg s o v) := by
  refine ⟨rfl, rfl, rfl, rfl, fun o' ho => getReg_putReg_ne s v ?_⟩
  rintro rfl
  simp [h] at ho

theorem noted_putFld (s : State) (o hi lo x : Nat) (h : faultReg o = true) : Noted s (putFld s o hi lo x) := noted_putReg s o _ h

theorem noted_putFlag (s : State) (o i : Nat) (b : Bool) (h : faultReg o = true) : Noted s (putFlag s o i b) := noted_putReg s o _ h

theorem noted_bump (s : State) (o hi lo : Nat) (h : faultReg o = true) : Noted s (bump s o hi lo) := noted_putReg s o _ h

theorem noted_queue (s : State) (q : List FltEntry) : Noted s { s with flt := { s.flt with queue := q } } :=
  ⟨rfl, rfl, rfl, rfl, fun _ _ => rfl⟩

theorem noted_arrived (s : State) (q : List Arrival) : Noted s { s with flt := { s.flt with arrived := q } } :=
  ⟨rfl, rfl, rfl, rfl, fun _ _ => rfl⟩

theorem noted_msgs (s : State) (q : List Nat) : Noted s { s with host := { s.host with msgs := q } } :=
  ⟨rfl, rfl, rfl, rfl, fun _ _ => rfl⟩

theorem noted_firings (s : State) (q : List Firing) : Noted s { s with evr := { s.evr with queue := q } } :=
  ⟨rfl, rfl, rfl, rfl, fun _ _ => rfl⟩

/-- An interrupt cause. -/
theorem noted_cause (v : Nat) (s : State) : Noted s (cause v s) := by
  have hc : ∀ b : Bool, faultReg (if b then Reg.HOST_CAUSE_LO else Reg.HOST_CAUSE_HI) = true := by decide
  have hp : ∀ b : Bool, faultReg (if b then Reg.HOST_PBA_LO else Reg.HOST_PBA_HI) = true := by decide
  have hc' := hc (decide (v < 32))
  have hp' := hp (decide (v < 32))
  simp only [decide_eq_true_eq] at hc' hp'
  simp only [cause]
  generalize (if v < 32 then Reg.HOST_CAUSE_LO else Reg.HOST_CAUSE_HI) = o at *
  generalize (if v < 32 then Reg.HOST_PBA_LO else Reg.HOST_PBA_HI) = p at *
  split
  · exact noted_refl s
  · split
    · exact noted_putFlag _ _ _ _ hc'
    · split
      · exact noted_trans (noted_putFlag _ _ _ _ hc') (noted_putFlag _ _ _ _ hp')
      · exact noted_trans (noted_putFlag _ _ _ _ hc') (noted_msgs _ _)

theorem cause_flt (v : Nat) (s : State) : (cause v s).flt = s.flt := by
  simp only [cause]
  generalize (if v < 32 then Reg.HOST_CAUSE_LO else Reg.HOST_CAUSE_HI) = o
  generalize (if v < 32 then Reg.HOST_PBA_LO else Reg.HOST_PBA_HI) = p
  split
  · rfl
  · split
    · rfl
    · split <;> rfl

/-- A firing is queued, or counted as dropped. -/
theorem noted_queueFiring (src : Nat) (code : BitVec 16) (mas : Nat) (s : State) : Noted s (queueFiring src code mas s).1 := by
  unfold queueFiring
  split
  · exact noted_firings _ _
  · exact noted_bump _ _ _ _ (by decide)

theorem queueFiring_flt (src : Nat) (code : BitVec 16) (mas : Nat) (s : State) : (queueFiring src code mas s).1.flt = s.flt := by
  unfold queueFiring
  split <;> rfl

/-- A notice or an F1 fault arrives: it is counted, and no action follows. -/
theorem report_low (code cls : Nat) (mas : BitVec 4) (s : State) (h : cls ≤ 1) :
    report code cls mas s = { bump s (Reg.FLT_CNT cls) 31 0 with flt := { s.flt with arrived := s.flt.arrived ++
      [{ code := BitVec.ofNat 16 code, cls := Fin.ofNat 4 cls, esc := false, master := mas }] } } := by
  have h2 : cls ≠ 2 := by omega
  have h3 : cls ≠ 3 := by omega
  simp [report, escalates, classAction, h2, h3]

theorem noted_report (code cls : Nat) (mas : BitVec 4) (s : State) (h : cls ≤ 1) : Noted s (report code cls mas s) := by
  rw [report_low code cls mas s h]
  have hc : faultReg (Reg.FLT_CNT cls) = true := by
    rcases Nat.le_one_iff_eq_zero_or_eq_one.mp h with rfl | rfl <;> decide
  exact noted_trans (noted_bump s _ 31 0 hc) (noted_arrived _ _)

/-! A fault is taken. -/

/-- A notice or an F1 fault that can be entered: it is not escalated, and its code is not QUEUE_FULL's. -/
def Small (a : Arrival) : Prop := a.cls.val ≤ 1 ∧ a.esc = false ∧ a.code.toNat ≠ codeQueueFull

/-- The entry that the recorder's DROP leaves in the queue. -/
def dropArrival (a : Arrival) : Prop := a.code = BitVec.ofNat 16 codeDrop ∧ a.cls = 0 ∧ a.esc = false

theorem small_of_drop (a : Arrival) (h : dropArrival a) : Small a := by
  refine ⟨?_, h.2.2, ?_⟩
  · rw [h.2.1]; decide
  · rw [h.1]; decide

/-- The entry of a code and a class stands in the queue. -/
def Entered' (code : BitVec 16) (cls : Fin 4) (s : State) : Prop := ∃ e ∈ s.flt.queue, e.code = code ∧ e.cls = cls

/-- The newest entry of the queue has a code and a class. -/
def Newest (code : BitVec 16) (cls : Fin 4) (s : State) : Prop := ∃ e, s.flt.queue.getLast? = some e ∧ e.code = code ∧ e.cls = cls

/-- Entering a fault in a queue that is not full. -/
theorem enqueue_room (e : FltEntry) (s : State) (h : s.flt.queue.length < 64) :
    ∃ q, (enqueue e s).1 = { s with flt := { s.flt with queue := q } } ∧ (enqueue e s).2 ≠ .lost ∧
      q.length ≤ s.flt.queue.length + 1 ∧ (Newest e.code e.cls s → q.length = s.flt.queue.length) ∧
      (∃ f, q.getLast? = some f ∧ f.code = e.code ∧ f.cls = e.cls) ∧
      (∀ f ∈ s.flt.queue, ∃ g ∈ q, g.code = f.code ∧ g.cls = f.cls) := by
  simp only [enqueue]
  cases hq : s.flt.queue.getLast? with
  | none =>
    refine ⟨[e], by simp, by simp, by simp, ?_, ⟨e, by simp⟩, ?_⟩
    · rintro ⟨x, hx, -⟩
      simp [hq] at hx
    · have : s.flt.queue = [] := by simpa using hq
      simp [this]
  | some n =>
    simp only []
    have hd : s.flt.queue = s.flt.queue.dropLast ++ [n] := by
      obtain ⟨l, hl⟩ := List.getLast?_eq_some_iff.mp hq
      rw [hl]; simp
    split
    · rename_i hm
      refine ⟨_, rfl, by simp, ?_, ?_, ⟨{ n with rep := min 255 (n.rep + 1) }, by simp, hm.1, hm.2⟩, ?_⟩
      · conv_rhs => rw [hd]
        simp
      · intro _
        conv_rhs => rw [hd]
        simp
      · intro f hf
        rw [hd] at hf
        rcases List.mem_append.mp hf with hf | hf
        · exact ⟨f, by simp [hf], rfl, rfl⟩
        · have : f = n := by simpa using hf
          subst this
          exact ⟨{ f with rep := min 255 (f.rep + 1) }, by simp, rfl, rfl⟩
    · rename_i hm
      refine ⟨_, rfl, by simp, by simp, ?_, ⟨e, by simp⟩, fun f hf => ⟨f, by simp [hf], rfl, rfl⟩⟩
      rintro ⟨x, hx, hx'⟩
      rw [hq] at hx
      cases hx
      exact absurd hx' hm

/-- The recorder's firings for a fault: what they leave, and the DROPs that they raise. -/
theorem firings_noted (l : List Nat) (code : BitVec 16) (s : State) :
    let f := fun (s : State) n =>
      let (s, ok) := queueFiring n code 7 s
      if ok then s else raise codeDrop 0 s
    Noted s (l.foldl f s) ∧ (l.foldl f s).flt.queue = s.flt.queue ∧
      ∃ d : List Arrival, (l.foldl f s).flt.arrived = s.flt.arrived ++ d ∧ ∀ a ∈ d, dropArrival a := by
  intro f
  induction l generalizing s with
  | nil => exact ⟨noted_refl s, rfl, [], by simp, by simp⟩
  | cons n r ih =>
    have step : Noted s (f s n) ∧ (f s n).flt.queue = s.flt.queue ∧
        ∃ d : List Arrival, (f s n).flt.arrived = s.flt.arrived ++ d ∧ ∀ a ∈ d, dropArrival a := by
      have hn := noted_queueFiring n code 7 s
      have hq := queueFiring_flt n code 7 s
      show Noted s (if (queueFiring n code 7 s).2 then _ else _) ∧ _
      simp only [f]
      split
      · exact ⟨hn, by rw [hq], [], by simp [hq], by simp⟩
      · refine ⟨noted_trans hn (noted_report codeDrop 0 0xF _ (by omega)), ?_, ?_⟩
        · rw [raise, report_low _ _ _ _ (by omega)]
          simp [hq]
        · rw [raise, report_low _ _ _ _ (by omega)]
          refine ⟨_, by simp [hq]; rfl, ?_⟩
          intro a ha
          have : a = { code := BitVec.ofNat 16 codeDrop, cls := Fin.ofNat 4 0, esc := false, master := 0xF } := by simpa using ha
          subst this
          exact ⟨rfl, rfl, rfl⟩
    obtain ⟨h1, h2, d, h3, h4⟩ := step
    obtain ⟨k1, k2, d', k3, k4⟩ := ih (f s n)
    refine ⟨noted_trans h1 k1, k2.trans h2, d ++ d', ?_, ?_⟩
    · show (r.foldl f (f s n)).flt.arrived = _
      rw [k3, h3, List.append_assoc]
    · intro a ha
      rcases List.mem_append.mp ha with ha | ha
      · exact h4 a ha
      · exact k4 a ha

/-- Taking a small fault with room in the queue. -/
theorem takeArrival_small (a : Arrival) (s : State) (ha : Small a) (h : s.flt.queue.length < 64) :
    Noted s (takeArrival s a) ∧ (takeArrival s a).flt.queue.length ≤ s.flt.queue.length + 1 ∧
      (Newest a.code a.cls s → (takeArrival s a).flt.queue.length = s.flt.queue.length) ∧
      Newest a.code a.cls (takeArrival s a) ∧
      (∀ c k, Entered' c k s → Entered' c k (takeArrival s a)) ∧
      ∃ d : List Arrival, (takeArrival s a).flt.arrived = s.flt.arrived ++ d ∧ ∀ a ∈ d, dropArrival a := by
  obtain ⟨hc, he, hq⟩ := ha
  have hcls : Fin.ofNat 4 a.cls.val = a.cls := by simp
  obtain ⟨q, hq1, hq2, hq3, hq4, ⟨f, hf1, hf2, hf3⟩, hq6⟩ :=
    enqueue_room (fltEntry a.code.toNat a.cls.val a.esc a.master s) s h
  have hfc : f.code = a.code := by simpa [fltEntry] using hf2
  have hfk : f.cls = a.cls := by simpa [fltEntry, hcls] using hf3
  unfold takeArrival
  simp only [he, hq, if_false, Bool.false_eq_true]
  rw [he] at hq1 hq2
  set r := (enqueue (fltEntry a.code.toNat a.cls.val false a.master s) s).2 with hr
  rw [hq1, if_neg hq2]
  set s1 : State := { s with flt := { s.flt with queue := q } } with hs1
  have n1 : Noted s s1 := noted_queue s q
  set s2 : State := if (decide (r = .entered) && flag s1 Reg.FLT_CFG a.cls.val) = true then cause a.cls.val s1 else s1 with hs2
  have n2 : Noted s1 s2 := by rw [hs2]; split; exacts [noted_cause _ _, noted_refl _]
  have f2 : s2.flt = s1.flt := by rw [hs2]; split; exacts [cause_flt _ _, rfl]
  obtain ⟨m1, m2, d, m3, m4⟩ := firings_noted (matchSources a.code.toNat s2) a.code s2
  refine ⟨noted_trans n1 (noted_trans n2 m1), ?_, ?_, ?_, ?_, d, ?_, m4⟩
  · rw [m2, f2]; exact hq3
  · intro hn
    rw [m2, f2]
    exact hq4 (by simpa [fltEntry, Newest, hcls] using hn)
  · exact ⟨f, by rw [m2, f2]; exact hf1, hfc, hfk⟩
  · rintro c k ⟨e, he1, he2, he3⟩
    obtain ⟨g, hg1, hg2, hg3⟩ := hq6 e he1
    exact ⟨g, by rw [m2, f2]; exact hg1, hg2.trans he2, hg3.trans he3⟩
  · rw [m3, f2]

/-- Taking small faults one after another. -/
theorem foldl_takeArrival_small (l : List Arrival) (s : State) (hl : ∀ a ∈ l, Small a) (h : s.flt.queue.length + l.length ≤ 64) :
    Noted s (l.foldl takeArrival s) ∧ (l.foldl takeArrival s).flt.queue.length ≤ s.flt.queue.length + l.length ∧
      (∀ a ∈ l, Entered' a.code a.cls (l.foldl takeArrival s)) ∧
      (∀ c k, Entered' c k s → Entered' c k (l.foldl takeArrival s)) ∧
      ∃ d : List Arrival, (l.foldl takeArrival s).flt.arrived = s.flt.arrived ++ d ∧ ∀ a ∈ d, dropArrival a := by
  induction l generalizing s with
  | nil => exact ⟨noted_refl s, by simp, by simp, fun _ _ h => h, [], by simp, by simp⟩
  | cons a r ih =>
    simp only [List.length_cons] at h
    obtain ⟨h1, h2, -, ⟨e, he1, he2, he3⟩, h5, d, h6, h7⟩ := takeArrival_small a s (hl a (by simp)) (by omega)
    obtain ⟨k1, k2, k3, k4, d', k5, k6⟩ := ih (takeArrival s a) (fun b hb => hl b (by simp [hb])) (by omega)
    refine ⟨noted_trans h1 k1, ?_, ?_, fun c k hc => k4 c k (h5 c k hc), d ++ d', ?_, ?_⟩
    · simp only [List.foldl_cons, List.length_cons]; omega
    · intro b hb
      rcases List.mem_cons.mp hb with rfl | hb
      · exact k4 _ _ ⟨e, List.mem_of_getLast? he1, he2, he3⟩
      · exact k3 b hb
    · rw [List.foldl_cons, k5, h6, List.append_assoc]
    · intro b hb
      rcases List.mem_append.mp hb with hb | hb
      · exact h7 b hb
      · exact k6 b hb

/-- Taking DROPs while the newest entry is one: they merge into it. -/
theorem foldl_takeArrival_merge (l : List Arrival) (s : State) (hl : ∀ a ∈ l, dropArrival a) (h : s.flt.queue.length < 64)
    (hn : Newest (BitVec.ofNat 16 codeDrop) 0 s) :
    Noted s (l.foldl takeArrival s) ∧ (l.foldl takeArrival s).flt.queue.length = s.flt.queue.length ∧
      (∀ c k, Entered' c k s → Entered' c k (l.foldl takeArrival s)) ∧
      ∃ d : List Arrival, (l.foldl takeArrival s).flt.arrived = s.flt.arrived ++ d ∧ ∀ a ∈ d, dropArrival a := by
  induction l generalizing s with
  | nil => exact ⟨noted_refl s, rfl, fun _ _ h => h, [], by simp, by simp⟩
  | cons a r ih =>
    have hd := hl a (by simp)
    obtain ⟨h1, -, h3, h4, h5, d, h6, h7⟩ := takeArrival_small a s (small_of_drop a hd) h
    rw [hd.1, hd.2.1] at h3 h4
    have he := h3 hn
    obtain ⟨k1, k2, k3, d', k5, k6⟩ := ih (takeArrival s a) (fun b hb => hl b (by simp [hb])) (by omega) h4
    refine ⟨noted_trans h1 k1, k2.trans he, fun c k hc => k3 c k (h5 c k hc), d ++ d', ?_, ?_⟩
    · rw [List.foldl_cons, k5, h6, List.append_assoc]
    · intro b hb
      rcases List.mem_append.mp hb with hb | hb
      · exact h7 b hb
      · exact k6 b hb

/-- Taking DROPs: they make one entry at most. -/
theorem foldl_takeArrival_drop (l : List Arrival) (s : State) (hl : ∀ a ∈ l, dropArrival a) (h : s.flt.queue.length + 1 < 64) :
    Noted s (l.foldl takeArrival s) ∧ (l.foldl takeArrival s).flt.queue.length ≤ s.flt.queue.length + 1 ∧
      (∀ c k, Entered' c k s → Entered' c k (l.foldl takeArrival s)) ∧
      ∃ d : List Arrival, (l.foldl takeArrival s).flt.arrived = s.flt.arrived ++ d ∧ ∀ a ∈ d, dropArrival a := by
  cases l with
  | nil => exact ⟨noted_refl s, by simp, fun _ _ h => h, [], by simp, by simp⟩
  | cons a r =>
    have hd := hl a (by simp)
    obtain ⟨h1, h2, -, h4, h5, d, h6, h7⟩ := takeArrival_small a s (small_of_drop a hd) (by omega)
    rw [hd.1, hd.2.1] at h4
    obtain ⟨k1, k2, k3, d', k5, k6⟩ :=
      foldl_takeArrival_merge r (takeArrival s a) (fun b hb => hl b (by simp [hb])) (by omega) h4
    refine ⟨noted_trans h1 k1, ?_, fun c k hc => k3 c k (h5 c k hc), d ++ d', ?_, ?_⟩
    · rw [List.foldl_cons, k2]; exact h2
    · rw [List.foldl_cons, k5, h6, List.append_assoc]
    · intro b hb
      rcases List.mem_append.mp hb with hb | hb
      · exact h7 b hb
      · exact k6 b hb

theorem insertArrival_mem (a b : Arrival) (l : List Arrival) : b ∈ insertArrival a l ↔ b = a ∨ b ∈ l := by
  induction l with
  | nil => simp [insertArrival]
  | cons c r ih =>
    unfold insertArrival
    split
    · simp only [List.mem_cons, ih]; tauto
    · simp

theorem insertArrival_length (a : Arrival) (l : List Arrival) : (insertArrival a l).length = l.length + 1 := by
  induction l with
  | nil => rfl
  | cons c r ih =>
    unfold insertArrival
    split
    · simp [ih]
    · simp

theorem sortArrivals_spec (l : List Arrival) : (∀ a, a ∈ sortArrivals l ↔ a ∈ l) ∧ (sortArrivals l).length = l.length := by
  have h : ∀ (l m : List Arrival), (∀ a, a ∈ l.foldl (fun m a => insertArrival a m) m ↔ a ∈ m ∨ a ∈ l) ∧
      (l.foldl (fun m a => insertArrival a m) m).length = m.length + l.length := by
    intro l
    induction l with
    | nil => intro m; simp
    | cons b r ih =>
      intro m
      obtain ⟨h1, h2⟩ := ih (insertArrival b m)
      constructor
      · intro a
        rw [List.foldl_cons, h1, insertArrival_mem, List.mem_cons]; tauto
      · rw [List.foldl_cons, h2, insertArrival_length, List.length_cons]; omega
  have := h l []
  constructor
  · intro a
    simpa [sortArrivals] using this.1 a
  · simpa [sortArrivals] using this.2

theorem entered_arrived (s : State) (c : BitVec 16) (k : Fin 4) (q : List Arrival) :
    Entered' c k { s with flt := { s.flt with arrived := q } } ↔ Entered' c k s := Iff.rfl

/-- Rounds in which DROPs alone arrive. -/
theorem takeArrivals_drops (n : Nat) (s : State) (hl : ∀ a ∈ s.flt.arrived, dropArrival a) (h : s.flt.queue.length + n < 64) :
    Noted s (takeArrivals n s) ∧ ∀ c k, Entered' c k s → Entered' c k (takeArrivals n s) := by
  induction n generalizing s with
  | zero => exact ⟨noted_arrived s [], fun _ _ h => h⟩
  | succ n ih =>
    unfold takeArrivals
    split
    · exact ⟨noted_refl s, fun _ _ h => h⟩
    · set s1 : State := { s with flt := { s.flt with arrived := [] } } with hs1
      have hsort : ∀ a ∈ sortArrivals s.flt.arrived, dropArrival a := fun a ha => hl a (((sortArrivals_spec _).1 a).mp ha)
      obtain ⟨h1, h2, h4, d, h5, h6⟩ := foldl_takeArrival_drop (sortArrivals s.flt.arrived) s1 hsort (by rw [hs1]; simp; omega)
      have h5' : (List.foldl takeArrival s1 (sortArrivals s.flt.arrived)).flt.arrived = d := by rw [h5]; simp [hs1]
      have h2' : (List.foldl takeArrival s1 (sortArrivals s.flt.arrived)).flt.queue.length ≤ s.flt.queue.length + 1 := h2
      obtain ⟨k1, k2⟩ := ih (List.foldl takeArrival s1 (sortArrivals s.flt.arrived)) (by rw [h5']; exact h6) (by omega)
      exact ⟨noted_trans (noted_trans (noted_arrived s []) h1) k1, fun c k hc => k2 c k (h4 c k hc)⟩

/-- Notices and F1 faults, with room for them, leave nothing but what `Noted` names, and each of them is entered. -/
theorem settleFaults_small (s : State) (hl : ∀ a ∈ s.flt.arrived, Small a)
    (h : s.flt.queue.length + s.flt.arrived.length + 3 < 64) :
    Noted s (settleFaults s) ∧ ∀ a ∈ s.flt.arrived, Entered' a.code a.cls (settleFaults s) := by
  show Noted s (takeArrivals 4 s) ∧ ∀ a ∈ s.flt.arrived, Entered' a.code a.cls (takeArrivals 4 s)
  unfold takeArrivals
  split
  · rename_i he
    have : s.flt.arrived = [] := by simpa using he
    exact ⟨noted_refl s, by simp [this]⟩
  · set s1 : State := { s with flt := { s.flt with arrived := [] } } with hs1
    have hsort : ∀ a ∈ sortArrivals s.flt.arrived, Small a := fun a ha => hl a (((sortArrivals_spec _).1 a).mp ha)
    have hlen := (sortArrivals_spec s.flt.arrived).2
    obtain ⟨h1, h2, h3, h4, d, h5, h6⟩ := foldl_takeArrival_small (sortArrivals s.flt.arrived) s1 hsort (by
      rw [hlen, hs1]; simp; omega)
    have h5' : (List.foldl takeArrival s1 (sortArrivals s.flt.arrived)).flt.arrived = d := by rw [h5]; simp [hs1]
    have h2' : (List.foldl takeArrival s1 (sortArrivals s.flt.arrived)).flt.queue.length ≤
        s.flt.queue.length + s.flt.arrived.length := by rw [← hlen]; exact h2
    obtain ⟨k1, k2⟩ := takeArrivals_drops 3 (List.foldl takeArrival s1 (sortArrivals s.flt.arrived))
      (by rw [h5']; exact h6) (by omega)
    exact ⟨noted_trans (noted_trans (noted_arrived s []) h1) k1,
      fun a ha => k2 _ _ (h3 a (((sortArrivals_spec _).1 a).mpr ha))⟩

/-- One notice or F1 fault, raised where none waits, is entered and leaves nothing else. -/
theorem settleFaults_report (code cls : Nat) (mas : BitVec 4) (s : State) (hs : s.flt.arrived = []) (hr : s.flt.queue.length ≤ 48)
    (hc : cls ≤ 1) (hcode : code < 2 ^ 16) (hq : code ≠ codeQueueFull) :
    Faulted code cls s (settleFaults (report code cls mas s)) := by
  have hrep := report_low code cls mas s hc
  set a : Arrival := { code := BitVec.ofNat 16 code, cls := Fin.ofNat 4 cls, esc := false, master := mas } with ha
  have harr : (report code cls mas s).flt.arrived = [a] := by rw [hrep]; simp [hs]
  have hqueue : (report code cls mas s).flt.queue = s.flt.queue := by rw [hrep]
  have hk : (Fin.ofNat 4 cls).val = cls := by simp [Fin.ofNat]; omega
  have hsmall : Small a := by
    refine ⟨?_, rfl, ?_⟩
    · show (Fin.ofNat 4 cls).val ≤ 1
      rw [hk]; exact hc
    · show (BitVec.ofNat 16 code).toNat ≠ _
      rw [BitVec.toNat_ofNat, Nat.mod_eq_of_lt hcode]; exact hq
  obtain ⟨h1, h2⟩ := settleFaults_small (report code cls mas s) (by rw [harr]; simpa using hsmall) (by
    rw [harr, hqueue]; simp; omega)
  obtain ⟨e, he1, he2, he3⟩ := h2 a (by rw [harr]; simp)
  refine ⟨noted_trans (noted_report code cls mas s hc) h1, settleFaults_arrived _, e, he1, ?_, ?_⟩
  · rw [he2]
    show (BitVec.ofNat 16 code).toNat = code
    rw [BitVec.toNat_ofNat, Nat.mod_eq_of_lt hcode]
  · rw [he3]; exact hk

/-- Taking a fault that is queued for entry only changes what the command's own effect and its notices name. -/
theorem noted_settle_trans {s t u : State} (h : Noted s t) (k : Faulted code cls t u) : Faulted code cls s u :=
  ⟨noted_trans h k.1, k.2.1, k.2.2⟩

end Sys2Proof.Machine
end

