-- ==== Sys2Proof/Laws/Bus.lean ====
section
/-! SUPPORT. A command's access to a unit register: which unit operation it comes to. -/

namespace Sys2Proof.Machine

variable (m : Master) (o : Nat) (v : Word) (s : State)

/-- The offset of a register: aligned, in a block of the register range that a unit has. -/
def regOffset (o : Nat) : Bool := o % 4 = 0 && o < 0x100_0000 && blockAssigned (o / 0x10000)

theorem leNat_leBytes (n v : Nat) : leNat (leBytes n v) = v % 256 ^ n := by
  induction n generalizing v with
  | zero => simp [leBytes, leNat, Nat.mod_one]
  | succ n ih =>
    have e : (BitVec.ofNat 8 v).toNat = v % 256 := by simp
    rw [leBytes, leNat, ih, e, Nat.pow_succ, Nat.mul_comm (256 ^ n) 256]
    exact (Nat.mod_mul (x := v) (a := 256) (b := 256 ^ n)).symm

theorem leBytes_length (n v : Nat) : (leBytes n v).length = n := by
  induction n generalizing v with
  | zero => rfl
  | succ n ih => simp [leBytes, ih]

/-- Where the address ranges begin. -/
theorem bases : regBase = 34359738368 ∧ imageBase = 17179869184 ∧ forceBase = 17213423616 ∧ predBase = 17221812224 := by
  refine ⟨rfl, rfl, rfl, rfl⟩

theorem targetOf_high (a : Nat) (h : regBase ≤ a) (h' : a < regBase + 0x100_0000) :
    targetOf a = if blockAssigned ((a - regBase) / 0x10000) then .reg else .unmapped := by
  obtain ⟨b1, b2, b3, b4⟩ := bases
  have e1 : inWorking a = false := by
    rw [Bool.eq_false_iff]; intro k
    simp only [inWorking, decide_eq_true_eq] at k
    omega
  have e2 : inPoints a = false := by
    rw [Bool.eq_false_iff]; intro k
    simp only [inPoints, Bool.and_eq_true, Bool.or_eq_true, decide_eq_true_eq] at k
    omega
  have e3 : inForce a = false := by
    rw [Bool.eq_false_iff]; intro k
    simp only [inForce, Bool.and_eq_true, decide_eq_true_eq] at k
    omega
  have e4 : inPredicted a = false := by
    rw [Bool.eq_false_iff]; intro k
    simp only [inPredicted, Bool.and_eq_true, Bool.or_eq_true, decide_eq_true_eq] at k
    omega
  simp only [targetOf, e1, e2, e3, e4, Bool.false_eq_true, if_false]
  rw [if_pos ⟨h, h'⟩]

theorem targetOf_reg (h : regOffset o = true) : targetOf (regBase + o) = .reg := by
  simp only [regOffset, Bool.and_eq_true, decide_eq_true_eq] at h
  obtain ⟨⟨-, h2⟩, h3⟩ := h
  rw [targetOf_high _ (Nat.le_add_right _ _) (Nat.add_lt_add_left h2 _), Nat.add_sub_cancel_left, if_pos h3]

theorem accessOk_reg (h : regOffset o = true) : accessOk (regBase + o) 4 = true := by
  have ht := targetOf_reg o h
  have h4 : (regBase + o) % 4 = 0 := by
    simp only [regOffset, Bool.and_eq_true, decide_eq_true_eq] at h
    have := bases.1
    omega
  rw [accessOk, if_pos ht, h4]
  rfl

/-- A write of a register by a command. -/
theorem writeReg_eq (h : regOffset o = true) :
    writeReg m o v s = match regWrite m o v s with
      | (.ok, s') => { s' with answer := .done }
      | (.raised, s') => { s' with answer := .error }
      | (.refused, s') => { accessNotice m (noticeCode true (regBase + o)) s' with answer := .error } := by
  have ht := targetOf_reg o h
  have hok := accessOk_reg o h
  have e6 : regBase + o - regBase = o := Nat.add_sub_cancel_left _ _
  have e7 : BitVec.ofNat 32 (leNat (leBytes 4 v.toNat)) = v := by
    rw [leNat_leBytes]
    apply BitVec.eq_of_toNat_eq
    have := v.isLt
    simp only [BitVec.toNat_ofNat]
    omega
  have hb : busWrite m (regBase + o) (leBytes 4 v.toNat) s = match regWrite m o v s with
      | (.ok, s') => (true, s')
      | (.raised, s') => (false, s')
      | (.refused, s') => writeError m (regBase + o) s' := by
    have hi : inImage (regBase + o) = false := by
      rw [Bool.eq_false_iff]; intro k
      obtain ⟨b1, b2, -, -⟩ := bases
      simp only [inImage, Bool.and_eq_true, decide_eq_true_eq] at k
      omega
    unfold busWrite
    rw [ht, leBytes_length, hok, e6, e7, hi]
    rfl
  rw [writeReg, hb]
  rcases regWrite m o v s with ⟨r, s'⟩
  cases r <;> rfl

/-- A read of a register by a command. -/
theorem readReg_eq (h : regOffset o = true) :
    readReg m o s = match regRead m o s with
      | (some w, s') => { s' with answer := .data w.toNat }
      | (none, s') => { accessNotice m (noticeCode false (regBase + o)) s' with answer := .error } := by
  have ht := targetOf_reg o h
  have hok := accessOk_reg o h
  have e6 : regBase + o - regBase = o := Nat.add_sub_cancel_left _ _
  have hb : busRead m (regBase + o) 4 s = match regRead m o s with
      | (some w, s') => (some w.toNat, s')
      | (none, s') => readError m (regBase + o) s' := by
    unfold busRead
    rw [ht, hok, e6]
    rfl
  rw [readReg, hb]
  rcases regRead m o s with ⟨r, s'⟩
  cases r <;> rfl

/-- A write of a command register of the control block that its unit answers. -/
theorem regWrite_low (h : o < 0x100000) (r : RegRow) (ix : List Nat) (hr : regRow? o = some (r, ix)) (hrwt : r.rwt = 0)
    (hw : ¬ (r.rw = 0 ∧ r.wo = 0 ∧ r.w1c = 0 ∧ r.w1s = 0 ∧ r.rwo = 0)) (hp : rwPairLow o = false)
    (hp' : (decide (4 ≤ o) && rwPairLow (o - 4)) = false)
    (hs : (decide (0x20000 ≤ o) && decide (o < 0x20200) && standbyBars m s) = false) (x : Resp × State)
    (hx : lowWrite m o v.toNat s = some x) : regWrite m o v s = x := by
  simp only [regWrite, hr, hrwt, ne_eq, not_true_eq_false, if_false, hs, hw, hp, hp', Bool.false_eq_true, h, if_true, hx]

/-- A write of a command register above the control block that its unit answers. -/
theorem regWrite_high (h : ¬ o < 0x100000) (r : RegRow) (ix : List Nat) (hr : regRow? o = some (r, ix)) (hrwt : r.rwt = 0)
    (hw : ¬ (r.rw = 0 ∧ r.wo = 0 ∧ r.w1c = 0 ∧ r.w1s = 0 ∧ r.rwo = 0)) (hp : rwPairLow o = false)
    (hp' : (decide (4 ≤ o) && rwPairLow (o - 4)) = false) (x : Resp × State) (hx : highWrite m o v.toNat s = some x) :
    regWrite m o v s = x := by
  have hs : (decide (0x20000 ≤ o) && decide (o < 0x20200) && standbyBars m s) = false := by
    have : ¬ o < 0x20200 := by omega
    simp [this]
  simp only [regWrite, hr, hrwt, ne_eq, not_true_eq_false, if_false, hs, hw, hp, hp', Bool.false_eq_true, h, hx]

end Sys2Proof.Machine
end

