-- ==== Sys2Proof/Laws/Memory.lean ====
section
/-! SUPPORT. The laws of memory: a read after a write, what a write leaves alone, and the canonical form. -/

namespace Sys2Proof.Machine

/-! One byte. -/

theorem memByte_putByte (s : State) (a : Nat) (b : Byte) (x : Nat) :
    memByte (putByte s a b) x = if x = a then b else memByte s x := by simp [memByte, putByte, smGet_smSet]

theorem putByte_memWf (s : State) (a : Nat) (b : Byte) (h : Memory.wf s.mem = true) : Memory.wf (putByte s a b).mem = true :=
  smWf_smSet memDefault s.mem a b h

/-! Bytes. -/

theorem putBytes_memWf (s : State) (a : Nat) (b : List Byte) (h : Memory.wf s.mem = true) :
    Memory.wf (putBytes s a b).mem = true := by
  induction b generalizing s a with
  | nil => exact h
  | cons x r ih => exact ih _ _ (putByte_memWf s a x h)

theorem putBytes_only (s : State) (a : Nat) (b : List Byte) : putBytes s a b = { s with mem := (putBytes s a b).mem } := by
  induction b generalizing s a with
  | nil => rfl
  | cons x r ih =>
    simp only [putBytes]
    rw [ih]
    rfl

theorem memByte_putBytes (s : State) (a : Nat) (b : List Byte) (x : Nat) :
    memByte (putBytes s a b) x = if a ≤ x ∧ x < a + b.length then b.getD (x - a) 0 else memByte s x := by
  induction b generalizing s a with
  | nil =>
    have : ¬ (a ≤ x ∧ x < a + 0) := by omega
    simp [putBytes]
  | cons y r ih =>
    rw [putBytes, ih, memByte_putByte]
    simp only [List.length_cons]
    by_cases h1 : a + 1 ≤ x ∧ x < a + 1 + r.length
    · have h2 : a ≤ x ∧ x < a + (r.length + 1) := by omega
      rw [if_pos h1, if_pos h2]
      obtain ⟨k, rfl⟩ : ∃ k, x = a + 1 + k := ⟨x - (a + 1), by omega⟩
      have e1 : a + 1 + k - (a + 1) = k := by omega
      have e2 : a + 1 + k - a = k + 1 := by omega
      rw [e1, e2]
      rfl
    · rw [if_neg h1]
      by_cases h3 : x = a
      · subst h3
        have h2 : x ≤ x ∧ x < x + (r.length + 1) := by omega
        rw [if_pos rfl, if_pos h2, Nat.sub_self]
        rfl
      · have h2 : ¬ (a ≤ x ∧ x < a + (r.length + 1)) := by omega
        rw [if_neg h3, if_neg h2]

/-- Bytes read as they were written. -/
theorem memBytes_eq (s : State) (a n : Nat) (b : List Byte) (hb : b.length = n) (h : ∀ i, i < n → memByte s (a + i) = b.getD i 0) :
    memBytes s a n = b := by
  induction n generalizing a b with
  | zero =>
    have : b = [] := List.length_eq_zero_iff.mp hb
    simp [memBytes, this]
  | succ n ih =>
    cases b with
    | nil => simp at hb
    | cons y r =>
      have h0 := h 0 (by omega)
      simp only [Nat.add_zero, List.getD_cons_zero] at h0
      rw [memBytes, h0, ih (a + 1) r (by simpa using hb)]
      intro i hi
      have := h (i + 1) (by omega)
      rw [show a + (i + 1) = a + 1 + i by omega] at this
      simpa using this

theorem memBytes_putBytes_same (s : State) (a : Nat) (b : List Byte) : memBytes (putBytes s a b) a b.length = b := by
  apply memBytes_eq _ _ _ _ rfl
  intro i hi
  rw [memByte_putBytes, if_pos (by omega), Nat.add_sub_cancel_left]

/-- Bytes that a range of another state shares. -/
theorem memBytes_congr (s t : State) (a n : Nat) (h : ∀ i, i < n → memByte t (a + i) = memByte s (a + i)) :
    memBytes t a n = memBytes s a n := by
  induction n generalizing a with
  | zero => rfl
  | succ n ih =>
    have h0 := h 0 (by omega)
    simp only [Nat.add_zero] at h0
    rw [memBytes, memBytes, h0, ih (a + 1)]
    intro i hi
    have := h (i + 1) (by omega)
    rwa [show a + (i + 1) = a + 1 + i by omega] at this

theorem memNat_congr (s t : State) (a n : Nat) (h : ∀ i, i < n → memByte t (a + i) = memByte s (a + i)) :
    memNat t a n = memNat s a n := by rw [memNat, memNat, memBytes_congr s t a n h]

/-! What the memory devices do with a write beside its bytes. -/

theorem memByte_of_mem {s t : State} (h : t.mem = s.mem) (x : Nat) : memByte t x = memByte s x := by rw [memByte, memByte, h]

theorem touchCopy_mem (p : Nat) (s : State) : (touchCopy p s).mem = s.mem := by unfold touchCopy; split <;> rfl

/-- What marking a page leaves alone. -/
theorem touchPage_keeps (p : Nat) (s : State) :
    (touchPage p s).mem = s.mem ∧ (touchPage p s).ecc = s.ecc ∧ (touchPage p s).mm.dirty.length ≤ s.mm.dirty.length + 1 ∧
      (touchPage p s).mm.undo = s.mm.undo ∧ (touchPage p s).mm.covered = s.mm.covered ∧
      (touchPage p s).mm.inject = s.mm.inject ∧ (touchPage p s).hasp.mirroring = s.hasp.mirroring ∧ Beside s (touchPage p s) := by
  have hc : (touchCopy p s).mm = s.mm ∧ (touchCopy p s).ecc = s.ecc ∧ (touchCopy p s).mem = s.mem ∧
      (touchCopy p s).hasp.mirroring = s.hasp.mirroring ∧ Beside s (touchCopy p s) := by
    unfold touchCopy
    split <;> exact ⟨rfl, rfl, rfl, rfl, rfl, rfl, rfl, rfl, rfl, fun _ _ => rfl⟩
  obtain ⟨c1, c2, c3, c4, c5⟩ := hc
  have hl : (alDel (touchCopy p s).mm.dirty p ++ [(p, powered (touchCopy p s))]).length ≤ s.mm.dirty.length + 1 := by
    rw [c1]
    simp only [List.length_append, List.length_cons, List.length_nil, alDel]
    have := List.length_filter_le (fun q : Nat × Nat => decide (q.1 ≠ p)) s.mm.dirty
    omega
  simp only [touchPage]
  split
  · exact ⟨c3, c2, by rw [c1]; omega, by rw [c1], by rw [c1], by rw [c1], c4, c5⟩
  · exact ⟨c3, c2, hl, by simp [judgeForced, c1], by simp [judgeForced, c1], by simp [judgeForced, c1], c4,
      c5.frm, c5.flt, c5.posQ, c5.pads, c5.boot, c5.regs⟩

theorem touchPage_mem (p : Nat) (s : State) : (touchPage p s).mem = s.mem := (touchPage_keeps p s).1

theorem forAll_mem {α : Type} (l : List α) (f : State → α → State) (s : State) (h : ∀ s x, (f s x).mem = s.mem) :
    (forAll l f s).mem = s.mem := by
  unfold forAll
  induction l generalizing s with
  | nil => rfl
  | cons x r ih => rw [List.foldl_cons, ih, h]

theorem healWords_mem (a n : Nat) (s : State) : (healWords a n s).mem = s.mem := by
  simp only [healWords]
  split <;> rfl

theorem mirrorWrite_mem (a : Nat) (b : List Byte) (s : State) : (mirrorWrite a b s).mem = s.mem := by
  unfold mirrorWrite
  split
  · simp only []
    split <;> rfl
  · rfl

/-- A write that no join mirrors sends nothing. -/
theorem mirrorWrite_off (a : Nat) (b : List Byte) (s : State) (h : s.hasp.mirroring = false) : mirrorWrite a b s = s := by
  simp [mirrorWrite, h]

theorem storeRaw_mem (a : Nat) (b : List Byte) (s : State) : (storeRaw a b s).mem = (putBytes s a b).mem := by
  simp only [storeRaw]
  split
  · rw [healWords_mem, mirrorWrite_mem]
  · rw [forAll_mem _ _ _ (fun s i => touchPage_mem _ s), healWords_mem, mirrorWrite_mem]

/-- The bytes that a device's write leaves. -/
theorem memByte_storeRaw (s : State) (a : Nat) (b : List Byte) (x : Nat) :
    memByte (storeRaw a b s) x = if a ≤ x ∧ x < a + b.length then b.getD (x - a) 0 else memByte s x := by
  rw [memByte_of_mem (storeRaw_mem a b s), memByte_putBytes]

/-! What no write of memory touches. -/

/-- A register in which a unit follows the writes of memory is no other register. -/
theorem storeReg_ne {o k : Nat} (h : storeReg o = true) (hk : storeReg k = false) : k ≠ o := by
  rintro rfl
  rw [h] at hk
  exact absurd hk (by decide)

theorem beside_refl (s : State) : Beside s s := ⟨rfl, rfl, rfl, rfl, rfl, fun _ _ => rfl⟩

theorem beside_trans {s t u : State} (h : Beside s t) (k : Beside t u) : Beside s u :=
  ⟨k.frm.trans h.frm, k.flt.trans h.flt, k.posQ.trans h.posQ, k.pads.trans h.pads, k.boot.trans h.boot, fun o ho => (k.regs o ho).trans (h.regs o ho)⟩

theorem forAll_beside {α : Type} (l : List α) (f : State → α → State) (s : State) (h : ∀ s x, Beside s (f s x)) :
    Beside s (forAll l f s) := by
  unfold forAll
  induction l generalizing s with
  | nil => exact beside_refl s
  | cons x r ih => exact beside_trans (h s x) (ih (f s x))

theorem touchPage_beside (p : Nat) (s : State) : Beside s (touchPage p s) := (touchPage_keeps p s).2.2.2.2.2.2.2

theorem storeRaw_beside (a : Nat) (b : List Byte) (s : State) (hs : s.hasp.mirroring = false) : Beside s (storeRaw a b s) := by
  have h1 : Beside s (putBytes s a b) := by rw [putBytes_only]; exact ⟨rfl, rfl, rfl, rfl, rfl, fun _ _ => rfl⟩
  have h2 : Beside (putBytes s a b) (mirrorWrite a b (putBytes s a b)) := by
    rw [mirrorWrite_off _ _ _ (by rw [putBytes_only]; exact hs)]
    exact beside_refl _
  have h3 : ∀ u, Beside u (healWords a b.length u) := by
    intro u
    simp only [healWords]
    split
    · exact beside_refl _
    · exact ⟨rfl, rfl, rfl, rfl, rfl, fun _ ho => getReg_putFlag_ne _ _ _ (storeReg_ne (by decide) ho)⟩
  have h4 := beside_trans (beside_trans h1 h2) (h3 (mirrorWrite a b (putBytes s a b)))
  simp only [storeRaw]
  split
  · exact h4
  · exact beside_trans h4 (forAll_beside _ _ _ fun s i => touchPage_beside _ s)

theorem specHit_beside (l : Nat) (i : Bool) (s : State) : Beside s (specHit l i s) := ⟨rfl, rfl, rfl, rfl, rfl, fun _ _ => rfl⟩

theorem specHit_mem (l : Nat) (i : Bool) (s : State) : (specHit l i s).mem = s.mem := rfl

theorem unverify_keeps (s : State) : Beside s (unverify s) ∧ (unverify s).mem = s.mem ∧ (unverify s).ecc = s.ecc ∧
    (unverify s).mm = s.mm ∧ (unverify s).hasp = s.hasp := by
  unfold unverify
  split
  · exact ⟨⟨rfl, rfl, rfl, rfl, rfl, fun _ ho => getReg_putFld_ne _ _ _ _ (storeReg_ne (by decide) ho)⟩, rfl, rfl, rfl, rfl⟩
  · exact ⟨beside_refl s, rfl, rfl, rfl, rfl⟩

/-- What dropping run-ahead work leaves alone. -/
theorem specDrop_keeps (n : Nat) (s : State) : Beside s (specDrop n s) ∧ (specDrop n s).mem = s.mem ∧ (specDrop n s).ecc = s.ecc ∧
    (specDrop n s).mm = s.mm ∧ (specDrop n s).hasp = s.hasp := by
  simp only [specDrop]
  split
  · exact ⟨⟨rfl, rfl, rfl, rfl, rfl, fun _ ho =>
      (getReg_putFlag_ne _ _ _ (storeReg_ne (by decide) ho)).trans (getReg_bump_ne _ _ _ (storeReg_ne (by decide) ho))⟩,
      rfl, rfl, rfl, rfl⟩
  · exact ⟨⟨rfl, rfl, rfl, rfl, rfl, fun _ ho => getReg_bump_ne _ _ _ (storeReg_ne (by decide) ho)⟩, rfl, rfl, rfl, rfl⟩

theorem specDiscard_keeps (s : State) : Beside s (specDiscard s) ∧ (specDiscard s).mem = s.mem ∧ (specDiscard s).ecc = s.ecc ∧
    (specDiscard s).mm = s.mm ∧ (specDiscard s).hasp = s.hasp := by
  unfold specDiscard
  split
  · exact ⟨beside_refl s, rfl, rfl, rfl, rfl⟩
  · split
    · exact ⟨beside_refl s, rfl, rfl, rfl, rfl⟩
    · exact specDrop_keeps _ s

/-- An update that may happen leaves alone what it leaves alone when it happens. -/
theorem when_keeps (c : Bool) (f : State → State) (s : State)
    (h : Beside s (f s) ∧ (f s).mem = s.mem ∧ (f s).ecc = s.ecc ∧ (f s).mm = s.mm ∧ (f s).hasp = s.hasp) :
    Beside s (when c f s) ∧ (when c f s).mem = s.mem ∧ (when c f s).ecc = s.ecc ∧ (when c f s).mm = s.mm ∧
      (when c f s).hasp = s.hasp := by
  cases c
  · exact ⟨beside_refl s, rfl, rfl, rfl, rfl⟩
  · exact h

theorem keeps_trans {s t u : State}
    (h : Beside s t ∧ t.mem = s.mem ∧ t.ecc = s.ecc ∧ t.mm = s.mm ∧ t.hasp = s.hasp)
    (k : Beside t u ∧ u.mem = t.mem ∧ u.ecc = t.ecc ∧ u.mm = t.mm ∧ u.hasp = t.hasp) :
    Beside s u ∧ u.mem = s.mem ∧ u.ecc = s.ecc ∧ u.mm = s.mm ∧ u.hasp = s.hasp :=
  ⟨beside_trans h.1 k.1, k.2.1.trans h.2.1, k.2.2.1.trans h.2.2.1, k.2.2.2.1.trans h.2.2.2.1, k.2.2.2.2.trans h.2.2.2.2⟩

theorem hits_keeps (l : List Nat) (s : State) :
    let t := forAll l (fun s l => specHit l false s) s
    Beside s t ∧ t.mem = s.mem ∧ t.ecc = s.ecc ∧ t.mm = s.mm ∧ t.hasp = s.hasp := by
  unfold forAll
  induction l generalizing s with
  | nil => exact ⟨beside_refl s, rfl, rfl, rfl, rfl⟩
  | cons x r ih =>
    rw [List.foldl_cons]
    exact keeps_trans ⟨specHit_beside x false s, rfl, rfl, rfl, rfl⟩ (ih (specHit x false s))

/-- What a write brings about before it is stored touches neither memory and its codes nor what MEM and the hasp keep. -/
theorem watchWrite_keeps (m : Master) (a : Nat) (b : List Byte) (l : List Nat) (s : State) :
    Beside s (watchWrite m a b l s) ∧ (watchWrite m a b l s).mem = s.mem ∧ (watchWrite m a b l s).ecc = s.ecc ∧
      (watchWrite m a b l s).mm = s.mm ∧ (watchWrite m a b l s).hasp = s.hasp := by
  have here : ∀ t u : State, Beside t u → u.mem = t.mem → u.ecc = t.ecc → u.mm = t.mm → u.hasp = t.hasp →
      (Beside t u ∧ u.mem = t.mem ∧ u.ecc = t.ecc ∧ u.mm = t.mm ∧ u.hasp = t.hasp) := fun _ _ a b c d e => ⟨a, b, c, d, e⟩
  have hd : ∀ u, Beside u (watchDelta a b.length u) ∧ _ := fun u =>
    when_keeps (decide (a < dbase u + regNat u Reg.OLC_DLEN ∧ dbase u < a + b.length)) unverify u (unverify_keeps u)
  have hj : ∀ c u, Beside u (when c (journalWrite a b) u) ∧ _ := fun c u => when_keeps c (journalWrite a b) u
    (here _ _ ⟨rfl, rfl, rfl, rfl, rfl, fun _ _ => rfl⟩ rfl rfl rfl rfl)
  have hc : ∀ c u, Beside u (when c (codeHit (a / 64)) u) ∧ _ := fun c u => when_keeps c (codeHit (a / 64)) u
    (here _ _ ⟨rfl, rfl, rfl, rfl, rfl, fun _ _ => rfl⟩ rfl rfl rfl rfl)
  have hn : ∀ c k u, Beside u (when c (noteCheck k) u) ∧ _ := fun c k u => when_keeps c (noteCheck k) u
    (here _ _ ⟨rfl, rfl, rfl, rfl, rfl, fun _ _ => rfl⟩ rfl rfl rfl rfl)
  exact keeps_trans (keeps_trans (keeps_trans (keeps_trans (keeps_trans (hd s) (when_keeps _ specDiscard _ (specDiscard_keeps _)))
    (hj _ _)) (hc _ _)) (hn _ _ _)) (hits_keeps l _)

/-! What a store leaves to the next one. -/

/-- What the memory devices keep beside the bytes goes on to a next store: words that were good, the pages that are dirty, the
armed injections, and a join that does not mirror. -/
structure Leaves (s t : State) (k : Nat) : Prop where
  good : ∀ x, eccAt s x = .good → eccAt t x = .good
  dirty : t.mm.dirty.length ≤ s.mm.dirty.length + k
  covered : t.mm.covered = s.mm.covered
  inject : t.mm.inject = s.mm.inject
  alone : t.hasp.mirroring = s.hasp.mirroring

theorem Leaves.trans {s t u : State} {j k : Nat} (h : Leaves s t j) (g : Leaves t u k) : Leaves s u (j + k) :=
  ⟨fun x e => g.good x (h.good x e), by have := h.dirty; have := g.dirty; omega, g.covered.trans h.covered,
    g.inject.trans h.inject, g.alone.trans h.alone⟩

theorem Leaves.of_eq {s t : State} (he : t.ecc = s.ecc) (hm : t.mm = s.mm) (hh : t.hasp = s.hasp) : Leaves s t 0 :=
  ⟨fun x e => by simpa [eccAt, he] using e, by rw [hm]; omega, by rw [hm], by rw [hm], by rw [hh]⟩

theorem forAll_keep {α β : Type} (g : State → β) (l : List α) (f : State → α → State) (s : State)
    (h : ∀ s x, g (f s x) = g s) : g (forAll l f s) = g s := by
  unfold forAll
  induction l generalizing s with
  | nil => rfl
  | cons x r ih => rw [List.foldl_cons, ih, h]

/-- No store disarms an injection. -/
theorem storeRaw_inject (a : Nat) (b : List Byte) (s : State) (hs : s.hasp.mirroring = false) :
    (storeRaw a b s).mm.inject = s.mm.inject := by
  have hp : (putBytes s a b).mm = s.mm ∧ (putBytes s a b).hasp = s.hasp := by rw [putBytes_only]; exact ⟨rfl, rfl⟩
  have hw := mirrorWrite_off a b (putBytes s a b) (by rw [hp.2]; exact hs)
  have hh : (healWords a b.length (putBytes s a b)).mm.inject = s.mm.inject := by
    simp only [healWords]
    split
    · rw [hp.1]
    · show (putBytes s a b).mm.inject = _
      rw [hp.1]
  simp only [storeRaw, hw]
  split
  · exact hh
  · rw [forAll_keep (fun u => u.mm.inject) _ _ _ fun u x => (touchPage_keeps _ u).2.2.2.2.2.1]
    exact hh

theorem healWords_leaves (a n : Nat) (u : State) : Leaves u (healWords a n u) 0 ∧ (healWords a n u).mm.undo = u.mm.undo := by
  simp only [healWords]
  split
  · exact ⟨.of_eq rfl rfl rfl, rfl⟩
  · refine ⟨⟨fun x h => ?_, Nat.le_refl _, rfl, rfl, rfl⟩, rfl⟩
    have := smGet_filter eccGood (fun k => !(decide (a ≤ k) && decide (k + 8 ≤ a + n))) u.ecc (x / 8 * 8)
    show smGet eccGood (u.ecc.filter fun q => !(decide (a ≤ q.1) && decide (q.1 + 8 ≤ a + n))) (x / 8 * 8) = .good
    rw [this]
    split
    · exact h
    · rfl

/-- A store inside one page marks nothing but the page itself. -/
theorem storeRaw_leaves (a : Nat) (b : List Byte) (s : State) (hb : a / 4096 = (a + b.length - 1) / 4096)
    (hs : s.hasp.mirroring = false) : Leaves s (storeRaw a b s) 1 ∧ (storeRaw a b s).mm.undo = s.mm.undo := by
  have hp : (putBytes s a b).mm = s.mm ∧ (putBytes s a b).ecc = s.ecc ∧ (putBytes s a b).hasp = s.hasp := by
    rw [putBytes_only]; exact ⟨rfl, rfl, rfl⟩
  have l0 : Leaves s (putBytes s a b) 0 := .of_eq hp.2.1 hp.1 hp.2.2
  obtain ⟨l1, u1⟩ := healWords_leaves a b.length (putBytes s a b)
  have hw := mirrorWrite_off a b (putBytes s a b) (by rw [hp.2.2]; exact hs)
  have h0 := l0.trans l1
  simp only [storeRaw, hw]
  split
  · exact ⟨⟨h0.good, by have := h0.dirty; omega, h0.covered, h0.inject, h0.alone⟩, by rw [u1, hp.1]⟩
  · rw [← hb, Nat.sub_self]
    simp only [forAll, List.range_succ, List.range_zero, List.nil_append, List.foldl_cons, List.foldl_nil, Nat.add_zero]
    obtain ⟨-, t2, t3, t4, t5, t6, t7, -⟩ := touchPage_keeps (a / 4096) (healWords a b.length (putBytes s a b))
    exact ⟨h0.trans ⟨fun x e => by simpa [eccAt, t2] using e, t3, t5, t6, t7⟩, by rw [t4, u1, hp.1]⟩

/-! The undo log (R220, R222). -/

theorem logByte_mono {s : State} {a m n x : Nat} (h : m ≤ n) (hn : logByte s a n x = false) : logByte s a m x = false := by
  rw [Bool.eq_false_iff] at hn ⊢
  intro k
  apply hn
  simp only [logByte, Bool.and_eq_true, decide_eq_true_eq] at k ⊢
  exact ⟨⟨k.1.1, k.1.2⟩, by have := k.2; omega⟩

theorem undoStore_eq (s : State) : undoStore s = storeRaw (undoBase s + 16 * s.mm.undo.length)
    (leBytes 8 (Config.freeBits s.free).toNat ++ leBytes 8 (Config.freeBits (s.free + 1)).toNat) { s with free := s.free + 2 } := rfl

theorem undoBase_aligned (s : State) : undoBase s % 16 = 0 := by simp only [undoBase]; omega

theorem undoStore_keeps (s : State) (hs : s.hasp.mirroring = false) :
    Beside s (undoStore s) ∧ Leaves s (undoStore s) 1 ∧ (undoStore s).mm.undo = s.mm.undo ∧
      ∀ x, x < undoBase s + 16 * s.mm.undo.length ∨ undoBase s + 16 * (s.mm.undo.length + 1) ≤ x →
        memByte (undoStore s) x = memByte s x := by
  have ha := undoBase_aligned s
  rw [undoStore_eq]
  set b := leBytes 8 (Config.freeBits s.free).toNat ++ leBytes 8 (Config.freeBits (s.free + 1)).toNat with hb
  have hl : b.length = 16 := by rw [hb]; simp [leBytes_length]
  set r : State := { s with free := s.free + 2 } with hr
  have hrs : r.hasp.mirroring = false := hs
  have h0 : Beside s r := ⟨rfl, rfl, rfl, rfl, rfl, fun _ _ => rfl⟩
  have g0 : Leaves s r 0 := .of_eq rfl rfl rfl
  obtain ⟨g1, g2⟩ := storeRaw_leaves (undoBase s + 16 * s.mm.undo.length) b r (by rw [hl]; omega) hrs
  refine ⟨beside_trans h0 (storeRaw_beside _ _ _ hrs), by simpa using g0.trans g1, g2, fun x hx => ?_⟩
  rw [memByte_storeRaw, if_neg (by rw [hl]; omega)]
  rfl

/-- The log takes an entry, and UNDOPEAK follows it. -/
theorem undoEntry_keeps (v : State) (q : List UndoEntry) (n : Nat) :
    let w := putFld { v with mm := { v.mm with undo := q } } Reg.MEM_UNDOPEAK 22 0 n
    Beside v w ∧ Leaves v w 0 ∧ w.mm.undo = q ∧ w.mem = v.mem :=
  ⟨⟨rfl, rfl, rfl, rfl, rfl, fun _ ho => getReg_putFld_ne _ _ _ _ (storeReg_ne (by decide) ho)⟩,
    ⟨fun _ h => h, Nat.le_refl _, rfl, rfl, rfl⟩, rfl, rfl⟩

/-- What logging a word before M0 stores to it does: one entry at most, in the log's region. -/
theorem undoLog_keeps (a : Nat) (s : State) (hs : s.hasp.mirroring = false) :
    Beside s (undoLog .m0 a s) ∧ Leaves s (undoLog .m0 a s) 1 ∧
      s.mm.undo.length ≤ (undoLog .m0 a s).mm.undo.length ∧ (undoLog .m0 a s).mm.undo.length ≤ s.mm.undo.length + 1 ∧
      ∀ x, logByte s a 1 x = false → memByte (undoLog .m0 a s) x = memByte s x := by
  have same : Beside s s ∧ Leaves s s 1 ∧ s.mm.undo.length ≤ s.mm.undo.length ∧ s.mm.undo.length ≤ s.mm.undo.length + 1 ∧
      ∀ x, logByte s a 1 x = false → memByte s x = memByte s x :=
    ⟨beside_refl s, ⟨fun _ h => h, Nat.le_succ _, rfl, rfl, rfl⟩, Nat.le_refl _, Nat.le_succ _, fun _ _ => rfl⟩
  obtain ⟨b1, l1, u1, m1⟩ := undoStore_keeps s hs
  simp only [undoLog]
  split
  · exact same
  · rename_i hlog
    split
    · split
      · exact same
      · generalize undoStore s = v at b1 l1 u1 m1 ⊢
        generalize hq : ({ addr := a / 8 * 8, old := _ } : UndoEntry) :: v.mm.undo = q
        have hq' : q.length = s.mm.undo.length + 1 := by rw [← hq, List.length_cons, u1]
        obtain ⟨b2, l2, u2, m2⟩ := undoEntry_keeps v q (max (fld { v with mm := { v.mm with undo := q } } Reg.MEM_UNDOPEAK 22 0) q.length)
        generalize putFld { v with mm := { v.mm with undo := q } } Reg.MEM_UNDOPEAK 22 0
          (max (fld { v with mm := { v.mm with undo := q } } Reg.MEM_UNDOPEAK 22 0) q.length) = w at b2 l2 u2 m2 ⊢
        refine ⟨beside_trans b1 b2, l1.trans l2, by rw [u2]; omega, by rw [u2]; omega, fun x hx => (memByte_of_mem m2 x).trans (m1 x ?_)⟩
        simp only [logByte, Bool.and_eq_false_iff, decide_eq_false_iff_not] at hx
        simp only [Bool.not_eq_true', Bool.not_eq_false] at hlog
        rcases hx with (hx | hx) | hx
        · rw [hlog] at hx; exact absurd hx (by decide)
        · left; omega
        · right; omega
    · rename_i h; exact absurd trivial h

/-! A write by M0. -/

/-- A write by M0 to a word that takes it at once: the undo log, the units that watch, and the bytes. -/
theorem memStoreAt_eq (s : State) (a : Nat) (b : List Byte) (l : List Nat) (h : Storable s a) :
    memStoreAt .m0 a b l s = (true, storeRaw a b (watchWrite .m0 a b l (undoLog .m0 a s))) := by
  have hw : awaitPage a s = s := by
    unfold awaitPage
    rw [if_pos]
    rcases h.page with hp | hp
    · simp [hp]
    · simp [hp]
  have e1 : ¬ (eccAt s a = .double ∧ b.length < 8) := by rw [h.good]; simp
  have e2 : ¬ (Master.m0 = .m0 ∧ undoFull a s = true) := by rw [h.room]; simp
  unfold memStoreAt
  rw [if_neg e1, if_neg e2, hw]
  obtain ⟨-, l1, -, -, -⟩ := undoLog_keeps a s h.alone
  obtain ⟨-, -, -, w4, w5⟩ := watchWrite_keeps .m0 a b l (undoLog .m0 a s)
  have hmir : (watchWrite .m0 a b l (undoLog .m0 a s)).hasp.mirroring = false := by rw [w5, l1.alone, h.alone]
  have hinj : (storeRaw a b (watchWrite .m0 a b l (undoLog .m0 a s))).mm.inject = [] := by
    rw [storeRaw_inject a b _ hmir, w4, l1.inject, h.plain]
  have hai : applyInject .m0 a b.length (storeRaw a b (watchWrite .m0 a b l (undoLog .m0 a s))) =
      storeRaw a b (watchWrite .m0 a b l (undoLog .m0 a s)) := by
    unfold applyInject
    rw [hinj]
    rfl
  simp only [hai]

/-- A write by M0 to a word that takes it at once: it succeeds, and changes its bytes, the log's entry and what watches. -/
theorem memStoreAt_plain (s : State) (a : Nat) (b : List Byte) (l : List Nat) (h : Storable s a) :
    (memStoreAt .m0 a b l s).1 = true ∧ Beside s (memStoreAt .m0 a b l s).2 ∧
      ∀ x, (a ≤ x ∧ x < a + b.length) ∨ logByte s a 1 x = false →
        memByte (memStoreAt .m0 a b l s).2 x = if a ≤ x ∧ x < a + b.length then b.getD (x - a) 0 else memByte s x := by
  obtain ⟨u1, l1, -, -, u5⟩ := undoLog_keeps a s h.alone
  obtain ⟨w1, w2, -, -, w5⟩ := watchWrite_keeps .m0 a b l (undoLog .m0 a s)
  rw [memStoreAt_eq s a b l h]
  refine ⟨rfl, beside_trans u1 (beside_trans w1 (storeRaw_beside a b _ (by rw [w5, l1.alone, h.alone]))), fun x hx => ?_⟩
  rw [memByte_storeRaw]
  split
  · rfl
  · rename_i hn
    rw [memByte_of_mem w2]
    exact u5 x (hx.resolve_left hn)

end Sys2Proof.Machine
end

