-- ==== Sys2Proof/Laws/MemoryForm.lean ====
section
/-! SUPPORT. Every operation that writes memory keeps its canonical form, and so does what a reset, a loss and a restore leave. The
operations named here are all those that build a new memory: every other definition writes through them. -/

namespace Sys2Proof.Machine

theorem State.reset_memWf : Memory.wf State.reset.mem = true := rfl

theorem filter_memWf (s : State) (p : Nat × Byte → Bool) (h : Memory.wf s.mem = true) : Memory.wf (s.mem.filter p) = true :=
  smWf_filter memDefault p s.mem h

theorem storeRaw_memWf (a : Nat) (b : List Byte) (s : State) (h : Memory.wf s.mem = true) : Memory.wf (storeRaw a b s).mem = true := by
  rw [storeRaw_mem]
  exact putBytes_memWf s a b h

theorem clearRange_memWf (s : State) (lo hi : Nat) (h : Memory.wf s.mem = true) : Memory.wf (clearRange s lo hi).mem = true :=
  filter_memWf s _ h

theorem putRegionPoint_memWf (base : Nat) (s : State) (k : Nat) (v : Word) (h : Memory.wf s.mem = true) :
    Memory.wf (putRegionPoint base s k v).mem = true := by
  unfold putRegionPoint
  split
  · exact putByte_memWf s _ _ h
  · exact putBytes_memWf s _ _ h

theorem foldl_memWf {α : Type} (f : State → α → State) (hf : ∀ s x, Memory.wf s.mem = true → Memory.wf (f s x).mem = true)
    (l : List α) (s : State) (h : Memory.wf s.mem = true) : Memory.wf (l.foldl f s).mem = true := by
  induction l generalizing s with
  | nil => exact h
  | cons x r ih => exact ih _ (hf s x h)

theorem rewriteRegion_memWf (s : State) (base c : Nat) (m : SMap Word) (h : Memory.wf s.mem = true) :
    Memory.wf (rewriteRegion s base c m).mem = true :=
  foldl_memWf _ (fun s p hs => putRegionPoint_memWf base s p.1 p.2 hs) _ _ (clearRange_memWf s _ _ h)

theorem loseMemory_memWf (s : State) (h : Memory.wf s.mem = true) : Memory.wf (loseMemory s).mem = true := by
  unfold loseMemory
  dsimp only
  split
  · exact filter_memWf s _ h
  · exact filter_memWf s _ h

theorem forAll_putEcc_memWf (l : List (Nat × Ecc)) (s : State) (h : Memory.wf s.mem = true) :
    Memory.wf (forAll l (fun s p => putEcc s p.1 p.2) s).mem = true :=
  foldl_memWf (fun s (p : Nat × Ecc) => putEcc s p.1 p.2) (fun _ _ hs => hs) l s h

theorem forAll_putByte_memWf (l : List (Nat × Byte)) (s : State) (h : Memory.wf s.mem = true) :
    Memory.wf (forAll l (fun s p => putByte s p.1 p.2) s).mem = true :=
  foldl_memWf _ (fun s p hs => putByte_memWf s p.1 p.2 hs) l s h

theorem restoreMemory_memWf (s : State) (h : Memory.wf s.mem = true) : Memory.wf (restoreMemory s).mem = true :=
  forAll_putEcc_memWf _ _ (forAll_putByte_memWf _ _ (filter_memWf s _ h))

end Sys2Proof.Machine
end

