-- ==== Sys2Proof/Laws/Perform.lean ====
section
/-! SUPPORT. What executing an instruction of a task does, once for every instruction. -/

namespace Sys2Proof.Machine

variable {s : State} {t : Nat} {i : Inst}

theorem Executes.act_running (h : Executes s t i) : getInst s t = some i := by
  have := h.inst
  unfold runningInst at this
  split at this
  · split at this
    · split at this
      · split at this
        · rename_i u hu j hj _
          simp only [Option.some.injEq, Prod.mk.injEq] at this
          obtain ⟨rfl, rfl⟩ := this
          exact hj
        · simp at this
      · simp at this
    · simp at this
  · simp at this

theorem followPos_lead (s : State) (h : s.hasp.posQ = []) : followPos s = s := by simp [followPos, h]

/-- A change of the instance of task `t` leaves the others as they are. -/
theorem othersReady_updInst (t : Nat) (f : Inst → Inst) (s : State) (h : othersReady t s = false) :
    othersReady t (updInst t f s) = false := by
  unfold updInst
  split
  · simp only [othersReady, putInst, alPut, alDel, List.any_cons, List.any_filter, ne_eq, not_true_eq_false, decide_false,
      Bool.false_and, Bool.false_or, List.any_eq_false] at h ⊢
    intro p hp
    have := h p hp
    simp only [Bool.and_eq_true, not_and, Bool.not_eq_true] at this ⊢
    intro hne
    exact fun _ => this hne
  · exact h

/-- M0 fetches words whose codes are good as they are. -/
theorem fetch_good (c : Ctx) (s : State) (h : ∀ j ∈ fetchIdx (codeWord s) c, eccAt s (codeBase s + 4 * j) = .good) :
    fetch c s = (true, s) := by
  unfold fetch
  revert h
  generalize fetchIdx (codeWord s) c = l
  intro h
  induction l with
  | nil => rfl
  | cons j r ih =>
    have hl : memLoad 0 (codeBase s + 4 * j) 4 s = (some (seenNat s (codeBase s + 4 * j) 4), s) := by
      unfold memLoad
      rw [h j (List.mem_cons_self ..)]
    simp only [List.foldl_cons, hl]
    exact ih fun k hk => h k (List.mem_cons_of_mem _ hk)

/-- An instruction of the instance that executes. -/
theorem perform_eq (h : Executes s t i) (a : Env → Ctx → Act) :
    perform a s = .next (settleFaults (followPos (runInstr t a i s))) := by
  rw [perform, act_runs _ h.runs.1]
  simp only [h.inst, h.free, if_neg h.pass]

/-- What the accesses of an instruction leave, and how it ends. -/
theorem perform_run (h : Executes s t i) (a : Env → Ctx → Act) (e : Ending) (s' : State)
    (hr : runAct t (a (envOf s i) i.ctx) s = (e, s')) :
    perform a s = .next (settleFaults (followPos (finishInstr t i e s'))) := by
  rw [perform_eq h, runInstr]
  have hpc : ¬ 2 ^ 24 ≤ i.ctx.pc := by have := h.pc; omega
  simp only [if_neg hpc, fetch_good _ _ h.code, if_true, hr]

/-- An instruction that completes with what its accesses leave. -/
theorem perform_ends (h : Executes s t i) (a : Env → Ctx → Act) (c : Ctx) (s' : State)
    (hr : runAct t (a (envOf s i) i.ctx) s = (.done c, s')) (hp : s'.hasp.posQ = []) (hf : s'.flt.arrived = [])
    (ho : inRptu i = true → othersReady t (updInst t (fun j => { j with ctx := c, count := j.count + 1 }) s') = false) (j : Inst) (hj : getInst s' t = some j) :
    perform a s = .next (stepped s' t j c) := by
  have hu : finishInstr t i (.done c) s' = stepped s' t j c := by
    have : (inRptu i && c.rep.isNone && othersReady t (updInst t (fun j => { j with ctx := c, count := j.count + 1 }) s')) = false := by
      cases hr : inRptu i
      · rfl
      · simp [ho hr]
    simp only [finishInstr, this]
    simp [updInst, hj, stepped]
  rw [perform_run h a _ s' hr, hu, followPos_lead _ (by simpa [stepped, putInst] using hp),
    settleFaults_none _ (by simpa [stepped, putInst] using hf)]

/-- An instruction that makes no access completes with its context, and nothing else changes. -/
theorem perform_done (h : Executes s t i) (a : Env → Ctx → Act) (c : Ctx) (ha : a (envOf s i) i.ctx = .done c) :
    perform a s = .next (stepped s t i c) := by
  refine perform_ends h a c s ?_ h.leads h.runs.2 (fun hr => othersReady_updInst t _ s (h.order hr)) i h.act_running
  rw [ha]
  rfl

end Sys2Proof.Machine
end

