-- ==== Sys2Proof/Laws/Points.lean ====
section
/-! SUPPORT. Points by class and index, what an instruction of a point operand comes to, and stores one after another. -/

namespace Sys2Proof.Machine

/-! Keys. -/

theorem pcls_pkey (c n : Nat) (h : n < 2 ^ 18) : pcls (pkey c n) = c := by
  simp only [pcls, pkey]; omega

theorem pidx_pkey (c n : Nat) (h : n < 2 ^ 18) : pidx (pkey c n) = n := by
  simp only [pidx, pkey]; omega

theorem pkey_add (c n k : Nat) : pkey c n + k = pkey c (n + k) := by
  simp only [pkey]; omega

/-- The word of memory that an MW point is. -/
theorem pointAddr_mw (n : Nat) (h : n < 2 ^ 18) : pointAddr (pkey 6 n) = 0x4_0180_0000 + 4 * n := by
  simp only [pointAddr, pcls_pkey 6 n h, pidx_pkey 6 n h, isBitCls, clsBase, imageBase]
  simp

/-- The byte of memory that holds an MX point. -/
theorem pointAddr_mx (n : Nat) (h : n < 2 ^ 18) : pointAddr (pkey 2 n) = 0x4_0020_0000 + n / 8 := by
  simp only [pointAddr, pcls_pkey 2 n h, pidx_pkey 2 n h, isBitCls, clsBase, imageBase]
  simp

/-! Operands. -/

/-- A point operand whose effective index is known. -/
theorem pointKey_at (kind : Nat → Bool) (write : Bool) (len k cls idx : Nat) (base : Int) (step : Bool) (c : Ctx) (n : Int)
    (hn : (idx : Int) + base + (if step then (iterOf c * k : Int) else 0) = n) :
    pointKey kind write len k cls idx base step c =
      if !kind cls then .error trapClass
      else if n < 0 ∨ 262144 < n + len then .error trapPointRange
      else if write && (cls = clsIX || cls = clsIW) then .error trapInputWrite
      else .ok (pkey cls n.toNat) := by
  subst hn
  unfold pointKey
  cases step <;> simp

theorem pointP_index (f : PF) (k : Nat) (c : Ctx) :
    (f.idx.toNat : Int) + 0 + (if f.mod.getLsbD 0 then (iterOf c * k : Int) else 0) = (pointP f k c : Nat) := by
  simp only [pointP]
  split <;> push_cast <;> ring

/-- A write of a class that is no input. -/
theorem notInput (write : Bool) (cls : Nat) (hw : write = true → cls ≠ 0 ∧ cls ≠ 4) :
    (write && (decide (cls = clsIX) || decide (cls = clsIW))) = false := by
  cases hwr : write with
  | false => rfl
  | true => have := hw hwr; simp [clsIX, clsIW, this.1, this.2]

/-- The operand of an instruction on a point in format P. -/
theorem pointKey_p (kind : Nat → Bool) (write : Bool) (len k : Nat) (f : PF) (c : Ctx)
    (hk : kind f.cls.toNat = true) (hn : pointP f k c + len ≤ 2 ^ 18) (hw : write = true → f.cls.toNat ≠ 0 ∧ f.cls.toNat ≠ 4) :
    pointKey kind write len k f.cls.toNat f.idx.toNat 0 (f.mod.getLsbD 0) c = .ok (pkey f.cls.toNat (pointP f k c)) := by
  have h1 : ¬ (((pointP f k c : Nat) : Int) < 0 ∨ (262144 : Int) < (pointP f k c : Nat) + (len : Int)) := by omega
  rw [pointKey_at _ _ _ _ _ _ _ _ _ _ (pointP_index f k c), hk, if_neg h1, notInput write _ hw]
  rfl

/-- An operand in format P of a class of the wrong kind. -/
theorem pointKey_cls (kind : Nat → Bool) (write : Bool) (len k : Nat) (f : PF) (c : Ctx) (hk : kind f.cls.toNat = false) :
    pointKey kind write len k f.cls.toNat f.idx.toNat 0 (f.mod.getLsbD 0) c = .error 0x81 := by
  rw [pointKey_at _ _ _ _ _ _ _ _ _ _ (pointP_index f k c), hk]
  rfl

/-- An operand in format P outside the class. -/
theorem pointKey_range (kind : Nat → Bool) (write : Bool) (len k : Nat) (f : PF) (c : Ctx)
    (hk : kind f.cls.toNat = true) (hn : 2 ^ 18 < pointP f k c + len) :
    pointKey kind write len k f.cls.toNat f.idx.toNat 0 (f.mod.getLsbD 0) c = .error 0x82 := by
  have h1 : ((pointP f k c : Nat) : Int) < 0 ∨ (262144 : Int) < (pointP f k c : Nat) + (len : Int) := by omega
  rw [pointKey_at _ _ _ _ _ _ _ _ _ _ (pointP_index f k c), hk, if_pos h1]
  rfl

/-- A write of an input point in format P. -/
theorem pointKey_input (kind : Nat → Bool) (len k : Nat) (f : PF) (c : Ctx)
    (hk : kind f.cls.toNat = true) (hn : pointP f k c + len ≤ 2 ^ 18) (hi : f.cls.toNat = 0 ∨ f.cls.toNat = 4) :
    pointKey kind true len k f.cls.toNat f.idx.toNat 0 (f.mod.getLsbD 0) c = .error 0x83 := by
  have h1 : ¬ (((pointP f k c : Nat) : Int) < 0 ∨ (262144 : Int) < (pointP f k c : Nat) + (len : Int)) := by omega
  rw [pointKey_at _ _ _ _ _ _ _ _ _ _ (pointP_index f k c), hk, if_neg h1]
  rcases hi with hi | hi <;> simp [hi, clsIX, clsIW, trapInputWrite]

/-- A PX operand. -/
theorem pxKey_ok (kind : Nat → Bool) (write : Bool) (f : PXF) (c : Ctx) (n : Nat) (hk : kind f.cls.toNat = true)
    (he : pointPX f c = n) (hn : n < 2 ^ 18) (hw : write = true → f.cls.toNat ≠ 0 ∧ f.cls.toNat ≠ 4) :
    pxKey kind write f c = .ok (pkey f.cls.toNat n) := by
  have e : (f.idx.toNat : Int) + (if f.indexed then (getX c f.rb).toInt else 0) +
      (if f.step then (iterOf c * (1 : Nat) : Int) else 0) = (n : Int) := by
    rw [← he]; simp only [pointPX]; simp
  have h1 : ¬ ((n : Int) < 0 ∨ (262144 : Int) < (n : Int) + ((1 : Nat) : Int)) := by omega
  rw [pxKey, pointKey_at _ _ _ _ _ _ _ _ _ _ e, hk, if_neg h1, notInput write _ hw]
  rfl

/-! Traps and writes. -/

/-- An instruction that traps before it accesses anything. -/
theorem perform_traps (h : Executes s t i) (a : Env → Ctx → Act) (k : Nat) (ha : a (envOf s i) i.ctx = .trap k) :
    perform a s = trapped s t i k := by
  rw [perform_run h a (.trap k) s (by rw [ha]; rfl)]
  rfl

/-- An instruction whose accesses are one store of bytes. -/
theorem perform_wrote (h : Executes s t i) (a : Env → Ctx → Act) (c : Ctx) (x : Nat) (b : List Byte) (s' : State)
    (hr : runAct t (a (envOf s i) i.ctx) s = (.done c, s')) (hb : Beside s s')
    (hm : ∀ y, (x ≤ y ∧ y < x + b.length) ∨ logByte s x b.length y = false →
      memByte s' y = if x ≤ y ∧ y < x + b.length then b.getD (y - x) 0 else memByte s y) :
    ∃ u, perform a s = .next u ∧ Wrote s u t i c x b := by
  have hi : getInst s' t = some i := by have := h.act_running; simpa [getInst, hb.frm] using this
  refine ⟨stepped s' t i c, ?_, ?_⟩
  · refine perform_ends h a c s' hr (by rw [hb.posQ]; exact h.leads) (by rw [hb.flt]; exact h.runs.2) (fun hr => ?_) i hi
    exact othersReady_updInst t _ s' (by simpa [othersReady, hb.frm] using h.order hr)
  · refine ⟨⟨?_, hb.flt, hb.posQ, hb.pads, hb.boot, hb.regs⟩, hm⟩
    simp [stepped, putInst, hb.frm]

/-! Stores one after another. -/

theorem StorableAll.at (h : StorableAll s a (n + 1)) (x : Nat) (hx : a ≤ x) (hx' : x < a + (n + 1)) : Storable s x := by
  refine ⟨h.good x hx hx', Or.inr ?_, ?_, h.plain, h.alone⟩
  · have := h.page; omega
  · have := h.room
    simp only [undoFull, Bool.and_eq_false_iff, decide_eq_false_iff_not]
    right; omega

/-- What a store inside one page leaves to the next one. -/
theorem storableAll_store (s : State) (a n x : Nat) (b : List Byte) (l : List Nat) (h : StorableAll s a (n + 1)) (hx : a ≤ x)
    (hx' : x < a + (n + 1)) (hb : x / 4096 = (x + b.length - 1) / 4096) :
    StorableAll (memStoreAt .m0 x b l s).2 a n := by
  have hs := h.at x hx hx'
  have hreg := (memStoreAt_plain s x b l hs).2.1.regs Reg.RET_CFG (by decide)
  obtain ⟨-, l1, u2, u3, -⟩ := undoLog_keeps x s h.alone
  obtain ⟨-, -, w3, w4, w5⟩ := watchWrite_keeps .m0 x b l (undoLog .m0 x s)
  rw [memStoreAt_eq s x b l hs] at hreg ⊢
  have lw : Leaves s (watchWrite .m0 x b l (undoLog .m0 x s)) 1 := l1.trans (.of_eq w3 w4 w5)
  obtain ⟨r1, r2⟩ := storeRaw_leaves x b (watchWrite .m0 x b l (undoLog .m0 x s)) hb (by rw [lw.alone]; exact h.alone)
  have la := lw.trans r1
  have hpg := h.page
  have hrm := h.room
  refine ⟨fun y hy hy' => la.good y (h.good y hy (by omega)), ?_, ?_, ?_, ?_⟩
  · have e : limitPages (storeRaw x b (watchWrite .m0 x b l (undoLog .m0 x s))) = limitPages s := by
      simp only [limitPages, limitBytes, dirtyMax, fld, hreg, la.covered]
    have := la.dirty
    simp only [e]
    omega
  · simp only [r2, w4]
    omega
  · simp only [la.inject, h.plain]
  · simp only [la.alone, h.alone]

/-- The bytes that the log takes for a store after another one belong to those that it takes for both. -/
theorem logByte_store (s : State) (a n x m y : Nat) (b : List Byte) (l : List Nat) (h : Storable s x) (ha : logged a = true)
    (hb : x / 4096 = (x + b.length - 1) / 4096) (hy : logByte s a (n + 1) y = false) (hm : m ≤ n) :
    logByte (memStoreAt .m0 x b l s).2 x m y = false := by
  have hlo := (memStoreAt_plain s x b l h).2.1.regs Reg.MEM_UNDOBASE_LO (by decide)
  have hhi := (memStoreAt_plain s x b l h).2.1.regs Reg.MEM_UNDOBASE_HI (by decide)
  obtain ⟨-, l1, u2, u3, -⟩ := undoLog_keeps x s h.alone
  obtain ⟨-, -, w3, w4, w5⟩ := watchWrite_keeps .m0 x b l (undoLog .m0 x s)
  rw [memStoreAt_eq s x b l h] at hlo hhi ⊢
  have lw : Leaves s (watchWrite .m0 x b l (undoLog .m0 x s)) 1 := l1.trans (.of_eq w3 w4 w5)
  obtain ⟨-, r2⟩ := storeRaw_leaves x b (watchWrite .m0 x b l (undoLog .m0 x s)) hb (by rw [lw.alone]; exact h.alone)
  have e : undoBase (storeRaw x b (watchWrite .m0 x b l (undoLog .m0 x s))) = undoBase s := by
    simp only [undoBase, fld, hlo, hhi]
  rw [Bool.eq_false_iff] at hy ⊢
  intro k
  apply hy
  simp only [logByte, Bool.and_eq_true, decide_eq_true_eq, e, r2, w4] at k ⊢
  exact ⟨⟨ha, by omega⟩, by omega⟩

end Sys2Proof.Machine
end

