-- ==== Sys2Proof/Tests/Slice0.lean ====
section
/-! SUPPORT. Tests: an ill-formed command for every check of WellFormed, words and results that the manual states, and for every
statement that has hypotheses a state and operands that meet them, clause by clause. -/

namespace Sys2Proof.Tests

open Sys2Proof Sys2Proof.Machine

/-! States. -/

/-- A SOLO module whose device runs, in STOP, before its first tick. -/
def run : State := { State.reset with boot := { State.reset.boot with por := false }, pads := {}, raw := 2000000 }

/-- Its frames run: frame 4, whose tick, at 4 ms, lies 1 ms back. -/
def solo : State := putPair { run with frm := { run.frm with ticking := true, first := false } } Reg.FRM_FNUM_LO 4

/-- A state in mode `m`. -/
def inMode (m : Nat) (s : State) : State := putFld s Reg.FRM_MODE 1 0 m

/-- A state of the pair's module in HASP state `h`. -/
def inPair (h : Nat) (s : State) : State := putFld s Reg.HASP_STAT 2 0 h

/-- An instance released in frame 4 that runs with the context `c`. -/
def inst (c : Ctx) : Inst := { ctx := c, st := .running, deadline := 5, relTime := 4000000, relT0 := 4000000 }

/-- The instance of task 0 with the context `c` executes. -/
def exe (c : Ctx) : State := { inMode 1 solo with
  frm := { (inMode 1 solo).frm with phase := 1, compute := true, running := some 0, insts := [(0, inst c)] } }

theorem leavesRun_exe (c : Ctx) : leavesRun (exe c) = true := (by decide : leavesRun (exe {}) = true)

theorem executes (c : Ctx) (h : c.pc < 2 ^ 24) : Executes (exe c) 0 (inst c) where
  runs := ⟨(by decide : alive (exe {}) = true), rfl⟩
  inst := by
    unfold runningInst
    rw [leavesRun_exe]
    rfl
  free := by
    unfold breakpointAt
    split
    · rfl
    · have f : ∀ k < 4, flag (exe {}) Reg.DBG_BPCFG (4 + k) = false := by decide
      rw [List.filter_eq_nil_iff.mpr]
      · rfl
      · intro k hk
        have : flag (exe c) Reg.DBG_BPCFG (4 + k) = false := f k (List.mem_range.mp hk)
        simp [this]
  pass := fun h => nomatch (show none = some 0 from h)
  leads := rfl
  order := fun _ => rfl
  pc := h
  code := fun _ _ => rfl

theorem storable (c : Ctx) (a : Nat) : Storable (exe c) a where
  good := rfl
  page := Or.inr (by decide : (exe {}).mm.dirty.length < limitPages (exe {}))
  room := by simp [undoFull, show (exe c).mm.undo = [] from rfl, undoMax]
  plain := rfl
  alone := rfl

/-! An ill-formed command for every check of WellFormed. -/

theorem test_wf_addresses : Instr.wf (.registerWrite .m1 2 0) = false ∧ Instr.wf (.registerWrite .m1 0x1000000 0) = false ∧
    Instr.wf (.registerWrite .m1 0xFFFFFC 0) = true ∧ Instr.wf (.patrolScrub (2 ^ 40)) = false ∧ Instr.wf (.pageCleaning (2 ^ 28)) = false ∧
    Instr.wf (.mirrorRecord 0 []) = false ∧ Instr.wf (.forceTableWrite .m1 (2 ^ 40 - 1) [0, 0]) = false ∧
    Instr.wf (.copyRecord 0 [0]) = false ∧ Instr.wf (.dirtyStall { m := .m1, addr := 2 ^ 40, data := [0] }) = false ∧
    Instr.wf (.hostRequest { write := true, bar2 := false, off := 0, len := 4, data := [0] }) = false ∧
    Instr.wf (.hostRequest { write := false, bar2 := false, off := 0, len := 0, data := [] }) = false := by decide

theorem test_wf_parts : Instr.wf (.rawTransition 192 true) = false ∧ Instr.wf (.rawTransition 191 true) = true ∧ Instr.wf (.noCompliance 48) = false ∧
    Instr.wf (.timedEdge true 48) = false ∧ Instr.wf (.timedEdge false 192) = false ∧ Instr.wf (.bankOverload 12 0) = false ∧
    Instr.wf (.groupSupply 6) = false ∧ Instr.wf (.timeEvent 16) = false ∧ Instr.wf (.recovered 12) = false ∧
    Instr.wf (.windowOccurrence 0 48) = false ∧ Instr.wf (.windowOccurrence 0 63) = true := by decide

/-- A CC format frame of `n` bytes. -/
def cc (id : BitVec 29) (n : Nat) : BusFrame := { fmt := 0, xtd := false, id := id, remote := false, stamp := 0, data := List.replicate n 0 }

theorem test_wf_frames : Instr.wf (.frameReception 11 (cc 0x7FF 8)) = true ∧ Instr.wf (.frameReception 11 (cc 0x800 8)) = false ∧
    Instr.wf (.frameReception 11 (cc 0x7FF 9)) = false ∧ Instr.wf (.frameReception 11 { cc 0 0 with fmt := 3 }) = false ∧
    Instr.wf (.frameReception 11 { cc 0 0 with fmt := 2, xtd := true }) = false ∧ Instr.wf (.frameReception 12 (cc 0 0)) = false ∧
    Instr.wf (.referenceReception 0 { id := 0, cc := false, cycle := 64, disc := false, time := 0, stamp := 0 }) = false ∧ Instr.wf (.echoReq 0 { addr := 1024, seq := 0, w4 := 0, w8 := 0, w12 := 0, stamp := 0 }) = false := by decide

theorem test_wf_records : Instr.wf (.triggerRecord 16 0 0) = false ∧ Instr.wf (.triggerRecord 0 4096 0) = false ∧
    Instr.wf (.position { frame := 0, tid := 48, count := 0, kind := .release }) = false ∧
    Instr.wf (.accept { frame := 0, lane := 12, stamp := 0, crc := 0 }) = false ∧
    Instr.wf (.writeRecord { addr := 0, data := [0], frame := 0, tid := 48, count := 0 }) = false ∧
    Instr.wf (.commits { frame := 0, writes := [(1, 0)], seq := 0, install := false }) = false := by decide

/-! The words that the manual writes out (the guard summary; R96's example). -/

theorem test_words_guard_summary : instrWords (.ld ⟨0, 0, 2000⟩) = some [0x100007D0] ∧ instrWords (.rptu ⟨0, 0, 63⟩) = some [0x8100003F] ∧
    instrWords (.orI ⟨1, 0, 2001⟩) = some [0x142007D1] ∧ instrWords (.st ⟨0, 1, 300⟩) = some [0x1804012C] ∧
    instrWords (.ton ⟨0, 6, 5000⟩) = some [0x20181388] ∧ instrWords (.st ⟨0, 1, 301⟩) = some [0x1804012D] := by decide

/-! Results. What an instruction leaves in register `k` of its instance. -/

def leaves (i : Instr) (c : Ctx) (k : BitVec 5) : Option DWord :=
  match exec i (exe c) with
  | .next u => (getInst u 0).map fun j => getX j.ctx k
  | _ => none

def la (i : Instr) (c : Ctx) : Option Bool :=
  match exec i (exe c) with
  | .next u => (getInst u 0).map fun j => j.ctx.la
  | _ => none

def two (a b : DWord) : Ctx := { x := [(1, a), (2, b)] }

/-- R105: sums wrap, MULH gives the high half, and X0 stays 0. -/
theorem test_add_wraps : leaves (.add ⟨3, 1, 2, 0⟩) (two 0xFFFFFFFFFFFFFFFF 2) 3 = some 1 := by decide
theorem test_add_x0 : leaves (.add ⟨0, 1, 2, 0⟩) (two 1 2) 0 = some 0 := by decide
theorem test_mulh_signed : leaves (.mulh ⟨3, 1, 2, 0⟩) (two 0xFFFFFFFFFFFFFFFF 2) 3 = some 0xFFFFFFFFFFFFFFFF := by decide
theorem test_slt_signs : leaves (.slt ⟨3, 1, 2, 0⟩) (two 0xFFFFFFFFFFFFFFFF 0) 3 = some 1 := by decide
theorem test_addi_signed : leaves (.addi ⟨3, 1, 0x3FFF⟩) (two 5 0) 3 = some 4 := by decide
theorem test_not_accumulator : la (.notI {}) {} = some true := by decide

/-- The end of February 2100 in the calendar chapter: the 29th is no date; a second later stands 2100-03-01, a Monday. -/
theorem test_calendar_2100 : bcdCount 0x00235959 0x21000229 = none ∧ bcdCount 0x00235959 0x21000228 = some 3160857599 ∧
    bcdOf 3160857600 = (0x02000000, 0x21000301) := by decide

/-- 512 MiB of hold-up from 2.15 mF at 72 V, 734 MiB covered (the worked example of the retention chapter). -/
theorem test_holdup : (match exec (.holdupMeasure 215 7200) solo with
    | .next u => some (u.mm.covered, regNat u Reg.RET_HOLDUP)
    | _ => none) = some (769795555, 215 * 2 ^ 16 + 7200) ∧ 769795555 / 2 ^ 20 = 734 := by decide

/-- Reset: HALT and no frame; an empty queue in a device that is in reset leaves all as it is. -/
theorem test_reset_pending : State.reset.pending = [] ∧ alive State.reset = false ∧ step State.reset = .next State.reset := ⟨rfl, by decide, by rfl⟩

/-! Witnesses: Gorebin. -/

/-- X1 = 7, X2 = 0. -/
def cx : Ctx := { x := [(1, 7)] }

theorem witness_IntegerResult : Executes (exe cx) 0 (inst cx) ∧ getX cx 1 ≠ 0 ∧ getX cx 2 = 0 ∧ (1 : BitVec 9).toNat ≤ 1 :=
  ⟨executes cx (by decide), by decide⟩

theorem witness_ImmediateResult : Executes (exe cx) 0 (inst cx) ∧ (63 : BitVec 14).toNat < 64 := ⟨executes cx (by decide), by decide⟩

def stack (n : Nat) : Ctx := { la := true, ls := List.replicate n true }

theorem witness_AccumulatorResult :
    (Executes (exe (stack 15)) 0 (inst (stack 15)) ∧ (stack 15).ls.length < 16 ∧ (stack 15).ls = true :: List.replicate 14 true) ∧
    (Executes (exe (stack 16)) 0 (inst (stack 16)) ∧ 16 ≤ (stack 16).ls.length) ∧
    (Executes (exe (stack 0)) 0 (inst (stack 0)) ∧ (stack 0).ls = []) :=
  ⟨⟨executes _ (by decide), by decide⟩, ⟨executes _ (by decide), by decide⟩, executes _ (by decide), by decide⟩

/-- A P operand. -/
def opP (mod : BitVec 3) (cls : BitVec 3) (idx : BitVec 18) : PF := { mod := mod, cls := cls, idx := idx }

theorem witness_PointReads_bits : (∀ f ∈ [opP 1 0 0, opP 1 1 0x3FFFF, opP 0 2 0x3FFFF], f.mod.toNat ≤ 1 ∧
      pointKey isBitCls false 1 1 f.cls.toNat f.idx.toNat 0 (f.mod.getLsbD 0) (inst {}).ctx = .ok (pkey f.cls.toNat f.idx.toNat)) ∧
    pointRead 0 (pkey 0 0) (exe {}) = (some 0, exe {}) ∧ pointRead 0 (pkey 1 0x3FFFF) (exe {}) = (some 0, exe {}) ∧
    pointRead 0 (pkey 2 0x3FFFF) (exe {}) = (some 0, exe {}) := ⟨by decide, rfl, rfl, rfl⟩

def buffered : Inst := { inst {} with qw := [(pkey 1 5, 1)] }

theorem witness_PointReads_classes :
    getInst { exe {} with frm := { (exe {}).frm with insts := [(0, buffered)] } } 0 = some buffered ∧
    pcls (pkey 0 262143) = 0 ∧ pcls (pkey 4 0) = 4 ∧ pcls (pkey 1 5) = 1 ∧ alGet buffered.qw (pkey 1 5) = some 1 ∧
    pcls (pkey 5 262143) = 5 ∧ alGet buffered.qw (pkey 5 262143) = none ∧ pcls (pkey 2 0) = 2 ∧ pcls (pkey 6 262143) = 6 ∧
    eccAt (exe {}) (pointAddr (pkey 6 262143)) = .good := by decide

/-- The second iteration of a repeat, X1 = `a`. -/
def rep1 (a : DWord) : Ctx := { x := [(1, a)], rep := some { remaining := 1, iter := 1, unint := false } }

theorem witness_AccessTraps_points : Executes (exe (rep1 0)) 0 (inst (rep1 0)) ∧ 1 < (opP 2 0 0).mod.toNat ∧
    (opP 0 3 0).mod.toNat ≤ 1 ∧ 2 < (opP 0 3 0).cls.toNat ∧ (opP 1 2 0x3FFFF).cls.toNat ≤ 2 ∧
    pointP (opP 1 2 0x3FFFF) 1 (rep1 0) = 2 ^ 18 ∧ pointP (opP 0 0 0x3FFFF) 1 (rep1 0) < 2 ^ 18 :=
  ⟨executes _ (by decide), by decide⟩

/-- LM and SM with X1 as their address. -/
def atX1 : IF := { rd := 2, ra := 1, imm := 0 }

def addrOf (c : Ctx) : Nat := (getX c atX1.ra + BitVec.ofInt 64 atX1.imm.toInt).toNat

theorem witness_AccessTraps_memory :
    (Executes (exe (rep1 0x10000000000)) 0 (inst (rep1 0x10000000000)) ∧ addrOf (rep1 0x10000000000) = 2 ^ 40) ∧
    addrOf (rep1 0x400000000) = 2 ^ 34 ∧ addrOf (rep1 0x403FFFFFF) = 2 ^ 34 + 2 ^ 26 - 1 ∧
    addrOf (rep1 0x200000000) = 2 ^ 33 ∧ addrOf (rep1 0xFFFFFFFFFF) = 2 ^ 40 - 1 ∧ (inst (rep1 0)).ctx.rep ≠ none :=
  ⟨⟨executes _ (by decide), by decide⟩, by decide⟩

theorem witness_BitWrites :
    (Executes (exe { la := true }) 0 (inst { la := true }) ∧ (opP 1 1 0x3FFFF).mod.toNat ≤ 1 ∧ pointP (opP 1 1 0x3FFFF) 1 { la := true } < 2 ^ 18 ∧
      Storable (exe { la := true }) (pointAddr (pkey 2 0x3FFFF))) ∧
    (Executes (exe {}) 0 (inst {}) ∧ (inst {}).ctx.la = false ∧ pointP (opP 1 2 0) 1 {} < 2 ^ 18) :=
  ⟨⟨executes _ (by decide), by decide, by decide, storable _ _⟩, executes _ (by decide), by decide⟩

theorem storableAll (s : State) (a n : Nat) (he : s.ecc = []) (hd : s.mm.dirty = []) (hu : s.mm.undo = []) (hi : s.mm.inject = [])
    (hm : s.hasp.mirroring = false) (hn : n < 64) (hl : 128 ≤ limitPages s) : StorableAll s a n where
  good x _ _ := by simp [eccAt, he, smGet, eccGood]
  page := by simp [hd]; omega
  room := by simp [hu, undoMax]; omega
  plain := hi
  alone := hm

/-- A block at the last words of MW, with PT or PV 5, ET or CV 3, and the flags `fl`. -/
def block (la : Bool) (i cv fl : Nat) : State :=
  putBytes (exe { la := la }) (pointAddr (pkey 6 i)) (leBytes 4 5 ++ leBytes 4 cv ++ leBytes 4 0 ++ leBytes 4 fl)

theorem witness_BlockResult_timers : ∀ fl ∈ [0, 1, 2, 3], ∀ la ∈ [false, true],
    let s := block la 262140 3 fl
    let a := pointAddr (pkey 6 (pointP (opP 0 6 0x3FFFC) 4 { la := la }))
    runningInst s = some (0, inst { la := la }) ∧ pointP (opP 0 6 0x3FFFC) 4 { la := la } + 4 = 2 ^ 18 ∧ memNat s a 4 = 5 ∧
    (memByte s (a + 12)).getLsbD 0 = decide (fl % 2 = 1) ∧ (memByte s (a + 12)).getLsbD 1 = decide (2 ≤ fl) := by decide

/-- A counter block with the flags in its third word. -/
def counter (la : Bool) (cv fl : Nat) : State :=
  putBytes (exe { la := la }) (pointAddr (pkey 6 262141)) (leBytes 4 5 ++ leBytes 4 cv ++ leBytes 4 fl)

theorem witness_BlockResult_counters : ∀ cv ∈ [0, 2 ^ 31 - 1, 2 ^ 31], ∀ fl ∈ [0, 1], ∀ la ∈ [false, true],
    let s := counter la cv fl
    let a := pointAddr (pkey 6 (pointP (opP 3 6 0x3FFFD) 3 { la := la }))
    runningInst s = some (0, inst { la := la }) ∧ pointP (opP 3 6 0x3FFFD) 3 { la := la } + 3 = 2 ^ 18 ∧ memNat s (a + 4) 4 = cv ∧
    (memByte s (a + 8)).getLsbD 0 = decide (fl = 1) := by decide

theorem witness_BlockResult_stores : StorableAll (block true 262140 3 0) (pointAddr (pkey 6 262140)) 16 ∧
    StorableAll (counter true 0 0) (pointAddr (pkey 6 262141)) 12 :=
  ⟨storableAll _ _ _ (by decide) (by decide) (by decide) (by decide) (by decide) (by decide) (by decide),
   storableAll _ _ _ (by decide) (by decide) (by decide) (by decide) (by decide) (by decide) (by decide)⟩

/-- A PX operand without an index register. -/
def opX (cls : BitVec 3) (idx : BitVec 18) (off : BitVec 14) (rd : BitVec 5) : PXF :=
  { rd := rd, rb := 0, off := off, top := 0, sgn := false, indexed := false, step := false, cls := cls, idx := idx }

theorem witness_PointTransfers_reads (cls : BitVec 3) (off : BitVec 14) : plainPX (opX cls 0x3FFFF off 0) ∧
    pointPX (opX cls 0x3FFFF off 0) {} = (262143 : Nat) ∧ pointRead 0 (pkey 0 262143) (exe {}) = (some 0, exe {}) ∧
    pointRead 0 (pkey 5 262143) (exe {}) = (some 0, exe {}) ∧ pointRead 0 (pkey 6 262143) (exe {}) = (some 0, exe {}) :=
  ⟨⟨rfl, fun _ => rfl⟩, rfl, rfl, rfl, rfl⟩

theorem witness_PointTransfers_writes : Storable (exe {}) (pointAddr (pkey 6 262143)) ∧ Storable (exe {}) (pointAddr (pkey 2 0)) ∧
    ((0 : Nat) : Int) + (opX 2 0 0x3FFF 0).off.toInt < 0 ∧ 2 ^ 24 ≤ ((2 ^ 24 - 1 : Nat) : Int) + (opX 2 0 1 0).off.toInt :=
  ⟨storable _ _, storable _ _, by decide, by decide⟩

theorem witness_MemoryTransfers :
    (Executes (exe { x := [(1, 0x1FFFFFFF8)] }) 0 (inst { x := [(1, 0x1FFFFFFF8)] }) ∧ addrOf { x := [(1, 0x1FFFFFFF8)] } = 2 ^ 33 - 8 ∧
      eccAt (exe { x := [(1, 0x1FFFFFFF8)] }) (2 ^ 33 - 8) = .good ∧ Storable (exe { x := [(1, 0x1FFFFFFF8)] }) (2 ^ 33 - 8)) ∧
    addrOf { x := [(1, 3)] } % 2 ≠ 0 ∧ addrOf { x := [(1, 0x800030004)] } = regBase + Reg.FRM_CFG :=
  ⟨⟨executes _ (by decide), by decide, by rfl, storable _ _⟩, by decide⟩

theorem witness_MemoryTransfers_device : ∃ v, busRead .m0 (regBase + Reg.FRM_CFG) 4 (exe {}) = (some v, exe {}) := ⟨16, rfl⟩

/-- X1 < X2 unsigned and X2 < X1 signed; X3 = X1. -/
def cb (pc : Nat) (la : Bool) : Ctx := { x := [(1, 1), (2, 0xFFFFFFFFFFFFFFFF), (3, 1)], pc := pc, la := la }

theorem witness_BranchResult_branches : Executes (exe (cb 0 true)) 0 (inst (cb 0 true)) ∧
    getX (cb 0 true) 1 = getX (cb 0 true) 3 ∧ getX (cb 0 true) 1 ≠ getX (cb 0 true) 2 ∧
    (getX (cb 0 true) 2).toInt < (getX (cb 0 true) 1).toInt ∧ (getX (cb 0 true) 1).toNat < (getX (cb 0 true) 2).toNat ∧
    ((cb 0 true).pc : Int) + (0x3FFF : BitVec 14).toInt < 0 ∧ 2 ^ 24 ≤ ((cb (2 ^ 24 - 1) false).pc : Int) + (1 : BitVec 14).toInt ∧
    ((cb (2 ^ 24 - 1) false).pc : Int) + (0 : BitVec 14).toInt < 2 ^ 24 ∧ (cb 0 true).la = true ∧ (cb 0 false).la = false :=
  ⟨executes _ (by decide), by decide⟩

def calls (n : Nat) : Ctx := { rs := List.replicate n 9 }

theorem witness_BranchResult_calls : Executes (exe (calls 15)) 0 (inst (calls 15)) ∧ (calls 15).rs.length < 16 ∧
    (calls 16).rs.length = 16 ∧ flag (exe (calls 16)) Reg.LEAF_CORECFG 0 = false ∧
    flag (putFlag (exe (calls 16)) Reg.LEAF_CORECFG 0 true) Reg.LEAF_CORECFG 0 = true ∧
    (calls 1).rs = 9 :: [] ∧ (calls 0).rs = [] := ⟨executes _ (by decide), by decide⟩

/-- The word after a prefix: ADD, LDW and JMP. -/
def after (op : Nat) : State := putBytes (exe {}) (pair (exe {}) Reg.LEAF_CODEBASE_LO + 4) [0, 0, 0, BitVec.ofNat 8 op]

theorem witness_RepeatResult : ∀ op ∈ [0x40, 0x32, 0x02, 0xA4],
    codeWord (after op) 1 / 2 ^ 24 = op ∧ runningInst (after op) = some (0, inst {}) ∧ (inst {}).ctx.pc + 1 < 2 ^ 24 := by decide

theorem witness_FloatResult : Executes (exe cx) 0 (inst cx) ∧ (1 : BitVec 9).toNat ≤ 1 ∧ f64.unpack 0x7FF8000000000001 = .nan ∧
    f32.unpack 0 ≠ .nan ∧ fCmp (f32.unpack 0) (f32.unpack 1) = .lt ∧ fCmp (f64.unpack 1) (f64.unpack 0) = .gt ∧
    fCmp (f32.unpack 0x80000000) (f32.unpack 0) = .eq := ⟨executes _ (by decide), by decide⟩

theorem witness_FenceResult_writes :
    Executes (exe { x := [(1, 0xA000BC7FC)] }) 0 (inst { x := [(1, 0xA000BC7FC)] }) ∧
    ∀ a ∈ [lmmBase, lmmBase + 0xB47FC], lmmBase ≤ a ∧ a < lmmBase + 0xC0000 ∧ (a - lmmBase) % 0x10000 < 0x4800 ∧ a % 4 = 0 :=
  ⟨executes _ (by decide), by decide⟩

theorem witness_FenceResult_emit :
    let s := putBytes (exe { x := [(1, 0x1FFFFFFD8)] }) 0x1FFFFFFE0 (leBytes 4 8)
    runningInst s = some (0, inst { x := [(1, 0x1FFFFFFD8)] }) ∧ 0x1FFFFFFD8 % 8 = 0 ∧
      0x1FFFFFFD8 + (32 + (memNat s (0x1FFFFFFD8 + 8) 4 % 4096 + 7) / 8 * 8) = 2 ^ 33 ∧ s.ecc = [] ∧ (inst {}).ctx.emits < 256 := by decide

/-- The ward in NORMAL with two slots enrolled, slot 1 served. -/
def served (d : Nat) : State := putNat (putFld { exe {} with ward := { (exe {}).ward with enrol := 3 } } Reg.WARD_STAT 2 0 1) Reg.WARD_DONE d

theorem witness_FenceResult_checkin : (∀ d ∈ [0, 2], wardState (served d) = 1 ∧ (served d).ward.enrol.getLsbD 0 = true ∧
      flag (served d) Reg.WARD_DONE 0 = false ∧ wardPos (served d) < (served d).ward.period ∧
      (getX {} 0).toNat % 256 = regNat (served d) Reg.WARD_PCNT % 256 ∧
      ((getReg (putFlag (served d) Reg.WARD_DONE 0 true) Reg.WARD_DONE &&& (served d).ward.enrol = (served d).ward.enrol) ↔ d = 2)) ∧
    wardState (putFld (served 0) Reg.WARD_STAT 2 0 0) = 0 ∧ flag (exe {}) (Reg.EVR_SRC_CFG 31) 31 = false ∧
    flag (putFlag (exe {}) (Reg.EVR_SRC_CFG 31) 31 true) (Reg.EVR_SRC_CFG 31) 31 = true ∧ (exe {}).evr.queue.length < 16 := by decide

theorem witness_InstanceEnds : Executes (exe {}) 0 (inst {}) ∧ Alone (exe {}) 0 (inst {}) ∧ (exe {}).flt.queue.length ≤ 48 ∧
    flag (exe {}) Reg.DBG_BPCFG 0 = false ∧ flag (putFlag (exe {}) Reg.DBG_BPCFG 0 true) Reg.DBG_BPCFG 0 = true ∧
    (∀ k ∈ [0x80, 0x8E], 0x80 ≤ k ∧ k ≤ 0x8E) ∧ taskStop (exe {}) 0 = false :=
  ⟨executes _ (by decide), ⟨by decide, by decide⟩, by decide⟩

theorem witness_WordsDecodeAsInstructions :
    let s := putBytes (exe {}) (pair (exe {}) Reg.LEAF_CODEBASE_LO) (leBytes 4 0x323A0000 ++ leBytes 4 0x00D80009)
    instrWords (.ldw ⟨7, 8, 0, 0, true, true, false, 6, 9⟩) = some [0x323A0000, 0x00D80009] ∧ runningInst s = some (0, inst {}) ∧
      (∀ k, k < 2 → codeWord s (0 + k) = [0x323A0000, 0x00D80009].getD k 0) := by decide

theorem witness_UnusedFieldsTrap_end : Executes (exe { pc := 2 ^ 24 - 1 }) 0 (inst { pc := 2 ^ 24 - 1 }) := executes _ (by decide)

theorem witness_UnusedFieldsTrap : Executes (exe {}) 0 (inst {}) ∧ (1 : BitVec 24) ≠ 0 ∧ 1 < (4 : BitVec 3).toNat ∧ (64 : BitVec 14).toNat > 63 :=
  ⟨executes _ (by decide), by decide⟩

/-! Witnesses: the machine, the supply, resets, starts and frames. -/

theorem roomy (s : State) (a : alive s = true) (b : s.flt.arrived = []) (c : s.flt.queue.length ≤ 48) : Roomy s := ⟨⟨a, b⟩, c⟩

theorem run_roomy : Roomy run := roomy run (by decide) (by decide) (by decide)

theorem solo_roomy : Roomy solo := roomy solo (by decide) (by decide) (by decide)

theorem witness_StepRunsFront : ({ run with pending := [.pfail, .linkDown] } : State).pending = .pfail :: [.linkDown] := rfl

theorem witness_EmptyQueueTicks : (State.reset.pending = [] ∧ Settled State.reset ∧ alive State.reset = false) ∧
    (run.pending = [] ∧ Settled run ∧ alive run = true) := ⟨⟨rfl, rfl, by decide⟩, rfl, rfl, by decide⟩

theorem witness_CommandsGoOn : Settled run := rfl

def noPower : State := { run with pads := { run.pads with pfailB := false } }

def unsealed : State := { noPower with mm := { noPower.mm with dump := .unsealed } }

/-- VIN stands in an episode below, or above, its range. -/
def episode (low : Bool) : State := { run with pads := { run.pads with vinLow := low, vinHigh := !low } }

theorem witness_SupplyEvents_again : Roomy (episode true) ∧ Roomy (episode false) ∧ (episode true).pads.vinLow = true ∧
    (episode false).pads.vinHigh = true ∧ run.pads.vinLow = false ∧ run.pads.vinHigh = false :=
  ⟨roomy _ (by decide) (by decide) (by decide), roomy _ (by decide) (by decide) (by decide), by decide⟩

theorem witness_SupplyEvents : Roomy run ∧ Roomy noPower ∧ Roomy unsealed ∧ run.pads.pfailB = true ∧ noPower.pads.pfailB = false ∧
    unsealed.pads.pfailB = false ∧ unsealed.mm.dump = .unsealed ∧ (3300 ≤ 3300 ∧ 3599 < 3600) ∧ 7500 < 7501 ∧ (950 : Int) < 951 ∧
    flag run Reg.FLT_STAT 1 = false ∧ (1100 : Int) ≤ 1100 ∧ (1100 : Int) < 1101 :=
  ⟨run_roomy, roomy _ (by decide) (by decide) (by decide), roomy _ (by decide) (by decide) (by decide), by decide⟩

theorem witness_ResetCommands : (State.reset.boot.por = true ∧ State.reset.flt.arrived = [] ∧ State.reset.flt.queue.length ≤ 48) ∧
    (199 < 200 ∧ 999 < 1000) ∧ (Runs run ∧ run.flt.clkLoss = false ∧ run.boot.por = false ∧ run.flt.arrived = []) ∧
    ((0x48520001 : BitVec 32).toNat / 2 ^ 16 = 0x4852 ∧ (0x48520001 : BitVec 32).getLsbD 0 = true) ∧
    (Runs solo ∧ solo.frm.ticking = true ∧ solo.flt.cdr = none ∧ flag solo Reg.FLT_STAT 1 = false ∧ instep solo = false) :=
  ⟨by decide, by decide, ⟨run_roomy.1, by decide⟩, by decide, ⟨solo_roomy.1, by decide⟩⟩

/-- An F3 state that a DRST ends (R379). -/
def inF3 : State := putNat (putFlag run Reg.FLT_STAT 1 true) Reg.FLT_CUR3 0x40010003

theorem witness_ResetCommands_f3 : Runs inF3 ∧ inF3.flt.clkLoss = false ∧ flag inF3 Reg.FLT_STAT 1 = true ∧
    fld inF3 Reg.FLT_CUR3 31 16 = 0x4001 ∧ 0x4001 ≠ codeQueueFull :=
  ⟨by constructor <;> decide, by decide⟩

/-- A start that waits. -/
def starting (d : Dump) : State :=
  putFld { run with boot := { run.boot with running := true, waitMem := true, waitRestore := true }, mm := { run.mm with dump := d } }
    Reg.BOOT_STAT 3 0 2

/-- A start whose image is loaded and whose mode is decided. -/
def decided (pairing : Nat) : State :=
  putFld { starting .absent with boot := { (starting .absent).boot with imageOk := true, waitMem := false, waitRestore := false, modeDecided := true } }
    Reg.HASP_CFG 1 0 pairing

theorem witness_StartSteps :
    (Roomy (starting .sealed) ∧ (starting .sealed).boot.running = true ∧ (starting .sealed).flt.held = none ∧
      (starting .sealed).boot.imageOk = false ∧ bootState (starting .sealed) = 2 ∧ slotFault { starting .sealed with boot := { (starting .sealed).boot with answers := false } } 0 = some (1, 0) ∧
      (starting .sealed).boot.waitRestore = true ∧ smWf memDefault (starting .sealed).mm.flash = true ∧
      (starting .sealed).mm.dump = .sealed ∧ flag (starting .sealed) Reg.BOOT_STAT 8 = false) ∧
    (Roomy (starting .unsealed) ∧ (starting .unsealed).mm.dump ≠ .sealed ∧ flag (starting .unsealed) Reg.FLT_STAT 1 = false) ∧
    (∀ k ∈ [0, 1], (decided k).boot.modeDecided = true ∧ startMode (decided k) = 0 ∧ (decided k).pads.boltIn = false ∧
      fld (decided k) Reg.HASP_CFG 1 0 = k) :=
  ⟨⟨roomy _ (by decide) (by decide) (by decide), by decide⟩, ⟨roomy _ (by decide) (by decide) (by decide), by decide⟩, by decide⟩

theorem undisturbed (s : State) (a : alive s = true) (b : s.flt.arrived = []) (c : s.flt.queue.length ≤ 48)
    (h : haspState s = 0 ∧ s.frm.ticking = true ∧ s.frm.first = false ∧ s.pads.pfailB = true ∧ s.txn.order = [] ∧
      s.olc.waiting = none ∧ s.olc.installing = none ∧ s.olc.refusing = none ∧ s.frm.switchTo = none ∧ s.time.stepBy = none ∧
      s.time.stepCmd = false ∧ s.time.rate = mapRate s 0 ∧ s.leaf.dbgHalt = false ∧ s.leaf.resuming = false ∧
      s.hasp.commitsDue = [] ∧ flag s Reg.FLT_STAT 1 = false) : Undisturbed s :=
  ⟨roomy s a b c, h.1, h.2.1, h.2.2.1, h.2.2.2.1, h.2.2.2.2.1, ⟨h.2.2.2.2.2.1, h.2.2.2.2.2.2.1, h.2.2.2.2.2.2.2.1⟩,
   h.2.2.2.2.2.2.2.2.1, ⟨h.2.2.2.2.2.2.2.2.2.1, h.2.2.2.2.2.2.2.2.2.2.1⟩, h.2.2.2.2.2.2.2.2.2.2.2.1,
   ⟨h.2.2.2.2.2.2.2.2.2.2.2.2.1, h.2.2.2.2.2.2.2.2.2.2.2.2.2.1⟩, h.2.2.2.2.2.2.2.2.2.2.2.2.2.2.1, h.2.2.2.2.2.2.2.2.2.2.2.2.2.2.2⟩

theorem solo_undisturbed : Undisturbed solo := undisturbed solo (by decide) (by decide) (by decide) (by decide)

theorem bare (s : State) (h : s.frm.iomap = [] ∧ s.lanes = [] ∧ s.dio = [] ∧ s.ao = [] ∧ s.frm.nextOut = none ∧
    ∀ n, n < 12 → onBus s n = false) : Bare s := h

/-- A request for RUN that waits, in STOP, and a request for STOP, in RUN. -/
def asks (m v : Nat) : State := { inMode m solo with frm := { (inMode m solo).frm with reqDue := some v } }

theorem witness_TickBeginsFrame :
    (Undisturbed solo ∧ NoAction solo ∧ Bare solo ∧ 0 = curMode solo ∧ solo.frm.reqDue = none) ∧
    (∀ p ∈ [(0, 1), (1, 0), (1, 2)], p.2 ≠ curMode (asks p.1 p.2) ∧ (asks p.1 p.2).frm.reqDue = some p.2 ∧
      getReg (asks p.1 p.2) Reg.FRM_TIMSTAT = 0 ∧ p.2 ≤ 2) ∧
    pair solo Reg.FRM_FBASEN_LO + (now (advanceToTime (tickAt solo (fnum solo + 1)) solo) - pair solo Reg.FRM_FBASET_LO) / frameNs solo ≤
      fnum solo + 1 :=
  ⟨⟨solo_undisturbed, ⟨by decide, by decide, by decide⟩, bare _ (by decide), by decide⟩, by decide, by decide⟩

/-- Between a tick and its IC, and between IC and CC. -/
def inPhase (p m : Nat) : State := { inMode m solo with frm := { (inMode m solo).frm with phase := p } }

theorem witness_InputClosed : ∀ m ∈ [0, 1, 2], Undisturbed (inPhase 0 m) ∧ NoAction (inPhase 0 m) ∧ (inPhase 0 m).frm.phase = 0 ∧
    (inPhase 0 m).frm.insts = [] ∧ (inPhase 0 m).frm.later = [] ∧ (inPhase 0 m).frm.latchDue = false := by
  intro m h
  simp only [List.mem_cons, List.not_mem_nil, or_false] at h
  rcases h with rfl | rfl | rfl <;>
    exact ⟨undisturbed _ (by decide) (by decide) (by decide) (by decide), ⟨by decide, by decide, by decide⟩, by decide⟩

/-- An ended instance with a buffer, due at the CC. -/
def due : State := { inPhase 1 1 with frm := { (inPhase 1 1).frm with
  insts := [(0, { inst {} with st := .ended, deadline := 4, qw := [(pkey 1 3, 1)] })] } }

theorem witness_CommitClosed : (Undisturbed due ∧ NoAction due ∧ due.hasp.takeoverFrame = none ∧ due.frm.phase = 1 ∧ due.frm.pend = [] ∧ due.frm.trapStop = false ∧
      (∀ p ∈ due.frm.insts, p.2.emits = [] ∧ (p.2.deadline ≤ fnum due → p.2.st = .ended)) ∧ curMode due = modeRun) ∧
    (Undisturbed (inPhase 1 0) ∧ curMode (inPhase 1 0) = modeStop) :=
  ⟨⟨undisturbed _ (by decide) (by decide) (by decide) (by decide), ⟨by decide, by decide, by decide⟩, rfl, by decide⟩,
   undisturbed _ (by decide) (by decide) (by decide) (by decide), by decide⟩

def commit : Commit := { frame := 4, img := [(pkey 1 3, 1)], reqs := [], fail := false, run := true, forced := [] }

def committed : State := { solo with frm := { solo.frm with phase := 2, pendingCommit := some commit } }

theorem witness_CheckpointDone : Undisturbed committed ∧ NoAction committed ∧ Bare committed ∧
    committed.frm.pendingCommit = some commit ∧ commit.reqs = [] :=
  ⟨undisturbed _ (by decide) (by decide) (by decide) (by decide), ⟨by decide, by decide, by decide⟩, bare _ (by decide), by decide⟩

/-- Channel 191 is an output whose point QX 3 the map names. -/
def mapped : State := { solo with frm := { solo.frm with released := some commit, iomap := [{ key := pkey 1 3, w1 := 0xBF0001, w2 := 0, w3 := 0, w4 := 0, w5 := 0 }] } }

/-- An edge waits at a digital channel and at a loop output. -/
def outputs : State :=
  putFld { mapped with dio := [(191, { edge := some { at2 := 12000001, v := 1 } })], ao := [(47, { edge := some { at2 := 12000001, v := 70000 } })] }
    (dioCfg 191) 2 0 3

theorem witness_OutputsApplied : Undisturbed outputs ∧ outputs.frm.released = some commit ∧
    (commandEntries outputs kindDio clsQX).length = 1 ∧ (∀ e ∈ commandEntries outputs kindDio clsQX, e.chan = 191) ∧
    commandEntries outputs kindAo clsQW = [] ∧ isDo outputs 191 = true ∧ dioTedge outputs 191 = 0 ∧ (dioCh outputs 0).edge = none ∧
    (dioCh outputs 191).edge.isSome = true ∧ (aoCh outputs 47).edge.isSome = true :=
  ⟨undisturbed _ (by decide) (by decide) (by decide) (by decide), by decide⟩

/-- Less than 5 µs before the next tick. -/
def lateIn : State := { solo with raw := 1998001 }

theorem witness_ModeRequests : (Runs solo ∧ solo.flt.cdr = none ∧ bits (0x30 : BitVec 32).toNat 5 4 = 3 ∧
      bits (0 : BitVec 32).toNat 5 4 = curMode solo ∧ bits (0x10 : BitVec 32).toNat 5 4 = modeRun ∧ getReg solo Reg.FRM_TIMSTAT = 0 ∧
      tickAt solo (fnum solo + 1) ≤ now solo + 5000) ∧
    (getReg (putNat solo Reg.FRM_TIMSTAT 1) Reg.FRM_TIMSTAT ≠ 0 ∧ Runs lateIn ∧
      now { solo with raw := 1997999 } + 5000 < tickAt solo (fnum solo + 1) ∧ tickAt lateIn (fnum lateIn + 1) ≤ now lateIn + 5000) :=
  ⟨⟨solo_roomy.1, by decide⟩, by decide, ⟨by decide, by decide⟩, by decide⟩

/-- Slot 1 is OPEN and slot 2 PENDING. -/
def slots : State := putFld (putFld run (Reg.TXN_SLOT_STAT 1) 1 0 1) (Reg.TXN_SLOT_STAT 2) 1 0 2

theorem witness_TransactionCommands : Runs slots ∧ (∀ m ∈ [Master.m0, .m1, .m3], standbyBars m slots = false) ∧
    slotState slots 0 = 0 ∧ slotState slots 1 = 1 ∧ slotState slots 2 = 2 ∧ slotState slots 3 = 0 := ⟨⟨by decide, by decide⟩, by decide⟩

theorem witness_RegisterWrites :
    (Runs slots ∧ slots.leaf.stepReq = false ∧
      (∀ o ∈ [Reg.FRM_CFG, Reg.FRM_FNUM_LO, Reg.PNL_EXPCRC, 0xFC], targetOf (regBase + o) = .reg ∧ o % 4 = 0) ∧
      (regRow? Reg.FRM_CFG).any (fun p => p.1.rwt ≠ 0) = true ∧ slotState slots (Master.num .m0) ≠ 1 ∧ slotState slots (Master.num .m1) = 1 ∧
      stageOk .m1 Reg.FRM_CFG 160 slots = true ∧ (stagedOf slots 1).length < 4096 ∧ (∀ p ∈ stagedOf slots 1, p.1 ≠ Reg.FRM_CFG)) ∧
    ((regRow? Reg.FRM_SLACK).any (fun p => p.1.rw = 0 && p.1.wo = 0 && p.1.w1c = 0 && p.1.w1s = 0 && p.1.rwt = 0 && p.1.rwo = 0) = true ∧
      (regRow? Reg.PNL_EXPCRC).any (fun p => p.1.rw ≠ 0 && p.1.rwt = 0 && p.1.rwo = 0) = true ∧ rwPairLow Reg.PNL_EXPCRC = false ∧
      rwPairLow (Reg.PNL_EXPCRC - 4) = false ∧ (highWrite .m1 Reg.PNL_EXPCRC 5 slots).isNone = true) ∧
    (regRow? 0xFC).isNone = true := ⟨⟨⟨by decide, by decide⟩, by decide⟩, by decide, by decide⟩

/-- A module whose slot 1 stages FRM.CFG already, one in a start, and a standby. -/
def staged : State := { slots with txn := { slots.txn with staged := [(1, [(Reg.FRM_CFG, 96)])] } }

theorem witness_RegisterWrites_again :
    (Runs staged ∧ slotState staged (Master.num .m1) = 1 ∧ stageOk .m1 Reg.FRM_CFG 160 staged = true ∧
      (∃ p ∈ stagedOf staged 1, p.1 = Reg.FRM_CFG)) ∧
    (let s : State := { run with boot := { run.boot with running := true } }
     Runs s ∧ s.boot.running = true ∧ Reg.FRM_CFG ≠ Reg.OLC_CHG ∧ stageOk .m4 Reg.FRM_CFG 160 s = true) ∧
    (Runs (inPair 4 run) ∧ (inPair 4 run).leaf.stepReq = false ∧ 0x20000 ≤ Reg.TXN_SEQ_LO ∧ Reg.TXN_SEQ_LO < 0x20200 ∧
      standbyBars .m1 (inPair 4 run) = true ∧ regRow? Reg.TXN_SEQ_LO ≠ none ∧ standbyBars .m1 run = false) :=
  ⟨⟨⟨by decide, by decide⟩, by decide⟩, ⟨⟨by decide, by decide⟩, by decide⟩, ⟨by decide, by decide⟩, by decide⟩

theorem witness_TransactionCommands_staged : (1 = Master.num .m1) ∧ slotState slots 1 = 1 ∧ stagedOf slots 1 = [] := by decide

theorem witness_RegisterReads :
    (Runs run ∧ targetOf (regBase + Reg.FRM_FBASET_LO) = .reg ∧ readable Reg.FRM_FBASET_LO = true ∧
      latchedBy Reg.FRM_FBASET_LO = [Reg.FRM_FBASET_LO + 4] ∧ alGet run.latch (masterKey .m1 Reg.FRM_FBASET_LO) = none) ∧
    refreshRead Reg.FRM_FBASET_LO run = run ∧ regView .m1 Reg.FRM_FBASET_LO run = (getReg run Reg.FRM_FBASET_LO, run) ∧
    regView .m1 (Reg.FRM_FBASET_LO + 4) run = (getReg run (Reg.FRM_FBASET_LO + 4), run) ∧
    (run.leaf.stepReq = false ∧ flag run Reg.HOST_STAT 0 = false ∧ flag (putFlag run Reg.HOST_STAT 0 true) Reg.HOST_STAT 0 = true ∧
      windowAddr run { write := false, bar2 := false, off := 2 ^ 26, len := 4, data := [] } = none) ∧
    (∃ w v, regRead .m1 Reg.FRM_CFG (putFlag run Reg.HOST_STAT 0 true) = (some w, v) ∧ v.flt.arrived = []) :=
  ⟨⟨run_roomy.1, by decide⟩, rfl, rfl, rfl, by decide, _, _, rfl, by decide⟩

/-- A slot's image: a section of one setting, one of two words of code, a task table with one task, and an empty I/O map; its
SHA-256 and its CRCs are written out. -/
def image : List Byte :=
  let entry (k o n c : Nat) : List Byte := leBytes 4 k ++ leBytes 4 o ++ leBytes 4 n ++ leBytes 4 c
  leBytes 4 0x49474D44 ++ leBytes 4 1 ++ leBytes 4 3 ++ leBytes 4 1 ++ leBytes 8 5 ++ leBytes 4 0x1D0 ++ leBytes 4 4 ++
    leBytes 32 42774240423144757536061305413222483977639870206304829756732726257528711994471 ++
    entry 1 0x100 8 1894599168 ++ entry 2 0x108 8 1426238929 ++ entry 3 0x110 192 3601283150 ++ entry 4 0x1D0 0 0 ++
    List.replicate 124 0 ++ leBytes 4 797812665 ++
    leBytes 4 0x30004 ++ leBytes 4 0x10 ++ [0, 0, 0, 1, 0, 0, 0, 2] ++ leBytes 4 0 ++ (List.replicate 47 (leBytes 4 0x80FFFFFF)).flatten

/-- A start whose flash holds that image in slot A. -/
def bootable : State := { starting .absent with boot := { (starting .absent).boot with
  flash := ((List.range 0x1D0).zip image).filter fun p => p.2 ≠ 0xFF } }

set_option maxRecDepth 1000000 in
theorem witness_StartSteps_image : slotFault bootable bootable.boot.slot = none := by decide +kernel

theorem witness_StartSteps_loaded : Roomy bootable ∧ bootable.boot.running = true ∧ bootable.flt.held = none ∧
    bootable.boot.imageOk = false ∧ bootable.boot.waitMem = true ∧ bootState bootable = 2 :=
  ⟨roomy _ (by decide) (by decide) (by decide), by decide⟩

/-! Witnesses: run-ahead, the leaves, the CDR, debug and the host port. -/

/-- Task 0 is suspended in the output phase, with run-ahead enabled for it. -/
def ahead : State := putFlag { inPhase 2 1 with frm := { (inPhase 2 1).frm with insts := [(0, { inst {} with st := .suspended })] } } Reg.SPEC_TASKEN 0 true

theorem witness_RunAheadUnseen : (Roomy solo ∧ mayRunAhead solo = false) ∧ (Roomy ahead ∧ mayRunAhead ahead = true ∧
    (aheadInsts ahead (aheadFrame ahead)).isEmpty = false) :=
  ⟨⟨solo_roomy, by decide⟩, roomy _ (by decide) (by decide) (by decide), by decide⟩

theorem witness_VoteDecides : Roomy solo ∧ solo.leaf.actHalt = false ∧ inVote solo = [0, 1, 2] ∧ solo.leaf.lastFail = [] ∧
    some 1 ≠ none ∧ some 1 ≠ some 2 ∧ flag solo Reg.FLT_STAT 1 = false ∧ widerReset solo = false ∧
    widerReset { solo with flt := { solo.flt with cdr := some false } } = true := ⟨solo_roomy, by decide⟩

theorem witness_LeafCourse : Roomy solo ∧ (∀ v ∈ [1, 3, 5], leafSt (putLeafSt 2 v solo) (leafNum .c) = v) ∧ inVote solo = [0, 1, 2] ∧
    leafSt solo (leafNum .a) ≠ 5 ∧ alGet solo.latch (masterKey .m1 Reg.LEAF_TRAPLOG) = none ∧ widerReset solo = false ∧
    solo.leaf.actHalt = false ∧ solo.spec.frame ≠ some (nextCc solo + 1) ∧ widerReset run = true := ⟨solo_roomy, by decide⟩

/-- A CDR that has been requested, and one whose restore is done. -/
def cdrAsked (s : State) : State := { s with flt := { s.flt with cdr := some false, since := s.raw } }
def cdrDone (s : State) : State := { s with flt := { s.flt with cdr := some false, restored := true }, frm := { s.frm with resumeMode := 2 } }

/-- A complete checkpoint of frame 3 in bank 0. -/
def banked : State :=
  putBytes solo (bankAt (ckBase solo) 0) (leBytes 8 3 ++ leBytes 4 (ckCrc solo).toNat ++ leBytes 4 ckComplete ++ ckHead solo)

theorem witness_CdrCourse : (Roomy solo ∧ solo.flt.cdr = none ∧ solo.flt.restored = false) ∧
    (Roomy (cdrAsked solo) ∧ (cdrAsked solo).flt.cdr.isSome = true ∧ (cdrAsked solo).flt.restored = false ∧
      (cdrAsked solo).mm.undo = [] ∧ (cdrAsked solo).olc.installing = none ∧ (cdrAsked solo).spec.frame = none ∧
      latestBank (cdrAsked solo) (restoreBase (cdrAsked solo)) = none) ∧
    (Undisturbed (cdrDone solo) ∧ Bare (cdrDone solo) ∧ (cdrDone solo).flt.restored = true ∧ (cdrDone solo).frm.reqDue = none ∧
      (cdrDone solo).flt.retake = false ∧ (cdrDone solo).frm.resumeMode ≤ 2) :=
  ⟨⟨solo_roomy, by decide⟩, ⟨roomy _ (by decide) (by decide) (by decide), by decide⟩,
   undisturbed _ (by decide) (by decide) (by decide) (by decide), bare _ (by decide), by decide⟩

set_option maxRecDepth 1000000 in
theorem witness_CdrCourse_bank : latestBank (cdrAsked banked) (restoreBase (cdrAsked banked)) = some 0 ∧
    bankGood (cdrAsked banked) (bankAt (restoreBase (cdrAsked banked)) 0) = true := by decide +kernel

theorem witness_DebugPort : (alive State.reset = false ∧ State.reset.flt.arrived = []) ∧
    (Roomy solo ∧ flag solo Reg.FLT_STAT 1 = false ∧ scanCode solo.tap.ir = false ∧ solo.leaf.stepReq = false ∧ solo.tap.ir ≠ 8) ∧
    (({ solo with tap := { solo.tap with ir := 8 } } : State).tap.ir = 8 ∧ (0x1FFFFFFFC : BitVec 40).toNat < 2 ^ 33 ∧
      (0x1FFFFFFFC : BitVec 40).toNat % 4 = 0 ∧ eccAt solo 0x1FFFFFFFC = .good ∧ standbyBars .m3 solo = false ∧
      targetOf (0xFFFFFFFFFC : BitVec 40).toNat = .unmapped) := ⟨by decide, ⟨solo_roomy, by decide⟩, by decide⟩

/-- HOLD has taken effect on a debug halt, and an instance was running at it, before the word of NOP. -/
def halted : State := putBytes { inMode 2 solo with
  frm := { (inMode 2 solo).frm with insts := [(0, { inst {} with st := .halted })] },
  leaf := { (inMode 2 solo).leaf with dbgHalt := true, haltedInst := some 0 } } (pair solo Reg.LEAF_CODEBASE_LO) (leBytes 4 0x01000000)

theorem witness_DebugCommands : (Roomy (inPair 3 solo) ∧ haspState (inPair 3 solo) = 3 ∧ haspState (inPair 4 solo) = 4) ∧
    (Roomy solo ∧ solo.leaf.stepReq = false ∧ haspState solo ≠ 3 ∧ haspState solo ≠ 4 ∧ solo.leaf.dbgHalt = false ∧
      solo.flt.cdr = none ∧ curMode solo ≠ modeHold) ∧
    (Roomy halted ∧ halted.leaf.dbgHalt = true ∧ curMode halted = modeHold ∧ halted.leaf.haltedInst = some 0 ∧
      getInst halted 0 = some { inst {} with st := .halted } ∧ ({ inst {} with st := .halted } : Inst).ctx.pc < 2 ^ 24) ∧
    codeAct (envOf halted { inst {} with st := .halted }) {} = .done { pc := 1 } ∧
    (∀ j ∈ fetchIdx (codeWord halted) {}, eccAt halted (codeBase halted + 4 * j) = .good) ∧
    (halted.leaf.haltedInst ≠ none ∧ curMode solo ≠ modeHold) :=
  ⟨⟨roomy _ (by decide) (by decide) (by decide), by decide⟩, ⟨solo_roomy, by decide⟩,
   ⟨roomy _ (by decide) (by decide) (by decide), by decide⟩, rfl, fun _ _ => rfl, by decide⟩

/-- BOOT is done, and the flash is busy with a command on the sector, or the page, at 0x10000. -/
def flashing (op : Nat) : State := putFld { run with boot := { run.boot with cmd := some (op, 0x10000) } } Reg.BOOT_STAT 3 0 5

theorem witness_FlashCommands : Roomy run ∧ bootState run ≠ 4 ∧ bootState run ≠ 5 ∧ Roomy (flashing 1) ∧ bootState (flashing 1) = 5 ∧
    flag (flashing 1) Reg.BOOT_PGSTAT 0 = false ∧ fld (flashing 1) Reg.BOOT_PGADDR 28 0 % 2 ^ ((flashing 1).boot.sector + 10) = 0 ∧
    2 ^ ((flashing 1).boot.sector + 10) ≤ (flashing 1).boot.density * 2 ^ 20 ∧ (flashing 1).boot.answers = true ∧
    (flashing 1).boot.cmd = some (1, 0x10000) ∧ (flashing 2).boot.cmd = some (2, 0x10000) :=
  ⟨run_roomy, by decide, by decide, roomy _ (by decide) (by decide) (by decide), by decide⟩

/-- In HOLD, event task 15 is enabled, and doorbell 15 triggers it. -/
def bell : State := putFlag (putNat { inMode 2 solo with frm := { (inMode 2 solo).frm with tasks := [(47, 0)] } } (Reg.FRM_EVTSRC 15) 0x500F)
  (taskCfg 47) 31 true

theorem witness_HostPortCommands : (Runs bell ∧ haspState bell = 0 ∧ bell.frm.ticking = true ∧ bell.leaf.actHalt = false ∧
      curMode bell = modeHold ∧ taskEn bell (32 + 15) = true ∧ fld bell (Reg.FRM_EVTSRC 15) 15 12 = 5 ∧
      fld bell (Reg.FRM_EVTSRC 15) 11 0 = 15 ∧ (0x8000 : BitVec 32).getLsbD 15 = true) ∧
    (Runs run ∧ run.frm.ticking = false ∧ (regRow? Reg.HOST_WINB_HI).isSome = true ∧ winbOk 0 = true ∧ winbOk 5 = false ∧
      flag run Reg.HOST_STAT 0 = false ∧ flag (putFlag run Reg.HOST_STAT 0 true) Reg.HOST_STAT 0 = true) :=
  ⟨⟨⟨by decide, by decide⟩, by decide⟩, run_roomy.1, by decide⟩

/-! Witnesses: the field, the calendar, the ward and the fault unit. -/

/-- Channel 191 in mode DO with readback, its input at 1, with what the events change. -/
def channel (stat : Nat) (c : DioCh) : State :=
  putFlag (putNat (putNat (putNat (putNat (putDio solo 191 c) (dioCfg 191) 0x44) (dioStat 191) stat) (dioDiag 191) 0x30001)
    (Reg.DIO_CH_CHATWIN 11 15) 1) Reg.HASP_STAT 10 true

theorem witness_DigitalChannelEvents :
    (Roomy (channel 2 { level := true }) ∧ 191 < 192 ∧ 11 < 12 ∧ (dioCh (channel 2 { level := true }) 191).level = true ∧ (∀ e, e < 16 → taskEn (channel 2 {}) (32 + e) = false) ∧
      filtSteps (channel 2 {}) 191 ≠ none ∧ 0 < fld (channel 2 {}) (dioDiag 191) 15 0 ∧ flag (channel 2 {}) (dioStat 191) 1 = true ∧
      flag (channel 2 {}) (dioStat 191) 11 = false) ∧
    (let s := channel 0 { limiting := true, filtAt := 2 ^ 40, chatAt := 4000000 }
     let w := now s / chatWin s 191 * chatWin s 191
     (dioCh s 191).chatAt < w ∧ w ≤ (dioCh s 191).chatAt + chatWin s 191 ∧ rawAt s ((dioCh s 191).chatAt + chatWin s 191) ≤ s.raw ∧
      enabled s = true ∧ flag s (dioCfg 191) 6 = true ∧ flag s (dioStat 191) 1 = false ∧ (dioCh s 191).limiting = true ∧
      flag s (dioStat 191) 8 = false ∧ now s ≤ (dioCh s 191).filtAt ∧ dioMode s 191 = 4 ∧ flag s (bankStat 11) 15 = false ∧
      flag s (dioStat 191) 7 = false ∧ flag s (dioStat 191) 1 = flag s (dioStat 191) 2 ∧ flag s (bankStat 11) 14 = false ∧
      alGet s.latch (masterKey .m1 (dioEdgeCnt 191)) = none) ∧
    (flag (channel 4 {}) (dioStat 191) 2 = true ∧ flag (channel 4 {}) (dioStat 191) 1 ≠ flag (channel 4 {}) (dioStat 191) 2 ∧
      flag (channel 4 {}) (dioStat 191) 10 = false ∧ flag (channel 0x100 {}) (dioStat 191) 8 = true) ∧
    (600 < 601 ∧ 599 < 600 ∧ 1699 < 1700 ∧ 1800 < 1801) :=
  ⟨⟨roomy _ (by decide) (by decide) (by decide), by decide⟩, by decide, by decide, by decide⟩

/-- The switch of channel 191 has changed, and has settled since or not; the window of its chatter began whole or not. -/
theorem witness_DigitalChannelEvents_switch : switchSettled (channel 0 {}) 191 = true ∧
    switchSettled (channel 0 { swAt := some 1000 }) 191 = true ∧ switchSettled (channel 0 { swAt := some 2000000 }) 191 = false ∧
    (dioCh (channel 0 { part := true }) 191).part = true := by decide

/-- Output 47 in a mode, its status and its target current. -/
def output (mode stat cur : Nat) : State := putFlag (putNat (putNat (putFld solo (Reg.AO_CH_CFG 47) 1 0 mode) (aoStat 47) stat) (Reg.AO_CH_CUR 47) cur)
  Reg.HASP_STAT 10 true

theorem witness_LoopOutputEvents : (Roomy (output 1 0 43691) ∧ 47 < 48 ∧ 5 < 6 ∧ enabled (output 1 0 43691) = true ∧
      (∀ i ∈ [4, 5, 6, 9], flag (output 1 0 43691) (aoStat 47) i = false) ∧ aoMode (output 1 0 0) 47 = 1 ∧ aoMode (output 2 0 0) 47 = 2) ∧
    flag (output 1 0x10 0) (aoStat 47) 4 = true ∧ flag (output 1 0 0) (Reg.AO_GRP_STAT 5) 0 = false ∧
    flag (putFlag solo (Reg.AO_GRP_STAT 5) 0 true) (Reg.AO_GRP_STAT 5) 0 = true ∧
    alGet solo.latch (masterKey .m1 (Reg.AO_CH_RB 47)) = none ∧
    (aoCh { solo with ao := [(47, { convAt := some (solo.raw / 4000) })] } 47).convAt = some (solo.raw / 4000) ∧
    (aoCh (output 1 0 0) 47).curAt = none ∧
    (∀ t, (aoCh { solo with ao := [(47, { curAt := some (solo.raw - 80000) })] } 47).curAt = some t → t + 80000 ≤ solo.raw) :=
  ⟨⟨roomy _ (by decide) (by decide) (by decide), by decide⟩, by decide⟩

/-- The calendar with CTL, the alarm on a second, and a held time. -/
def calendar (ctl sec : Nat) (raw : Option (Word × Word)) : State :=
  putNat (putNat (putNat { solo with rtc := { solo.rtc with sec := sec, raw := raw } } Reg.RTC_CTL ctl) Reg.RTC_ALM_LO 8) Reg.RTC_ALM_HI 0x80000000

theorem witness_CalendarEvents :
    (Roomy (calendar 0 7 none) ∧ (∀ e, e < 16 → taskEn (calendar 0 7 none) (32 + e) = false) ∧ flag (calendar 0 7 none) Reg.RTC_CTL 0 = false ∧
      flag (calendar 0 7 none) Reg.RTC_ALM_HI 31 = true ∧
      regNat (calendar 0 7 none) Reg.RTC_ALM_LO + fld (calendar 0 7 none) Reg.RTC_ALM_HI 15 0 * 2 ^ 32 = 7 + 1 ∧
      (calendar 0 12622780799 none).rtc.sec = 12622780799) ∧
    (flag solo Reg.RTC_ALM_HI 31 = false ∧ (1 : BitVec 32).getLsbD 1 = flag solo Reg.RTC_CTL 1 ∧ (1 : BitVec 32).getLsbD 0 = true ∧
      solo.rtc.sub < 32768 ∧ (2 : BitVec 32).getLsbD 1 ≠ flag solo Reg.RTC_CTL 1) ∧
    (flag (calendar 1 7 none) Reg.RTC_CTL 0 = true ∧ flag (calendar 1 7 none) Reg.RTC_CTL 1 = false ∧
      flag (calendar 3 7 (some (1, 2))) Reg.RTC_CTL 1 = true ∧ (calendar 3 7 (some (1, 2))).rtc.raw = some (1, 2) ∧
      (calendar 1 7 none).rtc.raw = none ∧ (7 : Nat) ≤ 12622780799 ∧ alGet solo.latch (masterKey .m1 Reg.RTC_SNAP) = none) ∧
    ((-32768 : Int) ≤ -32768 ∧ (32767 : Int) < 32768 ∧ 1999 < 2000 ∧ 2100 < 2101 ∧ 2000 ≤ 2000 ∧ 2100 ≤ 2100) :=
  ⟨⟨roomy _ (by decide) (by decide) (by decide), by decide⟩, by decide, by decide, by decide⟩

/-- A halt waits for the crystal, which has stopped. -/
def haltWaits (sub : Nat) : State := putNat { solo with rtc := { solo.rtc with stopped := true, haltDue := true, sub := sub } } Reg.RTC_CTL 0

theorem witness_CalendarEvents_halt : flag (haltWaits 32766) Reg.RTC_CTL 0 = false ∧ (haltWaits 32766).rtc.haltDue = true ∧
    (haltWaits 32766).rtc.sub + 1 < 32768 ∧ solo.rtc.haltDue = false ∧ solo.rtc.stopped = false ∧
    (haltWaits 0).rtc.stopped = true := by decide

/-- The ward in state `st`, with slots 0 and 1 enrolled, DONE, its position and the opening flag. -/
def ward (st done pos : Nat) (o : Bool) : State :=
  putPos pos (putNat { putFlag (putFld solo Reg.WARD_STAT 2 0 st) Reg.WARD_STAT 6 o with
    ward := { solo.ward with enrol := 3, wopen := 10, prewarn := 5, counting := true } } Reg.WARD_DONE done)

theorem witness_CheckinJudged : (∀ st ∈ [0, 3, 4, 1, 2], Roomy (ward st 0 0 false) ∧ wardState (ward st 0 0 false) = st) ∧
    ((0x100 : BitVec 32).toNat % 256 = regNat (ward 1 0 0 false) Reg.WARD_PCNT % 256 ∧
      (ward 1 0 0 false).ward.enrol.getLsbD (bits (0x100 : BitVec 32).toNat 12 8) = true ∧
      (ward 1 0 0 false).ward.enrol.getLsbD (bits (0x200 : BitVec 32).toNat 12 8) = false) := by
  refine ⟨fun st h => ?_, by decide⟩
  simp only [List.mem_cons, List.not_mem_nil, or_false] at h
  rcases h with rfl | rfl | rfl | rfl | rfl <;> exact ⟨roomy _ (by decide) (by decide) (by decide), by decide⟩

theorem witness_CheckinJudged_rows : (opening (ward 2 0 9 false) = false ∧ wardPos (ward 2 0 9 false) < (ward 2 0 9 false).ward.wopen) ∧
    wardPos (ward 1 0 1000000 false) = (ward 1 0 1000000 false).ward.period ∧ wardPos (ward 2 0 999999 true) < (ward 2 0 0 true).ward.period ∧
    flag (ward 1 1 0 false) Reg.WARD_DONE 0 = true ∧ flag (ward 1 2 0 false) Reg.WARD_DONE 0 = false ∧
    (getReg (putFlag (ward 1 2 0 false) Reg.WARD_DONE 0 true) Reg.WARD_DONE &&& 3 = 3) ∧
    ¬ (getReg (putFlag (ward 1 0 0 false) Reg.WARD_DONE 0 true) Reg.WARD_DONE &&& 3 = 3) ∧ opening (ward 2 0 0 true) = true ∧
    wardReason (ward 2 0 10 false) < 2 ∧ curMode (inMode 1 (ward 2 0 10 false)) = modeRun := by decide

theorem witness_WardCommands :
    (Roomy (ward 1 0 5 false) ∧ (ward 1 0 5 false).ward.counting = true ∧ (ward 1 0 5 false).ward.served = false ∧
      wardPos (ward 1 0 5 false) ≤ (ward 1 0 5 false).ward.period ∧ (ward 1 0 5 false).ward.period < 2 ^ 24 ∧
      (ward 1 0 5 false).frm.ticking = true ∧ flag (ward 1 0 5 false) Reg.FLT_STAT 0 = false ∧ flag (ward 1 0 5 false) Reg.FLT_STAT 1 = false ∧
      (ward 1 0 5 false).ward.warned = false ∧ (ward 1 0 5 false).ward.prewarn ≠ 0 ∧ (∀ e, e < 16 → taskEn (ward 1 0 5 false) (32 + e) = false) ∧ solo.ward.prewarn = 0) ∧
    ((0x3C : BitVec 32).toNat % 256 = 0x3C ∧ (0xC3 : BitVec 32).toNat % 256 = 0xC3 ∧
      ({ solo with ward := { solo.ward with key := some (2, .m1, solo.raw - 64) } } : State).ward.key = some (2, .m1, solo.raw - 64) ∧
      solo.raw ≤ solo.raw - 64 + 64 ∧ flag solo Reg.WARD_LOCK 0 = false ∧ flag (putFlag solo Reg.WARD_LOCK 0 true) Reg.WARD_LOCK 0 = true ∧
      solo.ward.key = none) ∧
    (wardState (ward 0 0 0 false) = 0 ∧ freezes (inMode 1 (ward 0 0 0 false)) = false ∧ wardState (ward 2 0 0 false) = 2 ∧
      wardReason (ward 2 0 0 false) ≠ 2 ∧ wardReason (putFld (ward 2 0 0 false) Reg.WARD_STAT 5 4 2) = 2) ∧
    (0 ≤ regNat solo Reg.WARD_WOPEN ∧ ¬ (1 ≤ regNat solo Reg.WARD_WOPEN ∨ 1 ≤ regNat solo Reg.WARD_PREWARN ∨
      (flag solo Reg.WARD_CFG 3 = true ∧ wardPos solo < solo.ward.wopen))) :=
  ⟨⟨roomy _ (by decide) (by decide) (by decide), by decide⟩, by decide, by decide, by decide⟩

/-- An entry stands in FLT's queue, and an F3 state is in force that may be released. -/
def queued : State := putNat (putFlag { solo with flt := { solo.flt with
  queue := [{ code := 0x4001, cls := 0, esc := false, master := 15, rep := 255, fnum := 7, time := 9 }] } } Reg.FLT_STAT 1 true) Reg.FLT_CUR3 2

theorem witness_FaultsTaken : (Roomy queued ∧ (0x4001 : BitVec 16) ∉ [(0x0120 : BitVec 16), 0x0403, 0x0713] ∧ matchSources 0x4001 queued = [] ∧
      queued.flt.queue.getLast? = some { code := 0x4001, cls := 0, esc := false, master := 15, rep := 255, fnum := 7, time := 9 } ∧
      flag queued Reg.FLT_STAT 1 = true ∧ flag queued Reg.FLT_CUR3 1 = true ∧ flag (putNat queued Reg.FLT_CUR3 0) Reg.FLT_CUR3 1 = false ∧
      queued.flt.held = none ∧ alGet queued.latch (masterKey .m1 Reg.FLT_HEAD_CODE) = none) ∧
    (Roomy solo ∧ solo.frm.ticking = true ∧ flag solo Reg.FLT_STAT 0 = false ∧ flag solo Reg.FLT_STAT 1 = false ∧
      (∀ n, solo.flt.queue.getLast? = some n → n.code ≠ 0x4001) ∧ flag (putFlag solo Reg.FLT_STAT 0 true) Reg.FLT_STAT 0 = true) :=
  ⟨⟨roomy _ (by decide) (by decide) (by decide), by decide⟩, solo_roomy, by decide, by decide, by decide, nofun, by decide⟩

/-- Run-ahead work for the next frame stands. -/
def working : State := { solo with spec := { solo.spec with frame := some 5, work := [{ tid := 0, suspended := false }] } }

theorem witness_FaultsTaken_ledger : Roomy working ∧ matchSources 0x0403 working = [] ∧ working.spec.frame = some 5 ∧
    working.spec.barred ≠ some 5 ∧ fnum working < 5 ∧ 0x0403 ∉ working.spec.raised ∧
    0x0403 ∈ ({ working with spec := { working.spec with raised := [0x0403] } } : State).spec.raised := ⟨roomy _ (by decide) (by decide) (by decide), by decide⟩

/-! Witnesses: time, lanes and the pair. -/

/-- Time events 0 and 15 are enabled, the source is PPS, and the pulse output is enabled. -/
def timed (raw : Nat) : State :=
  putNat (putNat (putNat (putNat { solo with raw := raw } (Reg.TIME_TEV_CFG 0) 0x80000000) (Reg.TIME_TEV_CFG 15) 0x80000000)
    Reg.TIME_PPS 0xC0000000) Reg.TIME_CFG 2

/-- TIME in a state of its discipline. -/
def disciplined (d : Nat) (cfg ticks : Nat) : State :=
  putNat (putFld { solo with time := { solo.time with ticksNoSample := ticks } } Reg.TIME_STAT 1 0 d) Reg.TIME_CFG cfg

theorem witness_TimeEvents :
    (Roomy (timed 400000000) ∧ (timed 400000000).frm.ticking = true ∧ curMode (timed 400000000) = modeStop ∧ curMode (inMode 1 solo) ≠ modeStop ∧
      now solo ≤ pair (putPair solo Reg.TIME_SETTIME_LO 5000000) Reg.TIME_SETTIME_LO ∧ pair solo Reg.TIME_SETTIME_LO < now solo ∧
      flag solo (Reg.TIME_TEV_CFG 15) 31 = false ∧ flag (timed 400000000) (Reg.TIME_TEV_CFG 15) 31 = true ∧
      (∀ e, e < 16 → taskEn (timed 400000000) (32 + e) = false) ∧ (∀ o ∈ [Reg.TIME_NOW_LO, Reg.TIME_MAP_RAW_LO 0, Reg.TIME_MAP_RAW_LO 1],
        alGet solo.latch (masterKey .m1 o) = none)) ∧
    (flag (timed 0) Reg.TIME_PPS 31 = true ∧ (timed 0).pads.timeOut = false ∧ flag solo Reg.TIME_PPS 30 = false ∧ flag (timed 0) Reg.TIME_PPS 30 = true ∧
      sourceNow (timed 0) = 2 ∧ sourceNow solo ≠ 2 ∧ (timed 0).time.ppsBadAt = none) ∧
    (now (timed 400000000) % 1000000000 = 0 ∧ now (timed 400200000) % 1000000000 = 500000 ∧ 500000 < now (timed 400200001) % 1000000000 ∧
      now (timed 799800000) % 1000000000 = 999500000 ∧ 999500000 < now (timed 799800001) % 1000000000) ∧
    (discState solo = 0 ∧ discState (disciplined 3 1 8) = 3 ∧ discState (disciplined 1 1 8) = 1 ∧ sourceNow (disciplined 2 1 8) = 1 ∧
      8 ≤ (disciplined 2 1 8).time.ticksNoSample) :=
  ⟨⟨roomy _ (by decide) (by decide) (by decide), by decide⟩, by decide, by decide, by decide⟩

/-- Lane 11 is on its bus and may send; it is a time master's lane, or a follower's, with echo node `a`. -/
def onLane (ref : Nat) (r : Nat) (l : LaneState) : State :=
  putNat (putNat (putNat (putFld (putNat (putNat (putFlag { solo with lanes := [(11, l)] } Reg.HASP_STAT 10 true) (Reg.LANE_CFG 11) 0x88000000)
    (Reg.LANE_STAT 11) 2) (Reg.TIME_LANE_STAT 11) 1 0 r) (Reg.TIME_LANE_REF 11) ref) (Reg.TIME_LANE_ECHO 11) 0x3FF) Reg.TIME_CFG 0xB1

theorem witness_TimeExchanges :
    (Roomy (onLane 0x80000100 2 {}) ∧ 11 < 12 ∧ flag solo (Reg.TIME_LANE_REF 11) 31 = false ∧ run.frm.ticking = false ∧
      flag (onLane 0x80000100 2 {}) (Reg.TIME_LANE_REF 11) 31 = true ∧ fld (onLane 0x80000100 2 {}) (Reg.TIME_LANE_REF 11) 29 28 = 0 ∧
      maySend (onLane 0x80000100 2 {}) 11 = true ∧ onBus (onLane 0x80000100 2 {}) 11 = true ∧ onBus solo 11 = false ∧ (onLane 0x80000100 2 {}).pads.pfailB = true ∧
      laneTec (onLane 0x80000100 2 {}) 11 < 256 ∧ noPower.pads.pfailB = false ∧ laneRec (onLane 0x80000100 2 {}) 11 ≤ 127) ∧
    (0x107 / 8 = fld (onLane 0x100 3 {}) (Reg.TIME_LANE_REF 11) 10 3 ∧ flag (onLane 0x100 3 {}) (Reg.TIME_LANE_REF 11) 31 = false ∧
      role (onLane 0x100 3 {}) 11 = 3 ∧ sourceNow (onLane 0x100 3 {}) = 1 ∧ srcLane (onLane 0x100 3 {}) = 11 ∧
      fld (putFld (onLane 0x100 3 {}) Reg.TIME_STAT 19 16 1) Reg.TIME_STAT 19 16 = 1 ∧
      (-2147483648 : Int) ≤ (0 : Nat) - (2147483648 : Nat) ∧ ((2147483647 : Nat) : Int) - (0 : Nat) ≤ 2147483647 ∧
      (lane (onLane 0x100 3 { refStamp := some 5 }) 11).refStamp = some 5 ∧ (lane (onLane 0x100 3 {}) 11).echoDelay = none) ∧
    (1023 = fld (onLane 0x100 2 {}) (Reg.TIME_LANE_ECHO 11) 9 0 ∧ role (onLane 0x100 2 {}) 11 = 2 ∧ sourceNow solo ≠ 1 ∧
      flag (onLane 0x100 2 {}) (Reg.LANE_CFG 11) 27 = true ∧
      ({ onLane 0x100 2 {} with time := { solo.time with lastSample := some 5 } } : State).time.lastSample.isSome = true ∧
      ¬ ((0 : BitVec 32).toInt < -stepThr (onLane 0x100 2 {}))) ∧
    ((lane solo 11).echoNow = none ∧ (lane (onLane 0 0 { echoNow := some (1023, 5) }) 11).echoNow = some (1023, 5) ∧
      alGet (lane (onLane 0 0 {}) 11).echoFailAt 1023 = none) :=
  ⟨⟨roomy _ (by decide) (by decide) (by decide), by decide⟩, by decide, by decide, by decide⟩

/-- Node 1023 of lane 11 declares the identifiers 0x100 to 0x200, filter 127 sends them to FIFO 0 of eight slots, and window 47 is open. -/
def traffic (l : LaneState) : State :=
  let s := putNat (putNat (putNat (onLane 0 0 l) (Reg.LANE_NODE_CFG 1023) 0x8B000000) (Reg.LANE_NODE_IDLO 1023) 0x100) (Reg.LANE_NODE_IDHI 1023) 0x200
  let s := putNat (putNat (putNat s (Reg.LANE_ACF_CFG 11 127) 0xC0000000) (Reg.LANE_ACF_A 11 127) 0x100) (Reg.LANE_ACF_B 11 127) 0x200
  let s := putNat (putNat s (Reg.LANE_RXQ_CFG 11 0) 0x83000000) (Reg.TIME_LANE_MX 11) 0x80000000
  putNat (putNat (putNat s (Reg.TIME_LANE_WIN_START 11 47) 20) (Reg.TIME_LANE_WIN_LEN 11 47) 3000) (Reg.TIME_LANE_WIN_CFG 11 47) 0x80000000

def received (id : Nat) (remote : Bool) : BusFrame := { fmt := 0, xtd := false, id := BitVec.ofNat 29 id, remote := remote, stamp := 1000000, data := [1, 2, 3, 4, 5, 6, 7, 8] }

theorem witness_LaneTraffic_reception :
    (Roomy (traffic {}) ∧ onBus (traffic {}) 11 = true ∧ (traffic {}).pads.pfailB = true ∧ haspState (traffic {}) = 0 ∧ laneRec (traffic {}) 11 = 0 ∧
      (received 0x100 false).fmt = 0 ∧ nodeOf (traffic {}) 11 false 0x100 = some 1023 ∧ nodeOf (traffic {}) 11 false 0xFF = none ∧
      (∀ e, e < 16 → taskEn (traffic {}) (32 + e) = false) ∧ filterDecide (traffic {}) 11 (received 0x200 false) = (some 127, 0) ∧
      filterDecide (traffic {}) 11 (received 0x201 false) = (none, 2) ∧ flag (traffic {}) (Reg.LANE_RXQ_CFG 11 0) 31 = true ∧
      (received 0x200 false).data.length ≤ rxqArea (traffic {}) 11 0 ∧ rxqFill { arr0 := 7 } 0 + 1 = rxqSize (traffic {}) 11 0 ∧
      (traffic {}).lanes.length = 1) ∧
    (laneTec (traffic {}) 11 < 128 ∧ laneStat (traffic {}) 11 = 2 ∧ flag (traffic {}) (Reg.LANE_ERRCNT 11) 30 = false) :=
  ⟨⟨roomy _ (by decide) (by decide) (by decide), by decide⟩, by decide⟩

/-- A queued request of lane 11 that the open window 47 carries. -/
def waiting : State := putQState 11 63 1 (putBytes (traffic {}) (qEntry (traffic {}) 11 63) (leBytes 4 1 ++ leBytes 4 11 ++ leBytes 8 3 ++ leBytes 8 4 ++
  List.replicate 8 0 ++ leBytes 4 (47 * 256) ++ leBytes 4 0x100))

theorem witness_LaneTraffic_windows :
    (winIsOpen (traffic {}) 11 47 = true ∧ (lane (traffic {}) 11).win ≠ some 47 ∧ fld (traffic {}) (Reg.TIME_LANE_ECHO 11) 15 10 ≠ 47 ∧
      maySend (traffic {}) 11 = true ∧ eligible (traffic {}) 11 47 (fnum (traffic {})) = []) ∧
    ((lane (traffic { win := some 47 }) 11).win = some 47 ∧ continues (traffic { win := some 47 }) 11 47 = false ∧ winIsOpen (traffic {}) 11 46 = false) ∧
    (∀ w ∈ [WireSrc.reference, .queue 11 63, .mapped false 5], (lane (traffic { wire := some w }) 11).wire = some w ∧
      (lane (traffic { wire := some w }) 11).leaving = false ∧ (lane (traffic { wire := some w }) 11).win = none ∧
      laneTec (traffic { wire := some w }) 11 ≤ 255) ∧
    (flag (traffic {}) (Reg.LANE_CFG 11) 30 = false ∧ flag (putFlag (traffic {}) (Reg.LANE_CFG 11) 30 true) (Reg.LANE_CFG 11) 30 = true ∧
      laneStat (traffic {}) 11 ≠ 6 ∧ laneStat (putFld (traffic {}) (Reg.LANE_STAT 11) 2 0 6) 11 = 6 ∧
      laneStat (putFld (traffic {}) (Reg.LANE_STAT 11) 2 0 4) 11 = 4 ∧ laneStat (putFld (traffic {}) (Reg.LANE_STAT 11) 2 0 5) 11 = 5) := by decide

theorem witness_LaneTraffic_service :
    (lane (traffic {}) 11).upAt ≤ tickAt (traffic {}) (fnum (traffic {})) + winStart (traffic {}) 11 47 ∧
    tickAt (traffic {}) (fnum (traffic {})) + winStart (traffic {}) 11 47 < (lane (traffic { upAt := 4000201 }) 11).upAt ∧
    (let down (s : State) : Bool := !inService s 11 || flag s (Reg.LANE_STAT 11) 9
     down (traffic {}) = false ∧ down (putFlag (traffic {}) (Reg.LANE_STAT 11) 9 true) = true ∧
      (lane (traffic { served := true }) 11).wasOut = true ∧ (lane (traffic { wasOut := false }) 11).wasOut = false) := by decide

theorem witness_LaneTraffic_eligible : (eligible waiting 11 47 (fnum waiting)).isEmpty = false ∧ maySend waiting 11 = true := by decide

/-- A module of a pair in a HASP state, with the bolt of its partner. -/
def paired (h : Nat) (bolt : Bool) (f : HaspState → HaspState) : State :=
  { inPair h solo with pads := { solo.pads with boltIn := bolt }, hasp := f (inPair h solo).hasp }

def keep (h : HaspState) : HaspState := h

theorem witness_PairRoles_arbitration :
    (∀ b ∈ [false, true], Roomy (paired 1 b keep) ∧ haspState (paired 1 b keep) = 1 ∧ (paired 1 b keep).hasp.retry = none ∧
      (paired 1 b keep).flt.held = none ∧ (paired 1 b keep).pads.boltIn = b ∧ startMode (paired 1 b keep) = 0 ∧
      (paired 1 b fun h => { h with retry := some 5 }).hasp.retry = some 5 ∧ (paired 1 b keep).txn.jregs = [] ∧
      (paired 1 b keep).olc.installing = none ∧ mayBolt (paired 1 b keep) = true) ∧
    (∀ h ∈ [1, 4], mayBolt (putFlag (paired h false keep) Reg.FLT_STAT 1 true) = false ∧ mayBolt (paired h false keep) = true) ∧
    (haspState (paired 0 false keep) = 0 ∧ (paired 0 false keep).pads.boltIn ≠ true ∧ (paired 0 false keep).pads.boltOut = false ∧
      ({ paired 0 false keep with pads := { boltOut := true } } : State).pads.boltOut = true) := by
  refine ⟨fun b h => ?_, by decide, by decide⟩
  simp only [List.mem_cons, List.not_mem_nil, or_false] at h
  rcases h with rfl | rfl <;> exact ⟨roomy _ (by decide) (by decide) (by decide), by decide⟩

theorem witness_PairRoles_heartbeats :
    (∀ h ∈ [2, 3, 4], haspState (paired h true keep) = h ∧ (paired h true keep).frm.ticking = true ∧ (paired h true keep).hasp.hbStopped = false ∧
      flag (paired h true keep) Reg.FLT_STAT 1 = false ∧ (paired h true keep).pads.pfailB = true) ∧
    (haspState (paired 2 false keep) = 2 ∧ fld (paired 2 false keep) Reg.HASP_STAT 27 25 ≠ 2 ∧ (paired 2 false keep).hasp.hbOther = none ∧
      (paired 2 false keep).hasp.digestBad = false ∧ (paired 2 false keep).hasp.overdue = [] ∧ fld (putFld (paired 2 false keep) Reg.HASP_XFERSTAT 2 0 3) Reg.HASP_XFERSTAT 2 0 = 3) ∧
    (flag (paired 2 false keep) Reg.HASP_STAT 11 = false ∧ flag (putFlag (paired 4 true keep) Reg.HASP_STAT 11 true) Reg.HASP_STAT 11 = true ∧
      (paired 4 true fun h => { h with lastHb := some (5, 2) }).hasp.lastHb = some (5, 2) ∧ haspState (paired 4 true keep) = 4 ∧
      (paired 4 true keep).pads.boltIn = true ∧ (paired 4 false keep).pads.boltIn = false) ∧
    (let s := paired 4 false fun h => { h with imgFrame := some 4, watch := some 5, yielded := some 5 }
     ({ s with frm := { s.frm with phase := 2 } } : State).frm.phase = 2 ∧ s.hasp.imgFrame = some (fnum s) ∧ s.hasp.rx = [] ∧
      s.hasp.watch = some 5 ∧ s.hasp.yielded = some 5 ∧ s.hasp.retry = none) := by decide

def stamped : AcceptRec := { frame := 4, lane := 11, stamp := 1000000, crc := 0 }

/-- A standby whose lane 11 has heard a message, with one ACCEPT record that waits. -/
def standby (p : Nat) (f : HaspState → HaspState) : State :=
  let s := inPair 4 (traffic {})
  { s with frm := { s.frm with phase := p, compute := p = 1 }, hasp := f s.hasp }

theorem witness_PairRecords_standby :
    (Roomy (standby 2 keep) ∧ haspState (standby 2 keep) = 4 ∧ (standby 2 keep).frm.phase ≠ 1 ∧ ownReception (standby 2 keep) stamped = none ∧
      (standby 2 keep).hasp.accQ = [] ∧ (let r : Reception := { lane := 11, at' := 5, node := some 1023, frame := received 0x100 false }
       ownReception (standby 2 fun h => { h with rx := [r] }) stamped = some r ∧ r.node = some 1023) ∧
      (∀ e, e < 16 → taskEn (standby 2 keep) (32 + e) = false) ∧ nodeOf (standby 2 keep) 11 false 0x100 = some 1023 ∧
      (standby 2 fun h => { h with accQ := [stamped] }).hasp.accQ = [stamped] ∧ stamped.stamp = (received 0 false).stamp ∧
      stamped.crc = (received 0 false).crc) ∧
    (let s := standby 1 fun h => { h with imgFrame := some 4, shadow := [{ frame := 4, cc := some { frame := 4, overruns := [], digest := 5 } }] }
     s.frm.phase = 1 ∧ s.frm.ticking = true ∧ s.pads.pfailB = true ∧ (shadowOf (standby 1 keep) (fnum (standby 1 keep))).cc = none ∧
      (shadowOf s (fnum s)).cc = some { frame := 4, overruns := [], digest := 5 } ∧ s.hasp.imgFrame = some (fnum s) ∧ s.hasp.posQ = [] ∧
      (s.flt.cdr = none ∧ s.flt.restored = false ∧ s.leaf.actHalt = false) ∧ s.frm.insts = [] ∧ s.frm.pend = [] ∧ s.frm.trapStop = false ∧
      flag s Reg.FLT_STAT 1 = false ∧ (standby 2 keep).frm.compute = false) :=
  ⟨⟨roomy _ (by decide) (by decide) (by decide), by decide⟩, by decide⟩

/-- A standby in RUN with event task 15, whose instance of task 0 has executed two instructions. -/
def follower : State :=
  let s := putFlag (putNat (inMode 1 (standby 1 keep)) (Reg.FRM_EVTSRC 15) 0x5002) (taskCfg 47) 31 true
  { s with frm := { s.frm with tasks := [(0, 0), (47, 0)], insts := [(0, { inst {} with count := 2 })], running := some 0 } }

theorem witness_PairRecords_tasks :
    (15 < 16 ∧ fld follower (Reg.FRM_EVTSRC 15) 15 12 = 5 ∧ fld follower (Reg.FRM_EVTSRC 15) 11 0 = 2 ∧ taskEn follower (32 + 15) = true ∧
      curMode follower = modeRun ∧ (alGet follower.frm.tasks (32 + 15)).isSome = true ∧ getInst follower (32 + 15) = none ∧
      follower.frm.pend.contains (32 + 15) = false ∧ alGet follower.frm.later (32 + 15) = none) ∧
    (follower.hasp.posQ = [] ∧ follower.frm.running = some 0 ∧ follower.frm.insts = [(0, { inst {} with count := 2 })] ∧
      ({ inst {} with count := 2 } : Inst).st = .running ∧ ({ inst {} with count := 2 } : Inst).count < 3 ∧
      2 ≤ ({ inst {} with count := 2 } : Inst).count ∧ 4 = fnum follower ∧ follower.frm.phase ≠ 2) ∧
    (let s := inPair 4 waiting
     63 < 64 ∧ qState s 11 63 ≠ 0 ∧ memNat s (qEntry s 11 63 + 0x10) 8 = 4 ∧
      (∀ j, j < 63 → qState s 11 j = 0 ∨ memNat s (qEntry s 11 j + 0x10) 8 ≠ 4)) := by decide

/-- A position of frame 4 that the instance of task 0 has not reached, and one of frame 5. -/
def positionAt (n c : Nat) : PosRec := { frame := n, tid := 0, count := c, kind := .preempt }

theorem witness_PairRecords_positions :
    (let s : State := { follower with hasp := { follower.hasp with posQ := [.pos (positionAt 4 3)] } }
     s.frm.running.isSome = true ∧ s.hasp.posQ = .pos (positionAt 4 3) :: [] ∧ (applyPos (.pos (positionAt 4 3)) s).isNone = true) ∧
    (fnum follower < (positionAt 5 0).frame) ∧
    (curMode (standby 2 keep) ≠ modeRun ∧ inWorking 0x1FFFFFFF8 = true ∧ inForce 0x1FFFFFFF8 = false ∧
      (0x1FFFFFFF8 % 8 + [(1 : Byte), 2, 3, 4, 5, 6, 7, 8].length ≤ 8)) ∧ StorableAll (standby 2 keep) 0x1FFFFFFF8 8 :=
  ⟨by decide, by decide, by decide, storableAll _ _ _ (by decide) (by decide) (by decide) (by decide) (by decide) (by decide) (by decide)⟩

theorem witness_PairRecords_leave : ∀ h ∈ [1, 3, 4, 5], haspState (paired h true keep) = h ∧
    flag (putFlag (paired h true keep) Reg.HASP_STAT 11 true) Reg.HASP_STAT 11 = true ∧ flag (paired h true keep) Reg.HASP_STAT 11 = false ∧
    (paired h true keep).pads.boltIn = true := by decide

theorem witness_PairRecords_join :
    (haspState (paired 3 false keep) = 3 ∧ inRetained ((2 ^ 21 - 1) * 4096) = true ∧ (paired 3 false keep).ecc = [] ∧
      5 ∉ (paired 3 false keep).hasp.copied ∧ 5 ∈ (paired 3 false fun h => { h with copied := [5] }).hasp.copied ∧ 2 ^ 33 - 2 + [(0 : Byte)].length < 2 ^ 33) ∧
    (let s := paired 2 false fun h => { h with undigested := [(4, 7)], rejoin := some 5 }
     haspState s = 2 ∧ alGet s.hasp.undigested 5 = none ∧ alGet s.hasp.undigested 4 = some 7 ∧ (7 : Word) ≠ 8 ∧
      s.hasp.rejoin = some 5 ∧ fld (putFld s Reg.HASP_XFERSTAT 2 0 1) Reg.HASP_XFERSTAT 2 0 = 1 ∧ fld (putFld s Reg.HASP_XFERSTAT 2 0 2) Reg.HASP_XFERSTAT 2 0 = 2) ∧
    haspState (paired 1 false keep) ≠ 3 ∧ haspState (paired 1 false keep) ≠ 4 ∧ haspState (paired 1 false keep) ≠ 2 := by decide

theorem witness_PairCommands : (∀ h ∈ [0, 1, 2, 3, 4, 5], haspState (paired h false keep) = h) ∧ Roomy (paired 5 false keep) ∧
    (let s := putFlag (putFlag (paired 5 false keep) Reg.HASP_CFG 8 true) Reg.HASP_STAT 11 true
     flag s Reg.HASP_CFG 8 = true ∧ flag s Reg.HASP_STAT 11 = true ∧ s.hasp.autoSuspended = false ∧ s.flt.cdr = none ∧
      (paired 5 true keep).pads.boltIn = true ∧ (paired 5 false keep).pads.boltIn = false ∧ mayBolt (paired 5 false keep) = true ∧
      mayBolt (putFlag (paired 5 false keep) Reg.FLT_STAT 1 true) = false) ∧
    instep (paired 2 false keep) = false ∧ instep (putFld (paired 2 false keep) Reg.HASP_STAT 27 25 1) = true :=
  ⟨by decide, roomy _ (by decide) (by decide) (by decide), by decide⟩

/-! Witnesses: counters, on-line changes and forcing, memory, the parameter store, the recorder, the panel. -/

theorem witness_CountersClear : Runs solo ∧ 11 < 12 ∧ (0xFFFFFFFE : Word).getLsbD 0 = false ∧ (1 : Word).getLsbD 0 = true :=
  ⟨⟨by decide, by decide⟩, by decide⟩

/-- Point 2^18 - 1 of IX is mapped, and force entry 0 forces it. -/
def forcing : State :=
  let s : State := { solo with frm := { solo.frm with iomap := [{ key := pkey clsIX 262143, w1 := 0, w2 := 0, w3 := 0, w4 := 0, w5 := 0 }] } }
  s

/-- The valid entry that forces a point to TRUE. -/
def forceOf (k : Nat) : Nat := k + 2 ^ 31 + 2 ^ 32

theorem witness_OnlineChange_forces :
    (Roomy forcing ∧ standbyBars .m1 forcing = false ∧ inForce (forceBase - 1) = false ∧ inForce (forceBase + 32767) = true ∧
      ([1] : List Byte).length ≠ 4 ∧ (forceBase + 32764) % 8 = 4 ∧ (forceBase + 4) % 4 = 0) ∧
    (forceValid (forceOf (pkey clsIX 262143)) = true ∧ forceOk forcing 4095 (forceOf (pkey clsIX 262143)) = true ∧
      forceOk forcing 0 (forceOf (pkey clsIX 0)) = false ∧ forceOk forcing 4095 (forceOf (pkey clsIX 262143) + 2 ^ 33) = false ∧
      forceValid 0x7FFFFFFF = false ∧ alGet (forcing).low (masterKey .m1 Reg.OLC_DBASE_LO) = none ∧
      alGet ({ forcing with low := [(masterKey .m1 Reg.OLC_DBASE_LO, 8)] } : State).low (masterKey .m1 Reg.OLC_DBASE_LO) = some 8) ∧
    Storable forcing (forceBase + 32760) :=
  ⟨⟨roomy _ (by decide) (by decide) (by decide), by decide⟩, by decide +kernel,
   ⟨rfl, Or.inr (by decide : forcing.mm.dirty.length < limitPages forcing),
    by decide, rfl, rfl⟩⟩

/-- A delta without changes at the address 0, its length in DLEN, being verified. -/
def deltaHead : List Byte := leBytes 4 0x44434C4F ++ leBytes 4 1 ++ leBytes 8 0 ++ leBytes 8 0 ++ leBytes 4 0 ++ leBytes 4 0 ++ leBytes 8 64 ++ List.replicate 20 0
def verifying (head : List Byte) : State :=
  putBytes (putNat (putFld forcing Reg.OLC_STAT 2 0 1) Reg.OLC_DLEN 64) 0 (head ++ leBytes 4 (crc32c head).toNat)

theorem witness_OnlineChange_verification :
    (64 % 8 = 0 ∧ 134217728 % 8 = 0 ∧ ((134217728 : Word).toNat ≤ 134217728 ∧ 64 ≤ (64 : Word).toNat)) ∧
    (goInFlight forcing = false ∧ vstate forcing ≠ 1 ∧ vstate (verifying deltaHead) = 1 ∧
      readDelta (verifying deltaHead) (dbase (verifying deltaHead)) (deltaLen (verifying deltaHead)) = .ok [] ∧
      readDelta (verifying (0 :: deltaHead.tail)) 0 64 = .error { cause := 1, off := 0, upto := 64 }) ∧
    (let s : State := { verifying deltaHead with ecc := [(56, .double)] }; readDelta s (dbase s) (deltaLen s) = .error { cause := 12, off := 56, upto := 64 }) := by decide +kernel

/-- The retained pages `d` are dirty, in the order in which they became so. -/
def dirtied (e : Ecc) (a : Nat) (d : List (Nat × Nat)) (force : Bool) : State :=
  { solo with ecc := if e = .good then [] else [(a, e)],
              mm := { solo.mm with dirty := d, forced := force, written := 0, ptime := 0 } }

theorem witness_Memory_scrub :
    (Roomy solo ∧ inRetained (2 ^ 33 - 1) = true ∧ inRetained (2 ^ 33 - 8) = true ∧ inRetained regBase = false ∧ eccAt solo (2 ^ 33 - 1) = .good ∧
      (2 ^ 33 - 1) / 8 = 2 ^ 30 - 1 ∧ (2 ^ 33 - 9) / 8 ≠ 2 ^ 30 - 1 ∧ eccAt (dirtied (.single 63) (2 ^ 33 - 8) [] false) (2 ^ 33 - 1) = .single 63 ∧
      eccAt (dirtied .double 0 [] false) 7 = .double ∧ solo.mm.corrAt = none ∧ 0 ∉ (dirtied .double 0 [] false).mm.known ∧
      bits (0x4D450080 : Word).toNat 31 16 = 0x4D45 ∧ bits (0x4D440080 : Word).toNat 31 16 ≠ 0x4D45) ∧
    ((dirtied .good 0 [(0x1FFFFF, 2)] true).mm.dirty = [(0x1FFFFF, 2)] ∧ (dirtied .good 0 [(0x1FFFFF, 2)] true).mm.forced = true ∧
      (dirtied .good 0 [(0x1FFFFF, 2)] false).mm.forced = false ∧ coldPage (dirtied .good 0 [(0x1FFFFF, 2000001)] false) = false ∧
      (let s := putFld (dirtied .good 0 [(0x1FFFFF, 2)] false) Reg.RET_CFG 15 0 0
       coldPage s = true ∧ governed s = true ∧ governed { s with mm := { s.mm with written := 2 ^ 36 } } = false) ∧
      smWf memDefault (dirtied .good 0 [] true).mem = true ∧ smWf memDefault (dirtied .good 0 [] true).mm.flash = true) :=
  ⟨⟨roomy _ (by decide) (by decide) (by decide), by decide⟩, by decide⟩

def full : List (Nat × Nat) := (0, 0) :: (List.range 16383).map fun i => (i + 1, 0)

theorem witness_Memory_stall :
    (limitPages (dirtied .good 0 full false) ≤ (dirtied .good 0 full false).mm.dirty.length ∧
      isDirty (dirtied .good 0 full false) 16384 = false ∧ inImageCopy 16384 = false) ∧
    (Master.m1 ≠ .m0 ∧ standbyBars .m1 (dirtied .good 0 full false) = false ∧ inWorking (16384 * 4096 + 8) = true ∧
      [(1 : Byte), 2, 3, 4, 5, 6, 7, 8].length ∈ [1, 2, 4, 8] ∧ (16384 * 4096 + 8) % 8 = 0 ∧ (dirtied .good 0 full false).hasp.mirroring = false ∧
      eccAt (dirtied .good 0 full false) (16384 * 4096 + 8) = .good ∧ (dirtied .good 0 full false).mm.inject = [] ∧
      (dirtied .good 0 full false).mm.stalled = false) ∧
    (let s : State := { solo with mm := { solo.mm with dirty := [(0, 0)], inject := [(1, 0x1FF)] } }; isDirty s 0 = true ∧ alGet s.mm.inject (Master.num .m1) = some 0x1FF) ∧
    (2 ^ 26 ≤ 1000 * (4000 ^ 2 - 3400 ^ 2) * 4 / 45 ∧ 100 * (4000 ^ 2 - 3400 ^ 2) * 4 / 45 < 2 ^ 26 ∧ solo.mm.holdLow = false) := by
  have l : limitPages (dirtied .good 0 full false) = 16384 := by decide
  refine ⟨⟨?_, ?_, by decide⟩, ⟨by decide, by decide, by decide, by decide, by decide, rfl, rfl, rfl, rfl⟩, by decide, by decide⟩
  · rw [l]; simp [dirtied, full]
  · simp [isDirty, dirtied, full]; omega

/-- Record 15 of the parameter store has its copies at 0x200 and 0x3FFF0, each of at most 16 bytes, and these contents. -/
def stored (a b : List Byte) : State :=
  putBytes (putBytes (putNat (putNat solo (Reg.PST_REC_SLOTA 15) (0x200 + 2 * 2 ^ 20)) (Reg.PST_REC_SLOTB 15) 0x400)
    (pstBase + 0x200) a) (pstBase + 0x400) b
def recHead (seq : Nat) : List Byte := leBytes 4 seq ++ leBytes 4 0 ++ leBytes 4 (crc32c (leBytes 4 seq ++ leBytes 4 0)).toNat
def validA (s : State) : Bool := (readCopy 0 15 0 s).1.valid
def validB (s : State) : Bool := (readCopy 0 15 1 s).1.valid

theorem witness_ParameterRecords_copies :
    (Roomy (stored [] []) ∧ (stored [] []).ecc = [] ∧ Reg.PST_PROT ∉ solo.once ∧ bits (0x50310001 : Word).toNat 31 16 = 0x5031 ∧
      recMax solo 15 = 0 ∧ recMax (stored [] []) 15 = 16 ∧ flag (stored [] []) Reg.PST_STAT 0 = false ∧
      flag (putFlag solo Reg.PST_STAT 0 true) Reg.PST_STAT 0 = true) ∧
    (let m := masNib .m0; (readCopy m 15 0 (stored (0 :: recHead 1) (recHead 1))).1.valid = false ∧ (readCopy m 15 1 (stored (0 :: recHead 1) (recHead 1))).1.valid = true ∧
      (readCopy m 15 0 (stored (recHead 1) [])).1.valid = true ∧ (readCopy m 15 1 (stored (recHead 1) [1])).1.valid = false ∧
      (readCopy m 15 0 (stored [1] [1])).1.valid = false ∧ (readCopy m 15 1 (stored [1] [1])).1.valid = false ∧
      (readCopy m 15 0 (stored (recHead 0) (recHead 0xFFFFFFFF))).1.seq = 0 ∧ (readCopy m 15 1 (stored (recHead 0) (recHead 0xFFFFFFFF))).1.seq = 0xFFFFFFFF ∧
      (readCopy m 15 0 (stored (recHead 0) (recHead 0xFFFFFFFF))).1.valid = true ∧ (readCopy m 15 1 (stored (recHead 0) (recHead 0xFFFFFFFF))).1.valid = true ∧
      recNewer 0 0xFFFFFFFF = true ∧ recNewer 0xFFFFFFFF 0 = false) :=
  ⟨⟨roomy _ (by decide) (by decide) (by decide), by decide⟩, by decide +kernel⟩

theorem witness_ParameterRecords_seals :
    (let s : State := { stored [] [] with pst := { solo.pst with selected := [(15, 2, 0)] } }; sealTarget (stored [] []) 15 = none ∧ sealTarget s 15 = some (0, 1) ∧ fld s Reg.PST_RECLEN 15 0 ≤ recMax s 15 ∧
      512 ≤ recOff s 15 0 ∧ pstLocked (recOff s 15 0) s = false ∧ recOff s 15 0 + 16 ≤ pstProtFrom s) ∧
    (solo.pst.busy = none ∧ ({ solo with pst := { solo.pst with busy := some (15, 1, .m1) } } : State).pst.busy = some (15, 1, .m1)) ∧
    (let s : State := { stored [] [] with pst := { solo.pst with selected := [(15, 0, 0xFFFFFFFF)], busy := some (15, 2, .m1) } }; s.pst.busy = some (15, 2, .m1) ∧ sealTarget s 15 = some (1, 0) ∧ recOff s 15 1 + 24 + fld s Reg.PST_RECLEN 15 0 ≤ pstSize) := by decide

theorem witness_ParameterRecords_locked :
    let s : State := { putNat (stored [] []) (Reg.PST_REC_SLOTA 15) (2 * 2 ^ 20) with pst := { solo.pst with selected := [(15, 2, 0)] } }
    sealTarget s 15 = some (0, 1) ∧ fld s Reg.PST_RECLEN 15 0 ≤ recMax s 15 ∧ pstLocked (recOff s 15 0) s = true ∧
      recOff s 15 0 + 16 ≤ pstSize ∧ flag s Reg.PST_STAT 0 = false ∧ recMax s 15 ≠ 0 := by decide

/-- Firings wait at the recorder, whose source 31 is enabled. -/
def recording (n : Nat) : State :=
  let s := putFlag solo (Reg.EVR_SRC_CFG 31) 31 true
  { s with evr := { queue := List.replicate n { src := 31, code := 0, master := 1, time := 0, fnum := 4 } } }

theorem witness_EventRecorder :
    (Roomy (recording 15) ∧ flag solo (Reg.EVR_SRC_CFG 31) 31 = false ∧ (0xFFFFFFFF : Word).toNat % 32 = 31 ∧
      flag (recording 15) (Reg.EVR_SRC_CFG 31) 31 = true ∧ (recording 15).evr.queue.length < 16 ∧ 16 ≤ (recording 16).evr.queue.length ∧
      solo.evr.queue = [] ∧ alGet solo.low (masterKey .m1 Reg.EVR_CURSOR_LO) = none ∧
      alGet ({ solo with low := [(masterKey .m1 Reg.EVR_CURSOR_LO, 0xFFFFFFFF)] } : State).low (masterKey .m1 Reg.EVR_CURSOR_LO) = some 0xFFFFFFFF ∧
      ∀ i, i < 32 → flag solo (Reg.EVR_SRC_CFG i) 31 = false) ∧
    (recording 1).evr.queue = [{ src := 31, code := 0, master := 1, time := 0, fnum := 4 }] ∧
    (takeSnaps 31 (min 16 (fld (recording 1) (Reg.EVR_SRC_CFG 31) 20 16)) 0 { recording 1 with evr := { (recording 1).evr with queue := [] } }).2.flt.arrived = [] ∧
    (takeSnaps 31 (min 16 (fld (recording 1) (Reg.EVR_SRC_CFG 31) 20 16)) 0 { recording 1 with evr := { (recording 1).evr with queue := [] } }).2.ecc = [] :=
  ⟨⟨roomy _ (by decide) (by decide) (by decide), by decide⟩, rfl, by decide, by decide⟩

/-- A panel of 320 columns and 240 rows whose temperature is held, with the image check off or on. -/
def panel (check : Bool) : State :=
  putNat (putNat solo Reg.PNL_CFG (2 ^ 31 + 2 ^ 30 + (if check then 2 ^ 29 else 0) + 320 * 2 ^ 16 + 240)) Reg.PNL_UPD (239 * 2 ^ 16 + 239)

theorem crc_differs (s : State) : ∃ v : Word, crc32c (memBytes (putReg s Reg.PNL_EXPCRC v) pnlBase 245760) ≠ getReg (putReg s Reg.PNL_EXPCRC v) Reg.PNL_EXPCRC := by
  have same : ∀ v n a, memBytes (putReg s Reg.PNL_EXPCRC v) a n = memBytes s a n := by
    intro v n
    induction n with
    | zero => exact fun _ => rfl
    | succ n ih => exact fun a => by rw [memBytes, memBytes, ih]; rfl
  have h : ∀ v, memBytes (putReg s Reg.PNL_EXPCRC v) pnlBase 245760 = memBytes s pnlBase 245760 := fun v => same v 245760 pnlBase
  refine ⟨crc32c (memBytes s pnlBase 245760) + 1, ?_⟩
  rw [h, getReg_putReg_same]
  generalize crc32c (memBytes s pnlBase 245760) = c
  bv_omega

theorem witness_StatusPanel_updates :
    (∀ c, Roomy (panel c) ∧ pnlCols (panel c) ≤ 320 ∧ pnlRows (panel c) ≤ 240 ∧ pnlState (panel c) = 0 ∧
      fld (panel c) Reg.PNL_UPD 7 0 ≤ fld (panel c) Reg.PNL_UPD 23 16 ∧ fld (panel c) Reg.PNL_UPD 23 16 < pnlRows (panel c) ∧
      flag (panel c) Reg.PNL_CFG 31 = true ∧ pnlHeld (panel c) = false ∧ pnlTemp (panel c) = some 250) ∧
    (flag (panel false) Reg.PNL_CFG 29 = false ∧ flag (panel true) Reg.PNL_CFG 29 = true ∧ flag solo Reg.PNL_CFG 31 = false ∧
      pnlTemp (putFlag (panel false) Reg.PNL_CFG 30 false) = none) ∧
    (∃ v, crc32c (memBytes (putReg (panel true) Reg.PNL_EXPCRC v) pnlBase 245760) ≠ getReg (putReg (panel true) Reg.PNL_EXPCRC v) Reg.PNL_EXPCRC) := by
  refine ⟨fun c => ?_, by decide, crc_differs _⟩
  cases c <;> exact ⟨roomy _ (by decide) (by decide) (by decide), by decide⟩

def driven (r : Bool) (f : Nat) : State :=
  { panel false with pnl := { hven := true, hvenOff := some 5, job := some { repaint := r, first := f, last := 239, wave := [], startAt := 0, per := 1 } } }

theorem witness_StatusPanel_drives :
    (∀ r ∈ [false, true], Roomy (driven r 0) ∧ (driven r 0).pnl.job = some { repaint := r, first := 0, last := 239, wave := [], startAt := 0, per := 1 } ∧
      pnlCols (driven r 0) ≤ 320 ∧ pnlRows (driven r 0) ≤ 240 ∧ (driven r 0).pnl.hvenOff = some 5) ∧
    (solo.pnl.job = none ∧ solo.pnl.waiting = false ∧ solo.pnl.hvenOff = none ∧
      ({ panel false with pnl := { solo.pnl with waiting := true } } : State).pnl.waiting = true ∧
      pnlTemp ({ panel false with pnl := { solo.pnl with waiting := true } } : State) = some 250 ∧
      pnlHeld ({ panel false with pnl := { solo.pnl with waiting := true } } : State) = false) ∧
    ((-300 : Int) ≤ -300 ∧ (800 : Int) ≤ 800 ∧ (-301 : Int) < -300 ∧ (800 : Int) < 801 ∧
      flag (putFlag solo Reg.PNL_STAT 8 true) Reg.PNL_STAT 8 = true) := by
  refine ⟨fun r h => ?_, by decide, by decide⟩
  simp only [List.mem_cons, List.not_mem_nil, or_false] at h
  rcases h with rfl | rfl <;> exact ⟨roomy _ (by decide) (by decide) (by decide), by decide⟩

end Sys2Proof.Tests
end

section
/-! SUPPORT. What a command that accesses a unit register comes to: its address, its answer, and the branch of the fabric's write
that acts. -/

namespace Sys2Proof.Machine

/-! Association lists. -/

@[simp] theorem alGet_alPut_same {α : Type} (l : List (Nat × α)) (k : Nat) (v : α) : alGet (alPut l k v) k = some v := by
  simp [alGet, alPut]

/-! Addresses. -/

/-- An aligned address that belongs to a unit register is a register's offset. -/
theorem regOffset_of_target {o : Nat} (h : targetOf (regBase + o) = .reg) (h4 : o % 4 = 0) : regOffset o = true := by
  have hlt : o < 0x100_0000 := by
    by_contra hge
    have hout : ¬ (regBase ≤ regBase + o ∧ regBase + o < regBase + 0x100_0000) := by omega
    unfold targetOf at h
    rw [if_neg hout] at h
    repeat' split at h
    all_goals cases h
  rw [targetOf_high _ (Nat.le_add_right _ _) (Nat.add_lt_add_left hlt _), Nat.add_sub_cancel_left] at h
  have hb : blockAssigned (o / 0x10000) = true := by
    by_contra hb
    rw [if_neg hb] at h
    cases h
  simp [regOffset, h4, hlt, hb]

/-! Steps and notices. -/

theorem serveStep_idle {s : State} (h : s.leaf.stepReq = false) : serveStep s = s := by simp [serveStep, h]

theorem report_leaf (code cls : Nat) (mas : BitVec 4) (s : State) (h : cls ≤ 1) : (report code cls mas s).leaf = s.leaf := by
  rw [report_low code cls mas s h]
  rfl

@[simp] theorem raiseBy_leaf (m : Master) (code : Nat) (s : State) : (raiseBy m code 0 s).leaf = s.leaf :=
  report_leaf _ _ _ _ (by omega)

@[simp] theorem wardTouched_leaf (o : Nat) (s : State) : (wardTouched o s).leaf = s.leaf := by
  unfold wardTouched
  split <;> rfl

/-! What the fabric's answer makes of a write command. -/

section
variable {m : Master} {o : Nat} {v : Word} {s t : State}

theorem exec_stagedWrite (hs : Runs s) : exec (.stagedWrite m o v) s = .next (settleFaults (writeReg m o v s)) := act_runs _ hs.1

theorem exec_registerWrite (hs : Runs s) (hw : (writeReg m o v s).leaf.stepReq = false) :
    exec (.registerWrite m o v) s = .next (settleFaults (writeReg m o v s)) := by
  have h : exec (.registerWrite m o v) s = .next (settleFaults (serveStep (writeReg m o v s))) :=
    act_runs (fun s => serveStep (writeReg m o v s)) hs.1
  rw [h, serveStep_idle hw]

theorem writeReg_ok (ho : regOffset o = true) (hw : regWrite m o v s = (.ok, t)) : writeReg m o v s = { t with answer := .done } := by
  rw [writeReg_eq m o v s ho, hw]

theorem writeReg_refused (ho : regOffset o = true) (hw : regWrite m o v s = (.refused, t)) :
    writeReg m o v s = { raiseBy m (noticeCode true (regBase + o)) 0 t with answer := .error } := by
  rw [writeReg_eq m o v s ho, hw]
  rfl

theorem writeReg_raised (ho : regOffset o = true) (hw : regWrite m o v s = (.raised, t)) :
    writeReg m o v s = { t with answer := .error } := by
  rw [writeReg_eq m o v s ho, hw]

/-- A staged write that is accepted and raises nothing. -/
theorem stagedWrite_accepted (hs : Runs s) (ho : regOffset o = true) (hw : regWrite m o v s = (.ok, t)) (ht : t.flt = s.flt) :
    exec (.stagedWrite m o v) s = accepted t := by
  rw [exec_stagedWrite hs, writeReg_ok ho hw, settleFaults_none _ (by simp [ht, hs.2])]
  rfl

/-- A staged write that the register refuses. -/
theorem stagedWrite_refused (hs : Runs s) (ho : regOffset o = true) (hw : regWrite m o v s = (.refused, t)) :
    exec (.stagedWrite m o v) s = refused m (noticeCode true (regBase + o)) t := by
  rw [exec_stagedWrite hs, writeReg_refused ho hw]
  rfl

/-- A register write that is accepted and neither raises a fault nor asks for a step. -/
theorem registerWrite_accepted (hs : Runs s) (ho : regOffset o = true) (hw : regWrite m o v s = (.ok, t)) (ht : t.flt = s.flt)
    (hl : t.leaf.stepReq = false) : exec (.registerWrite m o v) s = accepted t := by
  rw [exec_registerWrite hs (by rw [writeReg_ok ho hw]; exact hl), writeReg_ok ho hw, settleFaults_none _ (by simp [ht, hs.2])]
  rfl

/-- A register write that the register refuses. -/
theorem registerWrite_refused (hs : Runs s) (ho : regOffset o = true) (hw : regWrite m o v s = (.refused, t))
    (hl : t.leaf.stepReq = false) : exec (.registerWrite m o v) s = refused m (noticeCode true (regBase + o)) t := by
  rw [exec_registerWrite hs (by rw [writeReg_refused ho hw]; simpa using hl), writeReg_refused ho hw]
  rfl

/-- A register write that STBY_WRITE answers (R183). -/
theorem registerWrite_barred (hs : Runs s) (ho : regOffset o = true) (hw : regWrite m o v s = standbyRefusal m s)
    (hl : s.leaf.stepReq = false) : exec (.registerWrite m o v) s = refused m 0x060C s := by
  rw [exec_registerWrite hs (by rw [writeReg_raised ho hw]; simpa using hl), writeReg_raised ho hw]
  rfl

end

/-! The branches of the fabric's write. -/

section
variable {m : Master} {o : Nat} {v : Word} {s : State} {r : RegRow} {ix : List Nat}

/-- A write of TXN's registers that a standby refuses its own masters (R183). -/
def txnBarred (m : Master) (o : Nat) (s : State) : Bool := 0x20000 ≤ o && o < 0x20200 && standbyBars m s

theorem txnBarred_eq_false (h : 0x20000 ≤ o → o < 0x20200 → standbyBars m s = false) : txnBarred m o s = false := by
  unfold txnBarred
  by_cases h1 : 0x20000 ≤ o <;> by_cases h2 : o < 0x20200 <;> simp [h1, h2, h]

theorem regWrite_unassigned (hr : regRow? o = none) : regWrite m o v s = (.refused, wardTouched o s) := by simp only [regWrite, hr]

theorem regWrite_setting (hr : regRow? o = some (r, ix)) (ht : r.rwt ≠ 0) :
    regWrite m o v s = settingWrite m o (v &&& BitVec.ofNat 32 r.rwt) s := by simp only [regWrite, hr, if_pos ht]

theorem regWrite_txnBarred (hr : regRow? o ≠ none) (hb : txnBarred m o s = true) : regWrite m o v s = standbyRefusal m s := by
  obtain ⟨⟨r, ix⟩, hr⟩ := Option.ne_none_iff_exists'.mp hr
  have hs : standbyBars m s = true := by simp only [txnBarred, Bool.and_eq_true] at hb; exact hb.2
  by_cases ht : r.rwt = 0
  · simp only [txnBarred] at hb
    simp [regWrite, hr, ht, hb]
  · rw [regWrite_setting hr ht, settingWrite, if_pos hs]

/-- A register with no field that a master can write. -/
theorem regWrite_fixed (hr : regRow? o = some (r, ix)) (ht : r.rwt = 0) (hb : txnBarred m o s = false)
    (hf : r.rw = 0 ∧ r.wo = 0 ∧ r.w1c = 0 ∧ r.w1s = 0) (ho : r.rwo = 0) : regWrite m o v s = (.refused, wardTouched o s) := by
  obtain ⟨h1, h2, h3, h4⟩ := hf
  simp only [txnBarred] at hb
  simp [regWrite, hr, ht, hb, h1, h2, h3, h4, ho]

/-- The effect that a register has of its own, beyond a change of its fields. -/
def ownWrite (m : Master) (o : Nat) (v : Word) (s : State) : Option (Resp × State) :=
  if o < 0x100000 then lowWrite m o v.toNat s else highWrite m o v.toNat s

/-- A register without an effect of its own takes the write field by field (R7, R8). -/
theorem regWrite_fields (hr : regRow? o = some (r, ix)) (ht : r.rwt = 0) (hb : txnBarred m o s = false)
    (hf : r.rw ≠ 0 ∨ r.wo ≠ 0 ∨ r.w1c ≠ 0 ∨ r.w1s ≠ 0) (ho : r.rwo = 0) (hl : rwPairLow o = false)
    (hh : 4 ≤ o → rwPairLow (o - 4) = false) (hn : ownWrite m o v s = none) :
    regWrite m o v s = (.ok, putNat s o (fieldWrite r (regNat s o) v.toNat)) := by
  have hf' : ¬ (r.rw = 0 ∧ r.wo = 0 ∧ r.w1c = 0 ∧ r.w1s = 0) := by omega
  have hp : (decide (4 ≤ o) && rwPairLow (o - 4)) = false := by
    by_cases h : 4 ≤ o <;> simp [h, hh]
  simp only [txnBarred] at hb
  simp only [ownWrite] at hn
  simp [regWrite, hr, ht, hb, hf', hl, hp, hn, ho]

/-! Whether a register has an effect of its own depends on its offset alone. -/

theorem lowWrite_isSome (m m' : Master) (o v v' : Nat) (s s' : State) : (lowWrite m o v s).isSome = (lowWrite m' o v' s').isSome := by
  simp only [lowWrite, apply_ite Option.isSome, Option.isSome_some, Option.isSome_none]

theorem highWrite_isSome (m m' : Master) (o v v' : Nat) (s s' : State) : (highWrite m o v s).isSome = (highWrite m' o v' s').isSome := by
  simp only [highWrite, apply_ite Option.isSome, Option.isSome_some, Option.isSome_none]

theorem ownWrite_isSome (m m' : Master) (o : Nat) (v v' : Word) (s s' : State) :
    (ownWrite m o v s).isSome = (ownWrite m' o v' s').isSome := by
  unfold ownWrite
  split
  · exact lowWrite_isSome ..
  · exact highWrite_isSome ..

end

/-! Settings. -/

section
variable {m : Master} {o : Nat} {w : Word} {s : State}

theorem num_lt_four (h : m ≠ .m4) : Master.num m < 4 := by
  cases m with
  | m4 => exact absurd rfl h
  | _ => decide

theorem settingWrite_m4 (hb : s.boot.running = true) (ho : o ≠ Reg.OLC_CHG) (hk : stageOk .m4 o w.toNat s = true) :
    settingWrite .m4 o w s = (.ok, putSetting s o w) := by simp [settingWrite, standbyBars, hb, hk, ho]

/-- A setting written by a master whose slot is not open is refused. -/
theorem settingWrite_closed (hm : m ≠ .m4) (hb : standbyBars m s = false) (hs : slotState s (Master.num m) ≠ 1) :
    settingWrite m o w s = (.refused, s) := by simp [settingWrite, hb, hm, stageWrite, hs]

/-- The state in which a master's slot stages `l`. -/
def withStaged (k : Nat) (l : List (Nat × Word)) (s : State) : State :=
  { s with txn := { s.txn with staged := alPut s.txn.staged k l } }

@[simp] theorem stagedOf_withStaged (k : Nat) (l : List (Nat × Word)) (s : State) : stagedOf (withStaged k l s) k = l := by
  simp [withStaged, stagedOf]

@[simp] theorem stagedOf_rewrote (l : List Nat) (s : State) (k : Nat) : stagedOf (rewrote l s) k = stagedOf s k := rfl

@[simp] theorem getReg_rewrote (l : List Nat) (s : State) (o : Nat) : getReg (rewrote l s) o = getReg s o := rfl

@[simp] theorem getReg_withStaged (k : Nat) (l : List (Nat × Word)) (s : State) (o : Nat) : getReg (withStaged k l s) o = getReg s o := rfl

/-- The state in which the staged writes of a slot have grown to `l`, and COUNT shows how many they are. -/
def grownStaged (k : Nat) (l : List (Nat × Word)) (s : State) : State :=
  rewrote [k] (putFld (withStaged k l s) (Reg.TXN_SLOT_STAT k) 28 16 l.length)

@[simp] theorem stagedOf_grownStaged (k : Nat) (l : List (Nat × Word)) (s : State) : stagedOf (grownStaged k l s) k = l := by
  rw [grownStaged, stagedOf_rewrote, stagedOf, putFld_txn, ← stagedOf, stagedOf_withStaged]

theorem count_grownStaged (k : Nat) (l : List (Nat × Word)) (s : State) (h : l.length ≤ 4096) :
    fld (grownStaged k l s) (Reg.TXN_SLOT_STAT k) 28 16 = l.length := by
  show fld (putFld (withStaged k l s) (Reg.TXN_SLOT_STAT k) 28 16 l.length) (Reg.TXN_SLOT_STAT k) 28 16 = l.length
  rw [fld_putFld_same _ _ _ _ _ (by omega) (by omega), Nat.mod_eq_of_lt (by omega)]

theorem getReg_grownStaged (k : Nat) (l : List (Nat × Word)) (s : State) {o : Nat} (h : o ≠ Reg.TXN_SLOT_STAT k) :
    getReg (grownStaged k l s) o = getReg s o := getReg_putFld_ne (withStaged k l s) 28 16 l.length h

/-- A setting whose register the open slot does not stage yet. -/
theorem settingWrite_new (hm : m ≠ .m4) (hb : standbyBars m s = false) (hs : slotState s (Master.num m) = 1)
    (hk : stageOk m o w.toNat s = true) (hl : (stagedOf s (Master.num m)).length < 4096)
    (hn : ∀ p ∈ stagedOf s (Master.num m), p.1 ≠ o) :
    settingWrite m o w s = (.ok, grownStaged (Master.num m) (stagedOf s (Master.num m) ++ [(o, w)]) s) := by
  have hany : ((stagedOf s (Master.num m)).any fun p => decide (p.1 = o)) = false := by simpa using hn
  have hlt : ¬ 4 ≤ Master.num m := by have := num_lt_four hm; omega
  have hfull : ¬ 4096 ≤ (stagedOf s (Master.num m)).length := by omega
  simp [settingWrite, hb, hm, stageWrite, hs, hk, hlt, hany, hfull, withStaged, grownStaged]

/-- A setting whose register the open slot stages already. -/
theorem settingWrite_again (hm : m ≠ .m4) (hb : standbyBars m s = false) (hs : slotState s (Master.num m) = 1)
    (hk : stageOk m o w.toNat s = true) (he : ∃ p ∈ stagedOf s (Master.num m), p.1 = o) :
    settingWrite m o w s = (.ok, rewrote [Master.num m] (withStaged (Master.num m)
      ((stagedOf s (Master.num m)).map fun p => if p.1 = o then (o, w) else p) s)) := by
  have hany : ((stagedOf s (Master.num m)).any fun p => decide (p.1 = o)) = true := by simpa using he
  have hlt : ¬ 4 ≤ Master.num m := by have := num_lt_four hm; omega
  simp [settingWrite, hb, hm, stageWrite, hs, hk, hlt, hany, withStaged]

end

/-! Plain registers. -/

/-- The plain registers that the statement on writes lists: an offset, its RW fields and its W1C fields. -/
def plainRegs : List (Nat × Nat × Nat) :=
  [(Reg.SYS_RSTCAUSE, 0, 0xFF), (Reg.SYS_CLKSTAT, 0, 0x70), (Reg.FLT_CFG, 0x1F, 0),
        (Reg.RTC_TRIM, 0xFFFF, 0), (Reg.PST_RECLEN, 0xFFFF, 0), (Reg.PNL_UPD, 0xFF00FF, 0), (Reg.PNL_EXPCRC, 0xFFFFFFFF, 0),
        (Reg.PNL_TEMP, 0xFFFF, 0), (Reg.BOOT_CFG, 1, 0), (Reg.BOOT_PGADDR, 0x1FFFFFFF, 0), (Reg.HOST_CFG, 1, 0),
        (Reg.HOST_CAUSE_LO, 0, 0xFFFFFFFF), (Reg.HOST_CAUSE_HI, 0, 0xFFFFFFFF), (Reg.DBG_BPCFG, 0xF1, 0),
        (Reg.DBG_BP 0, 0xFFFFFF, 0), (Reg.DBG_BP 1, 0xFFFFFF, 0), (Reg.DBG_BP 2, 0xFFFFFF, 0), (Reg.DBG_BP 3, 0xFFFFFF, 0)] ++
        (List.range 16).map (fun n => (Reg.TIME_TEV_PER n, 0xFFFFFFFF, 0)) ++
        (List.range 64).map (fun n => (Reg.HOST_MSIX n, 0xFFFFFFFC, 0)) ++
        (List.range 64).map (fun n => (Reg.HOST_MSIX n + 4, 0xFFFFFFFF, 0)) ++
        (List.range 64).map (fun n => (Reg.HOST_MSIX n + 8, 0xFFFFFFFF, 0)) ++
        (List.range 48).map (fun n => (Reg.AO_CH_STAT n, 0, 0x100)) ++
        (List.range 64).map (fun n => (Reg.BOOT_PGBUF n, 0xFFFFFFFF, 0))

/-- A row of the register map whose fields are RW in `rw`, W1C in `w1c`, and RO or WO elsewhere. -/
def rowPlain (rw w1c : Nat) (r : RegRow) : Bool :=
  r.rw = rw && r.w1c = w1c && r.rwt = 0 && r.w1s = 0 && r.rwo = 0 && (rw ≠ 0 || w1c ≠ 0) && rw < 2 ^ 32 && w1c < 2 ^ 32 && rw &&& w1c = 0

/-- The register at an offset is plain: its row is, it lies outside TXN, it is no half of a RW pair, and it has no effect of its
own. -/
def regPlain (p : Nat × Nat × Nat) : Bool :=
  regOffset p.1 && (regRow? p.1).any (fun x => rowPlain p.2.1 p.2.2 x.1) && (p.1 < 0x20000 || 0x20200 ≤ p.1) && !rwPairLow p.1 &&
    !rwPairLow (p.1 - 4) && !(ownWrite .m0 p.1 0 State.reset).isSome

theorem plainRegs_plain : ∀ p ∈ plainRegs, regPlain p = true := by decide +kernel

theorem rowPlain_iff (rw w1c : Nat) (r : RegRow) : rowPlain rw w1c r = true ↔
    r.rw = rw ∧ r.w1c = w1c ∧ r.rwt = 0 ∧ r.w1s = 0 ∧ r.rwo = 0 ∧ (rw ≠ 0 ∨ w1c ≠ 0) ∧ rw < 2 ^ 32 ∧ w1c < 2 ^ 32 ∧ rw &&& w1c = 0 := by
  simp [rowPlain, and_assoc]

/-- The complement of a mask, as the model's numbers and as words. -/
theorem ofNat_complement {k : Nat} (h : k < 2 ^ 32) : BitVec.ofNat 32 (0xFFFFFFFF - k) = ~~~ BitVec.ofNat 32 k := by
  apply BitVec.eq_of_toNat_eq
  simp only [BitVec.toNat_ofNat, BitVec.toNat_not]
  omega

/-- A plain register takes its RW fields from the write and loses the W1C bits that the write sets (R7, R8). -/
theorem fieldWrite_plain {rw w1c : Nat} {r : RegRow} (h : rowPlain rw w1c r = true) (a v : Word) :
    BitVec.ofNat 32 (fieldWrite r a.toNat v.toNat) =
      ((a &&& ~~~ BitVec.ofNat 32 rw) ||| (v &&& BitVec.ofNat 32 rw)) &&& ~~~ (v &&& BitVec.ofNat 32 w1c) := by
  obtain ⟨hrw, hw1c, -, hw1s, hrwo, -, hr, hw, hd⟩ := (rowPlain_iff rw w1c r).mp h
  have hd' : BitVec.ofNat 32 rw &&& BitVec.ofNat 32 w1c = 0 := by
    rw [← BitVec.ofNat_and, hd]
    rfl
  simp only [fieldWrite, hrw, hw1c, hw1s, hrwo, Nat.or_zero, Nat.and_zero, BitVec.ofNat_or, BitVec.ofNat_and,
    ofNat_complement (Nat.or_lt_two_pow hr hw), ofNat_complement v.isLt, BitVec.ofNat_toNat, BitVec.setWidth_eq]
  generalize BitVec.ofNat 32 rw = x at hd' ⊢
  generalize BitVec.ofNat 32 w1c = y at hd' ⊢
  ext i hi
  have hb : x[i] = true → y[i] = false := by
    intro hx
    have := congrArg (fun b : Word => b[i]) hd'
    simpa [hx] using this
  cases hx : x[i] with
  | false => cases hy : y[i] <;> simp [hx, hy]
  | true => simp [hx, hb hx]

/-- A write of a plain register. -/
theorem regWrite_plain {p : Nat × Nat × Nat} (h : regPlain p = true) (m : Master) (v : Word) (s : State) :
    regWrite m p.1 v s = (.ok, putReg s p.1 (((getReg s p.1 &&& ~~~ BitVec.ofNat 32 p.2.1) ||| (v &&& BitVec.ofNat 32 p.2.1)) &&&
      ~~~ (v &&& BitVec.ofNat 32 p.2.2))) := by
  simp only [regPlain, Bool.and_eq_true, Bool.not_eq_true', Bool.or_eq_true, decide_eq_true_eq, Option.any_eq_true] at h
  obtain ⟨⟨⟨⟨⟨-, ⟨r, ix⟩, hr, hrow⟩, htxn⟩, hlow⟩, hhigh⟩, hown⟩ := h
  have hn : ownWrite m p.1 v s = none := by
    rw [← ownWrite_isSome m .m0 p.1 v 0 s State.reset] at hown
    simpa using hown
  obtain ⟨hrw, hw1c, hrwt, -, hrwo, hany, -⟩ := (rowPlain_iff _ _ _).mp hrow
  have hb : txnBarred m p.1 s = false := txnBarred_eq_false (by omega)
  have hf : r.rw ≠ 0 ∨ r.wo ≠ 0 ∨ r.w1c ≠ 0 ∨ r.w1s ≠ 0 := by
    rw [hrw, hw1c]
    tauto
  rw [regWrite_fields hr hrwt hb hf hrwo hlow (fun _ => hhigh) hn, putNat, regNat, fieldWrite_plain hrow]

end Sys2Proof.Machine
end

section
/-! What a power-on reset leaves (R28, R29, R33, R434). -/

namespace Sys2Proof.Machine

/-- Memory after the reset is as unlisted bytes read: 0 outside page 0 of the parameter store. -/
theorem memByte_reset_outside {a : Nat} (h : a < 0xC_0000_0000 ∨ 0xC_0000_0100 ≤ a) : memByte State.reset a = 0 := by
  have hp : ¬ (0xC_0000_0000 ≤ a ∧ a < 0xC_0000_0100) := by omega
  show memDefault a = 0
  rw [memDefault, if_neg hp]

/-- Page 0 of the parameter store after the reset is as manufactured. -/
theorem memByte_reset_pageZero {i : Nat} (h : i < 0x100) : memByte State.reset (0xC_0000_0000 + i) = pageZero i := by
  have hp : 0xC_0000_0000 ≤ 0xC_0000_0000 + i ∧ 0xC_0000_0000 + i < 0xC_0000_0100 := by omega
  show memDefault (0xC_0000_0000 + i) = pageZero i
  rw [memDefault, if_pos hp, Nat.add_sub_cancel_left]

/-- The identity mirror of R13. -/
theorem memBytes_reset_ident : memBytes State.reset 0xC_0000_0000 0x20 = identBlock := by
  refine memBytes_eq _ _ _ _ (by decide) fun i hi => ?_
  rw [memByte_reset_pageZero (by omega), pageZero, if_pos hi]

/-- Settles O3: the reset state lists no register, no byte and no code, so that each of them reads as its default. -/
theorem resetLeaves : Obligations.ResetLeaves := by
  have registers : regNat State.reset Reg.SYS_RSTCAUSE = 0x701 ∧ regNat State.reset Reg.FRM_CFG = 0x10 ∧
      regNat State.reset Reg.FRM_SLACKMIN = 0xFFFFF ∧ (∀ n, n < 32 → regNat State.reset (Reg.FRM_TASKCFG n) = 0x1F000400) ∧
      regNat State.reset Reg.HASP_CFG = 0x100 ∧ regNat State.reset Reg.WARD_PERIOD = 1000000 ∧
      pair State.reset Reg.EVR_NEXT_LO = 1 ∧ pair State.reset Reg.EVR_OLDEST_LO = 1 := by decide
  have slots : ∀ n, n < 4 → slotState State.reset n = 0 ∧ stagedOf State.reset n = [] := by decide
  have mode : curMode State.reset = modeStop := by decide
  have disabled : enabled State.reset = false := by decide
  have canonical : Canonical State.reset := ⟨rfl, rfl, rfl⟩
  obtain ⟨h1, h2, h3, h4, h5, h6, h7, h8⟩ := registers
  exact ⟨h1, h2, h3, h4, h5, h6, h7, h8, fun a => memByte_reset_outside, fun a => rfl, memBytes_reset_ident, rfl, rfl, rfl, mode, rfl,
    disabled, rfl, rfl, rfl, slots, rfl, canonical⟩

end Sys2Proof.Machine
end

section
/-! Writes of settings and of plain registers (R5, R7, R8, R36, R40, R369). -/

namespace Sys2Proof.Machine

section
variable {s : State} {m : Master} {o : Nat} {v : Word} {r : RegRow} {ix : List Nat}

/-- R36: a setting is staged behind the others where its register is new to the open slot. -/
theorem stagedWrite_new (hs : Runs s) (ho : regOffset o = true) (hr : regRow? o = some (r, ix)) (ht : r.rwt ≠ 0) (hm : m ≠ .m4)
    (hb : standbyBars m s = false) (hopen : slotState s (Master.num m) = 1)
    (hok : stageOk m o (v &&& BitVec.ofNat 32 r.rwt).toNat s = true) (hl : (stagedOf s (Master.num m)).length < 4096)
    (hn : ∀ p ∈ stagedOf s (Master.num m), p.1 ≠ o) :
    Ends (exec (.stagedWrite m o v) s) fun u =>
      stagedOf u (Master.num m) = stagedOf s (Master.num m) ++ [(o, v &&& BitVec.ofNat 32 r.rwt)] ∧ u.answer = .done ∧
        fld u (Reg.TXN_SLOT_STAT (Master.num m)) 28 16 = (stagedOf s (Master.num m)).length + 1 ∧
        ∀ o', o' ≠ Reg.TXN_SLOT_STAT (Master.num m) → getReg u o' = getReg s o' := by
  have hw := (regWrite_setting hr ht).trans (settingWrite_new hm hb hopen hok hl hn)
  have hcount := count_grownStaged (Master.num m) (stagedOf s (Master.num m) ++ [(o, v &&& BitVec.ofNat 32 r.rwt)]) s (by
    simp only [List.length_append, List.length_singleton]
    omega)
  rw [List.length_append, List.length_singleton] at hcount
  exact ⟨_, stagedWrite_accepted hs ho hw rfl, stagedOf_grownStaged _ _ s, rfl, hcount, fun o' h => getReg_grownStaged _ _ s h⟩

/-- R40: a later write of a setting takes the place of the earlier one. -/
theorem stagedWrite_again (hs : Runs s) (ho : regOffset o = true) (hr : regRow? o = some (r, ix)) (ht : r.rwt ≠ 0) (hm : m ≠ .m4)
    (hb : standbyBars m s = false) (hopen : slotState s (Master.num m) = 1)
    (hok : stageOk m o (v &&& BitVec.ofNat 32 r.rwt).toNat s = true) (he : ∃ p ∈ stagedOf s (Master.num m), p.1 = o) :
    Ends (exec (.stagedWrite m o v) s) fun u => u.answer = .done ∧
      stagedOf u (Master.num m) =
        (stagedOf s (Master.num m)).map (fun p => if p.1 = o then (o, v &&& BitVec.ofNat 32 r.rwt) else p) ∧
      ∀ o', getReg u o' = getReg s o' := by
  have hw := (regWrite_setting hr ht).trans (settingWrite_again hm hb hopen hok he)
  exact ⟨_, stagedWrite_accepted hs ho hw rfl, rfl, stagedOf_withStaged _ _ s, fun _ => rfl⟩

/-- R16: M4 writes a setting during BOOT. -/
theorem stagedWrite_boot (hs : Runs s) (ho : regOffset o = true) (hr : regRow? o = some (r, ix)) (ht : r.rwt ≠ 0)
    (hboot : s.boot.running = true) (hchg : o ≠ Reg.OLC_CHG) (hok : stageOk .m4 o (v &&& BitVec.ofNat 32 r.rwt).toNat s = true) :
    exec (.stagedWrite .m4 o v) s =
      accepted (putReg s o ((getReg s o &&& BitVec.ofNat 32 r.ro) ||| (v &&& BitVec.ofNat 32 r.rwt))) := by
  have hput : putSetting s o (v &&& BitVec.ofNat 32 r.rwt) =
      putReg s o ((getReg s o &&& BitVec.ofNat 32 r.ro) ||| (v &&& BitVec.ofNat 32 r.rwt)) := by simp only [putSetting, hr]
  have hw := (regWrite_setting hr ht).trans (settingWrite_m4 hboot hchg hok)
  rw [hput] at hw
  exact stagedWrite_accepted hs ho hw rfl

end

/-- Settles O33, branch by branch of the fabric's write: a setting goes to its master's slot or, by M4 during BOOT, to the register;
a plain register takes the write field by field; and what no field takes is refused. -/
theorem registerWrites : Obligations.RegisterWrites := by
  unfold Obligations.RegisterWrites
  intro s m o v hs hreg h4 k
  have ho := regOffset_of_target hreg h4
  refine ⟨?setting, ?boot, ?plain, ?fields, ?unassigned, ?barred⟩
  case setting =>
    intro r ix hr ht hm hb w
    refine ⟨fun hc => ?_, stagedWrite_new hs ho hr ht hm hb, stagedWrite_again hs ho hr ht hm hb⟩
    exact stagedWrite_refused hs ho ((regWrite_setting hr ht).trans (settingWrite_closed hm hb hc))
  case boot => exact fun r ix hr ht hb hchg hok => stagedWrite_boot hs ho hr ht hb hchg hok
  case plain =>
    intro hl p hp
    have hplain := plainRegs_plain p hp
    have hop : regOffset p.1 = true := by simp only [regPlain, Bool.and_eq_true] at hplain; exact hplain.1.1.1.1.1
    exact registerWrite_accepted hs hop (regWrite_plain hplain m v s) rfl hl
  case fields =>
    intro hl hbar r ix hr ht hwo hlow hhigh
    have hb := txnBarred_eq_false hbar
    refine ⟨fun hf => ?_, fun hf hn => ?_⟩
    · exact registerWrite_refused hs ho (regWrite_fixed hr ht hb hf hwo) (by simpa using hl)
    · exact registerWrite_accepted hs ho (regWrite_fields hr ht hb hf hwo hlow hhigh hn) rfl hl
  case unassigned => exact fun hl hr => registerWrite_refused hs ho (regWrite_unassigned hr) (by simpa using hl)
  case barred =>
    intro hl h1 h2 hb hr
    exact registerWrite_barred hs ho (regWrite_txnBarred hr (by simp [txnBarred, h1, h2, hb])) hl

end Sys2Proof.Machine
end

section
/-! SUPPORT. What leaves the leaves' state alone. The memory devices, the channels and notices change nothing of LEAF; an F2 or F3
action halts the leaves, and neither it nor the release of an event task asks for a step of the debugger. -/

namespace Sys2Proof.Machine

variable (s : State)

/-! Repetition. -/

@[simp] theorem forAll_leaf {α : Type} (l : List α) (f : State → α → State) (h : ∀ s x, (f s x).leaf = s.leaf) :
    (forAll l f s).leaf = s.leaf := forAll_keep (·.leaf) l f s h

@[simp] theorem forAll_stepReq {α : Type} (l : List α) (f : State → α → State)
    (h : ∀ s x, (f s x).leaf.stepReq = s.leaf.stepReq) : (forAll l f s).leaf.stepReq = s.leaf.stepReq :=
  forAll_keep (·.leaf.stepReq) l f s h

@[simp] theorem when_leaf (c : Bool) (f : State → State) (h : (f s).leaf = s.leaf) : (when c f s).leaf = s.leaf := by
  unfold when
  split
  · exact h
  · rfl

/-! An update of another field, whatever it puts there. -/

theorem leaf_setSpec (x : SpecState) : ({ s with spec := x } : State).leaf = s.leaf := rfl
theorem leaf_setTxn (x : TxnState) : ({ s with txn := x } : State).leaf = s.leaf := rfl
theorem leaf_setMm (x : MemState) : ({ s with mm := x } : State).leaf = s.leaf := rfl
theorem leaf_setFlt (x : FltState) : ({ s with flt := x } : State).leaf = s.leaf := rfl
theorem leaf_setHasp (x : HaspState) : ({ s with hasp := x } : State).leaf = s.leaf := rfl

@[simp] theorem takeFree_leaf : (takeFree s).2.leaf = s.leaf := rfl

/-! The memory devices (R190, R217, R224). -/

@[simp] theorem sendRec_leaf (r : String) : (sendRec r s).leaf = s.leaf := rfl

@[simp] theorem touchPage_leaf (p : Nat) : (touchPage p s).leaf = s.leaf := by
  have hc : (touchCopy p s).leaf = s.leaf := by unfold touchCopy; split <;> rfl
  unfold touchPage
  split
  · exact hc
  · exact hc

@[simp] theorem arrive_leaf (code cls : Nat) (mas : BitVec 4) : (arrive code cls mas s).leaf = s.leaf := by
  rw [arrive, bump_leaf]

@[simp] theorem refreshKnown_leaf : (refreshKnown s).leaf = s.leaf := by
  rw [refreshKnown, putFlag_leaf]

@[simp] theorem errAddr_leaf (a : Nat) (unc : Bool) : (errAddr a unc s).leaf = s.leaf := by
  rw [errAddr, putNat_leaf, putNat_leaf]

@[simp] theorem foundBad_leaf (a code : Nat) (mas : BitVec 4) : (foundBad a code mas s).leaf = s.leaf := by
  simp only [foundBad, arrive_leaf, refreshKnown_leaf, errAddr_leaf]
  split <;> rfl

@[simp] theorem mirrorWrite_leaf (a : Nat) (b : List Byte) : (mirrorWrite a b s).leaf = s.leaf := by
  simp only [mirrorWrite]
  split_ifs <;> rfl

@[simp] theorem healWords_leaf (a n : Nat) : (healWords a n s).leaf = s.leaf := by
  simp only [healWords]
  split <;> rfl

@[simp] theorem storeRaw_leaf (a : Nat) (b : List Byte) : (storeRaw a b s).leaf = s.leaf := by
  simp only [storeRaw]
  split <;> simp

@[simp] theorem unitStore_leaf (a : Nat) (b : List Byte) : (unitStore a b s).leaf = s.leaf := by
  simp only [unitStore, storeWhole]
  split <;> simp

/-! The units that watch memory (R49, R130, R131, R206), the undo log, and notices. -/

@[simp] theorem specHit_leaf (l : Nat) (i : Bool) : (specHit l i s).leaf = s.leaf := by rw [specHit, onSegs]

@[simp] theorem specDiscard_leaf : (specDiscard s).leaf = s.leaf := by
  unfold specDiscard
  split
  · rfl
  · simp only [specDrop]
    split_ifs <;> rfl

@[simp] theorem unverify_leaf : (unverify s).leaf = s.leaf := by
  unfold unverify
  split <;> rfl

@[simp] theorem watchDelta_leaf (a n : Nat) : (watchDelta a n s).leaf = s.leaf := by
  rw [watchDelta, when_leaf _ _ _ (unverify_leaf s)]

@[simp] theorem watchWrite_leaf (m : Master) (a : Nat) (b : List Byte) (l : List Nat) : (watchWrite m a b l s).leaf = s.leaf := by
  have hnote (c : Bool) (s : State) : (noteCheck c s).leaf = s.leaf := leaf_setSpec s _
  have hcode (i : Nat) (s : State) : (codeHit i s).leaf = s.leaf := leaf_setSpec s _
  have hjournal (s : State) : (journalWrite a b s).leaf = s.leaf := leaf_setTxn s _
  simp only [watchWrite]
  rw [forAll_leaf _ _ _ fun s l => specHit_leaf s l false, when_leaf _ _ _ (hnote _ _), when_leaf _ _ _ (hcode _ _),
    when_leaf _ _ _ (hjournal _), when_leaf _ _ _ (specDiscard_leaf _), watchDelta_leaf]

@[simp] theorem raise_notice_leaf (code : Nat) : (raise code 0 s).leaf = s.leaf := report_leaf _ _ _ s (by omega)

@[simp] theorem cleanPage_leaf (p : Nat) : (cleanPage p s).leaf = s.leaf := by
  simp only [cleanPage, judgeWear]
  split <;> simp [judgeForced]

@[simp] theorem awaitPage_leaf (a : Nat) : (awaitPage a s).leaf = s.leaf := by
  simp only [awaitPage]
  split
  · rfl
  · split
    · rw [cleanPage_leaf]
      split <;> simp
    · split <;> simp

@[simp] theorem undoStore_leaf : (undoStore s).leaf = s.leaf := by rw [undoStore_eq, storeRaw_leaf]

@[simp] theorem undoLog_leaf (m : Master) (a : Nat) : (undoLog m a s).leaf = s.leaf := by
  simp only [undoLog]
  split
  · rfl
  · split
    · split
      · rfl
      · rw [putFld_leaf, leaf_setMm, undoStore_leaf]
    · rw [leaf_setMm]

@[simp] theorem applyInject_leaf (m : Master) (a n : Nat) : (applyInject m a n s).leaf = s.leaf := by
  have hlost (w : Nat) (s : State) : (wordLost w s).leaf = s.leaf := forAll_leaf (onSegs _ s) _ _ fun s l => specHit_leaf s l false
  unfold applyInject
  split
  · split
    · exact when_leaf _ _ _ (hlost a _)
    · rfl
  · rfl

/-! The channels, the output enable and the fail states (R74, R179, R259, R310, R334). -/

@[simp] theorem refreshDio_leaf (n : Nat) : (refreshDio s n).leaf = s.leaf := by
  simp only [refreshDio]
  split <;> rfl

@[simp] theorem dioCommand_leaf (n : Nat) (v : Bool) : (dioCommand s n v).leaf = s.leaf := by simp [dioCommand]

@[simp] theorem refreshAo_leaf (n : Nat) : (refreshAo s n).leaf = s.leaf := by
  simp only [refreshAo, aoPut, putFlag_leaf, putFld_leaf]
  split <;> rfl

@[simp] theorem requeue_leaf (n : Nat) : (requeue n s).leaf = s.leaf := by
  simp only [requeue, putLane]
  split <;> simp [putQState, putLane]

@[simp] theorem refreshEnable_leaf : (refreshEnable s).leaf = s.leaf := by
  simp only [refreshEnable]
  split
  · simp
  · split <;> simp

@[simp] theorem setBolt_leaf (b : Bool) : (setBolt b s).leaf = s.leaf := by simp [setBolt]

@[simp] theorem setHwEnable_leaf (b : Bool) : (setHwEnable b s).leaf = s.leaf := by simp [setHwEnable]

@[simp] theorem failNow_leaf : (failNow s).leaf = s.leaf := by simp [failNow, captureFail, putDio, putAo]

@[simp] theorem releaseFail_leaf : (releaseFail s).leaf = s.leaf := rfl

/-! The actions of FLT (R375, R376): the leaves halt, and no step is asked for. -/

@[simp] theorem setReplaying_leaf (o : Option Nat) : (setReplaying o s).leaf = s.leaf := by
  simp only [setReplaying]
  split_ifs <;> rfl

@[simp] theorem haltLeaves_stepReq : (haltLeaves s).leaf.stepReq = s.leaf.stepReq := by simp [haltLeaves]

@[simp] theorem haltWard_leaf : (haltWard s).leaf = s.leaf := by
  unfold haltWard
  split <;> rfl

@[simp] theorem stopHb_leaf : (stopHb s).leaf = s.leaf := by
  simp only [stopHb]
  split_ifs <;> rfl

@[simp] theorem showCur3_leaf (code : Nat) : (showCur3 code s).leaf = s.leaf := by rw [showCur3, putNat_leaf]

@[simp] theorem dropBolt_leaf : (dropBolt s).leaf = s.leaf := rfl

@[simp] theorem f3Action_stepReq (code : Nat) : (f3Action code s).leaf.stepReq = s.leaf.stepReq := by
  unfold f3Action
  extract_lets s1 s2 s3 s4 f s5 s6
  have h2 : s2.leaf = s.leaf := by simp only [s2, s1, putFlag_leaf, showCur3_leaf]
  have h3 : s3.leaf.stepReq = s.leaf.stepReq := by simp only [s3, dropBolt_leaf, stopHb_leaf, haltWard_leaf, haltLeaves_stepReq, h2]
  have h5 : s5.leaf.stepReq = s.leaf.stepReq := by simp only [s5, s4, releaseFail_leaf, setHwEnable_leaf, setBolt_leaf, h3]
  split
  · exact h5
  · have h6 : s6.leaf = s5.leaf := putFld_leaf ..
    exact (congrArg LeafState.stepReq h6).trans h5

@[simp] theorem f2Action_stepReq (code : Nat) : (f2Action code s).leaf.stepReq = s.leaf.stepReq := by
  unfold f2Action cdrCourse
  extract_lets s1 h f s2 s3 s4
  have h1 : s1.leaf.stepReq = s.leaf.stepReq := by
    simp only [s1, haltWard_leaf, haltLeaves_stepReq, putNat_leaf, putFlag_leaf]
  have h2 : s2.leaf = s1.leaf := leaf_setFlt s1 _
  split
  · rw [releaseFail_leaf, setBolt_leaf, leaf_setHasp, stopHb_leaf, h2, h1]
  · rw [releaseFail_leaf, failNow_leaf, h2, h1]

@[simp] theorem report_stepReq (code cls : Nat) (mas : BitVec 4) : (report code cls mas s).leaf.stepReq = s.leaf.stepReq := by
  have hact (s : State) : (classAction code cls s).leaf.stepReq = s.leaf.stepReq := by
    unfold classAction
    split_ifs <;> simp
  simp only [report]
  rw [hact, leaf_setFlt, bump_leaf]

@[simp] theorem raise_stepReq (code cls : Nat) : (raise code cls s).leaf.stepReq = s.leaf.stepReq := report_stepReq s _ _ _

@[simp] theorem memStoreAt_stepReq (m : Master) (a : Nat) (b : List Byte) (l : List Nat) :
    (memStoreAt m a b l s).2.leaf.stepReq = s.leaf.stepReq := by
  simp only [memStoreAt]
  split_ifs <;> simp

/-! Instances and the run-ahead work that they take up (R133 to R135). -/

@[simp] theorem putInst_leaf (t : Nat) (i : Inst) : (putInst t i s).leaf = s.leaf := rfl

@[simp] theorem sendPos_leaf : (sendPos s).leaf = s.leaf := by
  unfold sendPos
  split <;> rfl

@[simp] theorem noteRun_leaf (t : Nat) : (noteRun t s).leaf = s.leaf := by
  have hrun : (runTime t s).2.leaf = s.leaf := by
    unfold runTime
    split
    · split <;> rfl
    · rfl
  simp only [noteRun]
  split <;> simp [hrun]

@[simp] theorem landWrite_stepReq (t : Nat) (w : Nat × DWord × Nat) : (landWrite t w s).leaf.stepReq = s.leaf.stepReq := by
  have hpoint (k : Nat) (v : Word) : (pointWrite t k v [] s).2.leaf.stepReq = s.leaf.stepReq := by
    simp only [pointWrite]
    split
    · split <;> simp
    · simp
  unfold landWrite
  split <;> simp [hpoint]

@[simp] theorem landWrites_stepReq (t : Nat) (l : List (Nat × DWord × Nat)) :
    (landWrites t l s).leaf.stepReq = s.leaf.stepReq := by
  induction l generalizing s with
  | nil => rfl
  | cons w r ih =>
    unfold landWrites
    split_ifs <;> simp [ih]

@[simp] theorem retireSeg_stepReq (t : Nat) (g : Seg) : (retireSeg t g s).leaf.stepReq = s.leaf.stepReq := by
  have hend (s : State) : (endRetired t s).leaf = s.leaf := by simp [endRetired]
  unfold retireSeg
  extract_lets s1 c s2 s3 s4
  have h1 : s1.leaf.stepReq = s.leaf.stepReq := landWrites_stepReq s t g.writes
  have h2 : s2.leaf = s1.leaf := by
    simp only [s2]
    split <;> rfl
  have h3 : s3.leaf = s2.leaf := when_leaf s2 _ _ (hend s2)
  have h4 : s4.leaf = s3.leaf := putPair_leaf ..
  rw [← h1, ← h2, ← h3, ← h4]

@[simp] theorem dropWrites_leaf (l : List Seg) : (dropWrites l s).leaf = s.leaf :=
  forAll_leaf s _ _ fun s _ => specHit_leaf s _ false

@[simp] theorem countReplay_leaf (t c n : Nat) : (countReplay t c n s).leaf = s.leaf := by
  unfold countReplay
  extract_lets s1 s2
  have h1 : s1.leaf = s.leaf := bumpBy_leaf ..
  have h2 : s2.leaf = s1.leaf := putPair_leaf ..
  split
  exact (leaf_setSpec s2 _).trans (h2.trans h1)

@[simp] theorem endWork_leaf (t : Nat) : (endWork t s).leaf = s.leaf := rfl

theorem processSegs_stepReq (t : Nat) (l : List Seg) (prev : Bool) :
    (processSegs t l prev s).leaf.stepReq = s.leaf.stepReq := by
  induction l generalizing prev s with
  | nil => rfl
  | cons g r ih =>
    have hready : (if recentChange s then verdictReady s else (true, s)).2.leaf = s.leaf := by split <;> rfl
    simp only [processSegs]
    split
    · rfl
    · split
      · rw [dropWrites_leaf, endWork_leaf, countReplay_leaf]
      · split
        · rw [ih, retireSeg_stepReq, hready]
        · rw [setReplaying_leaf, dropWrites_leaf, leaf_setSpec, countReplay_leaf, hready]

@[simp] theorem takeUp_stepReq (t : Nat) : (takeUp t s).leaf.stepReq = s.leaf.stepReq := by
  unfold takeUp
  split
  · simp [processSegs_stepReq]
  · rfl

@[simp] theorem startInst_stepReq (t : Nat) (i : Inst) : (startInst t i s).leaf.stepReq = s.leaf.stepReq := by
  simp only [startInst]
  split_ifs <;> simp

@[simp] theorem schedule_stepReq : (schedule s).leaf.stepReq = s.leaf.stepReq := by
  have hn (n : Nat) (s : State) : (scheduleN n s).leaf.stepReq = s.leaf.stepReq := by
    induction n generalizing s with
    | zero => rfl
    | succ n ih =>
      simp only [scheduleN]
      split
      · rfl
      · split
        · rfl
        · split
          · split_ifs <;> simp [ih]
          · simp [ih]
  exact hn 49 s

/-! Triggers of event tasks (R62, R63, R79). -/

@[simp] theorem noEntry_leaf (t : Nat) : (noEntry t s).leaf = s.leaf := by
  unfold noEntry
  split <;> simp

@[simp] theorem releaseTask_leaf (t n d r : Nat) (f : Bool) : (releaseTask t n d r f s).leaf = s.leaf := by
  unfold releaseTask
  split <;> simp

@[simp] theorem bumpMerged_leaf (t n : Nat) : (bumpMerged t n s).leaf = s.leaf := by
  rw [bumpMerged, bumpBy_leaf]

@[simp] theorem setPend_leaf (t : Nat) : (setPend t s).leaf = s.leaf := by
  unfold setPend
  split <;> rfl

@[simp] theorem eventRelease_stepReq (t n at' : Nat) : (eventRelease t n at' s).leaf.stepReq = s.leaf.stepReq := by
  unfold eventRelease
  split_ifs <;> simp

@[simp] theorem triggerTask_stepReq (t at' : Nat) : (triggerTask t at' s).leaf.stepReq = s.leaf.stepReq := by
  have htake (s : State) : (takeTrigger t at' s).leaf.stepReq = s.leaf.stepReq := by
    unfold takeTrigger
    split_ifs <;> simp
  have hlatch (s : State) : (latchTrigger t s).leaf = s.leaf := rfl
  simp only [triggerTask]
  split_ifs <;> simp [htake, hlatch]

@[simp] theorem triggerWhere_stepReq (p : Nat → Nat → Bool) (at' : Nat) :
    (triggerWhere p at' s).leaf.stepReq = s.leaf.stepReq := by
  unfold triggerWhere
  split <;> simp

/-! What a read of a register does beside showing it (R6, R303, R332, R410, R454). -/

@[simp] theorem filterTo_stepReq (n t : Nat) : (filterTo n t s).leaf.stepReq = s.leaf.stepReq := by
  have hchange (v : Bool) (t : Nat) (s : State) : (filteredChange n v t s).leaf.stepReq = s.leaf.stepReq := by
    simp only [filteredChange]
    rw [triggerWhere_stepReq]
    split
    · rw [putPair_leaf, putPair_leaf]
      split
      · rw [putNat_leaf, putFlag_leaf]
      · rw [putFlag_leaf]
    · rw [putFlag_leaf, putPair_leaf, putPair_leaf]
      split
      · rw [putNat_leaf, putFlag_leaf]
      · rw [putFlag_leaf]
  have hput (s : State) (c : DioCh) : (putDio s n c).leaf = s.leaf := rfl
  simp only [filterTo]
  split
  · rfl
  · split
    · split
      · rw [hchange, hput, putFlag_leaf, putFld_leaf]
      · rw [hput, putFlag_leaf, putFld_leaf]
    · rw [hput, putFlag_leaf, putFld_leaf]

@[simp] theorem convert_leaf (n : Nat) : (convert n s).leaf = s.leaf := by
  simp only [convert]
  split <;> rfl

@[simp] theorem pnlTo_leaf : (pnlTo s).leaf = s.leaf := by
  have hrow (s : State) (y : Nat) : (showRow s y).leaf = s.leaf := by simp [showRow]
  unfold pnlTo
  split
  · rfl
  · extract_lets n k s1 s2
    have h1 : s1.leaf = s.leaf := by
      simp only [s1]
      split
      · rfl
      · exact forAll_leaf s _ _ hrow
    have h2 : s2.leaf = s1.leaf := putFld_leaf ..
    rw [putFld_leaf]
    exact h2.trans h1

@[simp] theorem refreshRead_stepReq (o : Nat) : (refreshRead o s).leaf.stepReq = s.leaf.stepReq := by
  have hdio (n : Nat) : (dioMeasure n s).leaf = s.leaf := rfl
  have hbank (n : Nat) : (bankMeasure n s).leaf = s.leaf := rfl
  have hgroup (n : Nat) : (groupMeasure n s).leaf = s.leaf := rfl
  have hvin : (vinMeasure s).leaf = s.leaf := by unfold vinMeasure; split <;> rfl
  have hpass : (passLeft s).leaf = s.leaf := by unfold passLeft; split <;> rfl
  have hlink : (linkRecoveries s).leaf = s.leaf := by unfold linkRecoveries; split <;> rfl
  simp only [refreshRead]
  split_ifs <;> simp [hdio, hbank, hgroup, hvin, hpass, hlink]

@[simp] theorem regView_leaf (m : Master) (o : Nat) : (regView m o s).2.leaf = s.leaf := by
  have hview (hi : Bool) (sec : Nat) (raw : Option (Word × Word)) : (clkView hi sec raw s).2.leaf = s.leaf := by
    simp only [clkView]
    split
    · split_ifs <;> rfl
    · split_ifs <;> rfl
  have hclk (hi : Bool) : (clkRead (some m) hi s).2.leaf = s.leaf := by
    unfold clkRead
    split <;> exact hview ..
  have hsnap : (rtcSnap m s).2.leaf = s.leaf := by
    simp only [rtcSnap, subNow]
    split <;> rfl
  unfold regView
  split_ifs
  · exact hclk false
  · exact hclk true
  · exact hsnap
  · split <;> rfl

@[simp] theorem latchAll_leaf (m : Master) (l : List Nat) : (latchAll m l s).leaf = s.leaf := by
  induction l generalizing s with
  | nil => rfl
  | cons o r ih => simp [latchAll, ih]

/-- A read of a register asks for no step. -/
theorem regRead_stepReq (m : Master) (o : Nat) : (regRead m o s).2.leaf.stepReq = s.leaf.stepReq := by
  simp only [regRead]
  split
  · rfl
  · split <;> simp

end Sys2Proof.Machine
end

section
/-! Reads of register pairs and host requests (R6, R439, R440). -/

namespace Sys2Proof.Machine

section
variable {m : Master} {o : Nat} {s : State}

/-- R6: a read of the low half of a pair that is up to date and not latched shows it, and latches the high half. -/
theorem regRead_pairLow (hread : readable o = true) (hl : latchedBy o = [o + 4]) (hf : refreshRead o s = s)
    (hlo : regView m o s = (getReg s o, s)) (hhi : regView m (o + 4) s = (getReg s (o + 4), s))
    (hn : alGet s.latch (masterKey m o) = none) (hwo : ∀ r ix, regRow? o = some (r, ix) → r.wo = 0) :
    regRead m o s = (some (getReg s o), { s with latch := alPut s.latch (masterKey m (o + 4)) (getReg s (o + 4)) }) := by
  have hall : getReg s o &&& 4294967295#32 = getReg s o := BitVec.and_allOnes
  cases hr : regRow? o with
  | none => simp [regRead, hread, hf, hn, hlo, hl, latchAll, hhi, hr, hall]
  | some x => simp [regRead, hread, hf, hn, hlo, hl, latchAll, hhi, hr, hwo x.1 x.2 hr, hall]

/-- A read of a register succeeds: what the master gets, and the state that it leaves. -/
theorem busRead_reg {w : Word} {v : State} (ho : regOffset o = true) (hr : regRead m o s = (some w, v)) :
    busRead m (regBase + o) 4 s = (some w.toNat, v) := by
  have hsub : regBase + o - regBase = o := Nat.add_sub_cancel_left ..
  unfold busRead
  rw [accessOk_reg o ho, targetOf_reg o ho, hsub, hr]
  rfl

theorem pairLowRead_latches (hs : Runs s) (ho : regOffset o = true) (hread : readable o = true) (hl : latchedBy o = [o + 4])
    (hf : refreshRead o s = s) (hlo : regView m o s = (getReg s o, s)) (hhi : regView m (o + 4) s = (getReg s (o + 4), s))
    (hn : alGet s.latch (masterKey m o) = none) (hwo : ∀ r ix, regRow? o = some (r, ix) → r.wo = 0) :
    Ends (exec (.pairLowRead m o) s) fun u => u.answer = .data (regNat s o) ∧
      alGet u.latch (masterKey m (o + 4)) = some (getReg s (o + 4)) ∧ ∀ o', getReg u o' = getReg s o' := by
  have hr := readReg_eq m o s ho
  rw [regRead_pairLow hread hl hf hlo hhi hn hwo] at hr
  have hexec : exec (.pairLowRead m o) s = .next (readReg m o s) := act_quiet (readReg m o) hs.1 (by rw [hr]; exact hs.2)
  exact ⟨_, hexec, by rw [hr]; rfl, by rw [hr]; exact alGet_alPut_same .., fun o' => by rw [hr]; rfl⟩

end

section
variable {q : HostReq} {s : State}

theorem exec_hostRequest (hs : Runs s) : exec (.hostRequest q) s = .next (settleFaults (serveStep (hostAct q s))) :=
  act_runs (fun s => serveStep (hostAct q s)) hs.1

/-- A request with no effect. -/
theorem hostRequest_void (hs : Runs s) (hl : s.leaf.stepReq = false) (h : hostAct q s = s) : exec (.hostRequest q) s = .next s := by
  rw [exec_hostRequest hs, h, serveStep_idle hl, settleFaults_none _ hs.2]

/-- R440: what a successful read of one register through BAR0 returns to the host. -/
theorem hostAct_readReg {o : Nat} {w : Word} {v : State} (hup : flag s Reg.HOST_STAT 0 = true) (hc : q.cfg = none)
    (hb : q.bar2 = false) (hw : q.write = false) (hoff : q.off = o) (hlen : q.len = 4) (ho : regOffset o = true)
    (hr : regRead .m1 o s = (some w, v)) (hv : v.flt.arrived = []) :
    hostAct q s = { v with answer := .data w.toNat, host := { v.host with cpl := some (true, leBytes 4 w.toNat) } } := by
  have ht := targetOf_reg o ho
  have hlt : o < 0x100_0000 := by
    simp only [regOffset, Bool.and_eq_true, decide_eq_true_eq] at ho
    exact ho.1.2
  have h4 : (regBase + o) % 4 = 0 := by
    simp only [regOffset, Bool.and_eq_true, decide_eq_true_eq] at ho
    have := bases.1
    omega
  have haddr : windowAddr s q = some (regBase + o) := by simp only [windowAddr, hb, hoff, hlt, Bool.false_eq_true, if_true, if_false]
  have hsplit : splitRequest (regBase + o) q.len = [(regBase + o, 4)] := by
    rw [splitRequest, if_pos ht, hlen, if_pos ⟨h4, rfl⟩]
    rfl
  have hpieces : readPieces [(regBase + o, 4)] s = (true, leBytes 4 w.toNat ++ [], v) := by
    simp only [readPieces, busRead_reg ho hr, settleFaults_none v hv]
    rfl
  have hdata : leNat (leBytes 4 w.toNat) = w.toNat := by
    rw [leNat_leBytes]
    exact Nat.mod_eq_of_lt w.isLt
  simp only [hostAct, hup, hostAccess, hc, haddr, hw, hsplit, hpieces, countErr, hdata, List.append_nil, Bool.not_true,
    Bool.not_false, Bool.false_and, Bool.false_eq_true, if_true, if_false]

end

/-- Settles O34: a read of a low half by `regRead_pairLow`, a host's read by `hostAct_readReg`, which asks for no step
(`regRead_stepReq`). -/
theorem registerReads : Obligations.RegisterReads := by
  unfold Obligations.RegisterReads
  intro s m o q hs
  refine ⟨fun ht h4 hread hl hf hlo hhi hn hwo => ?_, fun hl hdown => ?_, fun hl hup hc => ⟨fun hout => ?_, ?_⟩⟩
  · exact pairLowRead_latches hs (regOffset_of_target ht h4) hread hl hf hlo hhi hn hwo
  · exact hostRequest_void hs hl (by simp [hostAct, hdown])
  · exact hostRequest_void hs hl (by simp [hostAct, hup, hostAccess, hc, hout])
  · intro hb hw hoff hlen ht h4 w v hr hv
    have hstep : v.leaf.stepReq = false := by
      have h := regRead_stepReq s .m1 o
      rw [hr] at h
      exact h.trans hl
    rw [exec_hostRequest hs, hostAct_readReg hup hc hb hw hoff hlen (regOffset_of_target ht h4) hr hv,
      serveStep_idle (by exact hstep), settleFaults_none _ (by exact hv)]

end Sys2Proof.Machine
end

section
/-! R30, R378: what every command leaves. -/

namespace Sys2Proof.Machine

/-- A command goes on in a next state, with no fault left waiting. -/
def GoesOn (o : Out) : Prop := ∃ t, o = .next t ∧ Settled t

/-- A command that acts while the device runs, as every instruction of a task does, whatever it makes of the state. -/
theorem goesOn_of_act {s u : State} {o : Out} (h : Settled s) (ho : o = .next (if alive s then settleFaults u else s)) : GoesOn o := by
  refine ⟨_, ho, ?_⟩
  split
  · exact settleFaults_arrived u
  · exact h

/-- A command that acts in every state of the device. -/
theorem goesOn_of_run {u : State} {o : Out} (ho : o = .next (settleFaults u)) : GoesOn o := ⟨_, ho, settleFaults_arrived u⟩

/-- R30: a pulse that is ignored, one whose effect is undefined, and one that starts a DRST. -/
theorem rstBPulse_goesOn {s : State} (h : Settled s) (ns : Nat) (hns : ns < 200 ∨ 1000 ≤ ns) : GoesOn (exec (.rstBPulse ns) s) := by
  show GoesOn (rstB ns s)
  rcases hns with hns | hns
  · exact ⟨s, if_pos hns, h⟩
  · rw [rstB, if_neg (by omega), if_neg (by omega)]
    exact goesOn_of_run rfl

theorem rstBPulse_undefined (s : State) {ns : Nat} (hlo : 200 ≤ ns) (hhi : ns < 1000) :
    exec (.rstBPulse ns) s = .fault .rstPulseUndefined := by
  show rstB ns s = _
  rw [rstB, if_neg (by omega), if_pos hhi]

/-- A clock loss is noticed in every state but POR. -/
theorem clockLoss_goesOn {s : State} (h : Settled s) (c : ClockId) : GoesOn (exec (.clockLoss c) s) := by
  show GoesOn (if s.boot.por then .next s else run (clockLoss c) s)
  split
  · exact ⟨s, rfl, h⟩
  · exact goesOn_of_run rfl

/-- Every command goes on but the pulse on RST_B that R30 leaves undefined. Most commands act only while the device runs; the supply,
the clock monitor, the calendar and the TAP act in every state. -/
theorem exec_goesOn {s : State} (h : Settled s) (i : Instr) (hi : ∀ ns, i = .rstBPulse ns → ns < 200 ∨ 1000 ≤ ns) :
    GoesOn (exec i s) := by
  cases i with
  | rstBPulse ns => exact rstBPulse_goesOn h ns (hi ns rfl)
  | clockLoss c => exact clockLoss_goesOn h c
  | powerOnReset | porRelease | pfail | bleederConnect | secondStep | oscStop | rtcTempSample | rtcCorrection => exact goesOn_of_run rfl
  | idcode | samplePreload | extest | clamp | highz | dbgacc | bypass | testLogicReset => exact goesOn_of_run rfl
  | _ => exact goesOn_of_act h rfl

/-- A step leaves no fault waiting, whether it runs a command or lets a period of the fabric clock pass. -/
theorem step_settled {s t : State} (h : Settled s) (ht : step s = .next t) : Settled t := by
  have next_settled {o : Out} (ho : GoesOn o) (e : o = .next t) : Settled t := by
    obtain ⟨u, hu, hset⟩ := ho
    cases hu.symm.trans e
    exact hset
  unfold step at ht
  split at ht
  · exact next_settled (goesOn_of_act h rfl) ht
  · rename_i c q _
    have hq : Settled { s with pending := q } := h
    refine next_settled (exec_goesOn hq c ?_) ht
    rintro ns rfl
    by_contra hns
    rw [rstBPulse_undefined _ (by omega) (by omega)] at ht
    cases ht

/-- Settles O4, command by command (`exec_goesOn`): whatever a command does, it ends with `settleFaults`, which leaves nothing
waiting (`settleFaults_arrived`). -/
theorem commandsGoOn : Obligations.CommandsGoOn := by
  unfold Obligations.CommandsGoOn
  refine ⟨fun i s h => ?_, fun s t => step_settled⟩
  by_cases hp : ∃ ns, i = .rstBPulse ns ∧ 200 ≤ ns ∧ ns < 1000
  · obtain ⟨ns, rfl, hlo, hhi⟩ := hp
    exact .inr ⟨ns, rfl, hlo, hhi, rstBPulse_undefined s hlo hhi⟩
  · refine .inl (exec_goesOn h i ?_)
    rintro ns rfl
    by_contra hns
    exact hp ⟨ns, rfl, by omega, by omega⟩

end Sys2Proof.Machine
end

section
/-! SUPPORT. Register pairs beside other registers, and commands that are a write of a unit's own register. -/

namespace Sys2Proof.Machine

section
variable (s : State)

theorem getReg_putPair_ne {o o' : Nat} (v : Nat) (h : o' ≠ o) (h' : o' ≠ o + 4) : getReg (putPair s o v) o' = getReg s o' := by
  rw [putPair, getReg_putNat_ne _ _ h', getReg_putNat_ne _ _ h]

theorem fld_congr {s t : State} {o : Nat} (h : getReg t o = getReg s o) (hi lo : Nat) : fld t o hi lo = fld s o hi lo := by
  rw [fld, h, fld]

theorem flag_congr {s t : State} {o : Nat} (h : getReg t o = getReg s o) (i : Nat) : flag t o i = flag s o i := by
  rw [flag, h, flag]

theorem pair_congr {s t : State} {o : Nat} (hlo : getReg t o = getReg s o) (hhi : getReg t (o + 4) = getReg s (o + 4)) :
    pair t o = pair s o := by rw [pair, regNat, regNat, hlo, hhi, pair, regNat, regNat]

theorem fld_putPair_ne {o o' : Nat} (v hi lo : Nat) (h : o' ≠ o) (h' : o' ≠ o + 4) : fld (putPair s o v) o' hi lo = fld s o' hi lo :=
  fld_congr (getReg_putPair_ne s v h h') hi lo

theorem pair_putPair_ne {o o' : Nat} (v : Nat) (h : o' ≠ o) (h1 : o' ≠ o + 4) (h2 : o' + 4 ≠ o) :
    pair (putPair s o v) o' = pair s o' :=
  pair_congr (getReg_putPair_ne s v h h1) (getReg_putPair_ne s v h2 (by omega))

theorem pair_putFld_ne {o o' : Nat} (hi lo x : Nat) (h : o' ≠ o) (h' : o' + 4 ≠ o) : pair (putFld s o hi lo x) o' = pair s o' :=
  pair_congr (getReg_putFld_ne s hi lo x h) (getReg_putFld_ne s hi lo x h')

theorem pair_lt (o : Nat) : pair s o < 2 ^ 64 := by
  have h1 := (getReg s o).isLt
  have h2 := (getReg s (o + 4)).isLt
  simp only [pair, regNat]
  omega

end

/-! The answer of a command. -/

/-- The state with the answer of a write that succeeds. -/
def answered (s : State) : State := { s with answer := .done }

section
variable (s : State)

theorem getReg_answered (o : Nat) : getReg (answered s) o = getReg s o := rfl

@[simp] theorem answered_answer : (answered s).answer = .done := by rw [answered]

@[simp] theorem answered_txn : (answered s).txn = s.txn := by rw [answered]

@[simp] theorem fld_answered (o hi lo : Nat) : fld (answered s) o hi lo = fld s o hi lo := fld_congr (getReg_answered s o) hi lo

@[simp] theorem flag_answered (o i : Nat) : flag (answered s) o i = flag s o i := flag_congr (getReg_answered s o) i

@[simp] theorem pair_answered (o : Nat) : pair (answered s) o = pair s o :=
  pair_congr (getReg_answered s o) (getReg_answered s (o + 4))

/-- A command that is accepted ends with its answer. -/
theorem ends_accepted {o : Out} {t : State} {p : State → Prop} (ho : o = accepted t) (hp : p (answered t)) : Ends o p := ⟨_, ho, hp⟩

end

/-- A register whose write its unit answers: it holds writable fields and no setting, and is no half of a RW pair. -/
def isCommand (o : Nat) : Bool :=
  regOffset o && (regRow? o).any (fun x => x.1.rwt = 0 && (x.1.rw ≠ 0 || x.1.wo ≠ 0 || x.1.w1c ≠ 0 || x.1.w1s ≠ 0 || x.1.rwo ≠ 0)) &&
    !rwPairLow o && !(4 ≤ o && rwPairLow (o - 4))

section
variable {m : Master} {o : Nat} {v : Word} {s : State} {x : Resp × State}

theorem isCommand_regOffset (h : isCommand o = true) : regOffset o = true := by
  simp only [isCommand, Bool.and_eq_true] at h
  exact h.1.1.1

/-- The unit's answer to a write of its command register is the fabric's. -/
theorem regWrite_command (h : isCommand o = true) (hb : txnBarred m o s = false) (hx : ownWrite m o v s = some x) :
    regWrite m o v s = x := by
  simp only [isCommand, Bool.and_eq_true, Option.any_eq_true_iff_get, Bool.not_eq_true', decide_eq_true_eq, Bool.or_eq_true,
    decide_not] at h
  obtain ⟨⟨⟨-, hr, ht, hw⟩, hp⟩, hp'⟩ := h
  obtain ⟨⟨r, ix⟩, hr'⟩ := Option.isSome_iff_exists.mp hr
  simp only [hr', Option.get_some] at ht hw
  have hw' : ¬ (r.rw = 0 ∧ r.wo = 0 ∧ r.w1c = 0 ∧ r.w1s = 0 ∧ r.rwo = 0) := by
    simp only [decide_eq_false_iff_not] at hw
    omega
  simp only [txnBarred] at hb
  simp only [ownWrite] at hx
  by_cases hlow : o < 0x100000
  · rw [if_pos hlow] at hx
    exact regWrite_low m o v s hlow r ix hr' ht hw' hp hp' hb x hx
  · rw [if_neg hlow] at hx
    exact regWrite_high m o v s hlow r ix hr' ht hw' hp hp' x hx

/-- Outside TXN no standby refuses its masters a command. -/
theorem txnBarred_outside (h : o < 0x20000 ∨ 0x20200 ≤ o) : txnBarred m o s = false :=
  txnBarred_eq_false fun h1 h2 => by omega

/-- A staged write that the register answers with a fault of its own in place of the notice. -/
theorem stagedWrite_raised {code : Nat} (hs : Runs s) (ho : regOffset o = true) (hw : regWrite m o v s = (.raised, raiseBy m code 0 s)) :
    exec (.stagedWrite m o v) s = refused m code s := by
  rw [exec_stagedWrite hs, writeReg_raised ho hw]
  rfl

end

end Sys2Proof.Machine
end

section
/-! The transaction slots (R36, R38, R39, R183). -/

namespace Sys2Proof.Machine

section
variable {s : State} {m : Master} {n : Nat}

/-! The registers of a slot. -/

theorem getReg_setTxn (s : State) (x : TxnState) (o : Nat) : getReg { s with txn := x } o = getReg s o := rfl

@[simp] theorem fld_rewrote (l : List Nat) (s : State) (o hi lo : Nat) : fld (rewrote l s) o hi lo = fld s o hi lo :=
  fld_congr (getReg_rewrote l s o) hi lo

@[simp] theorem pair_rewrote (l : List Nat) (s : State) (o : Nat) : pair (rewrote l s) o = pair s o :=
  pair_congr (getReg_rewrote l s o) (getReg_rewrote l s (o + 4))

theorem isCommand_slotCtl : ∀ n, n < 4 → isCommand (Reg.TXN_SLOT_CTL n) = true := by decide +kernel

theorem getReg_clearStaged (n : Nat) (s : State) (o : Nat) :
    getReg (clearStaged n s) o = getReg (putFlag (putFld s (Reg.TXN_SLOT_STAT n) 28 16 0) (Reg.TXN_SLOT_STAT n) 8 false) o :=
  getReg_setTxn _ _ o

theorem flt_setTxn (s : State) (x : TxnState) : ({ s with txn := x } : State).flt = s.flt := rfl

@[simp] theorem clearStaged_flt (n : Nat) (s : State) : (clearStaged n s).flt = s.flt := by
  refine (flt_setTxn _ _).trans ?_
  rw [putFlag_flt, putFld_flt]

@[simp] theorem clearStaged_txn (n : Nat) (s : State) : (clearStaged n s).txn = { s.txn with staged := alDel s.txn.staged n } := by
  have htxn (t : State) : ({ t with txn := { t.txn with staged := alDel t.txn.staged n } } : State).txn =
      { t.txn with staged := alDel t.txn.staged n } := rfl
  refine (htxn _).trans ?_
  rw [putFlag_txn, putFld_txn]

theorem fld_clearStaged (k n hi lo : Nat) (s : State) (hl : lo ≤ hi) (h : hi < 8) :
    fld (clearStaged k s) (Reg.TXN_SLOT_STAT n) hi lo = fld s (Reg.TXN_SLOT_STAT n) hi lo := by
  rw [fld_congr (getReg_clearStaged k s _)]
  simp (disch := omega) only [fld_putFlag_other, fld_putFld_other]

@[simp] theorem slotState_clearStaged (k n : Nat) (s : State) : slotState (clearStaged k s) n = slotState s n :=
  fld_clearStaged k n 1 0 s (by omega) (by omega)

theorem count_clearStaged (n : Nat) (s : State) : fld (clearStaged n s) (Reg.TXN_SLOT_STAT n) 28 16 = 0 := by
  rw [fld_congr (getReg_clearStaged n s _)]
  simp (disch := omega) only [fld_putFlag_other, fld_putFld_same]
  rfl

@[simp] theorem stagedOf_clearStaged (n : Nat) (s : State) : stagedOf (clearStaged n s) n = [] := by
  have h : (alDel s.txn.staged n).find? (fun p => p.1 = n) = none := by simp [alDel]
  rw [stagedOf, clearStaged_txn, alGet, h]
  rfl

/-- The registers of a slot that a BEGIN clears or sets beside STAT. -/
def begunPairs (n : Nat) (s : State) : State :=
  putPair (putPair (putPair (clearStaged n s) (Reg.TXN_SLOT_BEGSEQ_LO n) (txnSeq s)) (Reg.TXN_SLOT_APPSEQ_LO n) 0)
    (Reg.TXN_SLOT_CONFADDR_LO n) 0

/-- The state behind an accepted BEGIN. -/
def begun (n : Nat) (s : State) : State :=
  rewrote [n] (putFld (putFld (begunPairs n s) (Reg.TXN_SLOT_STAT n) 1 0 1) (Reg.TXN_SLOT_STAT n) 7 4 0)

theorem fld_begunPairs (n hi lo : Nat) (s : State) :
    fld (begunPairs n s) (Reg.TXN_SLOT_STAT n) hi lo = fld (clearStaged n s) (Reg.TXN_SLOT_STAT n) hi lo := by
  unfold begunPairs
  simp only [Reg.TXN_SLOT_STAT, Reg.TXN_SLOT_BEGSEQ_LO, Reg.TXN_SLOT_APPSEQ_LO, Reg.TXN_SLOT_CONFADDR_LO]
  simp (disch := omega) only [fld_putPair_ne]

theorem begun_stat (n : Nat) (s : State) :
    slotState (begun n s) n = 1 ∧ fld (begun n s) (Reg.TXN_SLOT_STAT n) 7 4 = 0 ∧ fld (begun n s) (Reg.TXN_SLOT_STAT n) 28 16 = 0 := by
  have hcount := (fld_begunPairs n 28 16 s).trans (count_clearStaged n s)
  simp (disch := omega) only [slotState, begun, fld_rewrote, fld_putFld_same, fld_putFld_other, hcount]
  simp

theorem begun_seqs (n : Nat) (s : State) :
    pair (begun n s) (Reg.TXN_SLOT_BEGSEQ_LO n) = txnSeq s ∧ pair (begun n s) (Reg.TXN_SLOT_APPSEQ_LO n) = 0 := by
  have hseq : txnSeq s % 2 ^ 64 = txnSeq s := Nat.mod_eq_of_lt (pair_lt s _)
  simp only [begun, pair_rewrote, begunPairs, Reg.TXN_SLOT_STAT, Reg.TXN_SLOT_BEGSEQ_LO, Reg.TXN_SLOT_APPSEQ_LO, Reg.TXN_SLOT_CONFADDR_LO]
  simp (disch := omega) only [pair_putFld_ne, pair_putPair_ne, pair_putPair, hseq]
  simp

/-- The state behind an accepted COMMIT. -/
def committed (n : Nat) (s : State) : State :=
  let t := putFld s (Reg.TXN_SLOT_STAT n) 1 0 2
  rewrote (if isChange (stagedOf t n) then [n, 4 + n, 10] else [n, 4 + n])
    { t with txn := { t.txn with order := t.txn.order ++ [(n, some t.raw)] } }

theorem rewrote_flt (l : List Nat) (s : State) : (rewrote l s).flt = s.flt := rfl

theorem rewrote_order (l : List Nat) (s : State) : (rewrote l s).txn.order = s.txn.order := rfl

theorem committed_spec (n : Nat) (s : State) : (committed n s).flt = s.flt ∧ stagedOf (committed n s) n = stagedOf s n ∧
    (committed n s).txn.order = s.txn.order ++ [(n, some s.raw)] := by
  have hqueue (t : State) : stagedOf { t with txn := { t.txn with order := t.txn.order ++ [(n, some t.raw)] } } n = stagedOf t n ∧
      ({ t with txn := { t.txn with order := t.txn.order ++ [(n, some t.raw)] } } : State).txn.order =
        t.txn.order ++ [(n, some t.raw)] := ⟨rfl, rfl⟩
  refine ⟨?_, ?_, ?_⟩
  · rw [committed, rewrote_flt]
    exact (flt_setTxn _ _).trans (putFld_flt ..)
  · rw [committed, stagedOf_rewrote, (hqueue _).1, stagedOf, putFld_txn, ← stagedOf]
  · rw [committed, rewrote_order, (hqueue _).2, putFld_txn, putFld_raw]

theorem slotState_committed (n : Nat) (s : State) : slotState (committed n s) n = 2 :=
  by
  rw [slotState, committed, fld_rewrote]
  exact (fld_congr (getReg_setTxn _ _ _) 1 0).trans (fld_putFld_same s (Reg.TXN_SLOT_STAT n) 1 0 2 (by omega) (by omega))

/-- A slot that was not pending ends without a cause of interrupt. -/
theorem endSlot_quiet {res : Nat} (h : slotState s n ≠ 2) : endSlot n res s = rewrote [n, 4 + n]
    (let t := putFld (putFld s (Reg.TXN_SLOT_STAT n) 1 0 0) (Reg.TXN_SLOT_STAT n) 7 4 res
     { t with txn := { t.txn with order := alDel t.txn.order n } }) := by simp [endSlot, h]

/-- A slot that was not pending and ends is IDLE with its result. -/
theorem endSlot_stat {res : Nat} (h : slotState s n ≠ 2) (hres : res < 16) :
    slotState (endSlot n res s) n = 0 ∧ fld (endSlot n res s) (Reg.TXN_SLOT_STAT n) 7 4 = res ∧
      stagedOf (endSlot n res s) n = stagedOf s n ∧ (endSlot n res s).flt = s.flt := by
  have hput (hi lo : Nat) : fld (endSlot n res s) (Reg.TXN_SLOT_STAT n) hi lo =
      fld (putFld (putFld s (Reg.TXN_SLOT_STAT n) 1 0 0) (Reg.TXN_SLOT_STAT n) 7 4 res) (Reg.TXN_SLOT_STAT n) hi lo := by
    rw [endSlot_quiet h, fld_rewrote]
    exact fld_congr (getReg_setTxn _ _ _) hi lo
  refine ⟨?_, ?_, ?_, ?_⟩
  · simp (disch := omega) only [slotState, hput, fld_putFld_same, fld_putFld_other]
    rfl
  · simp (disch := omega) only [hput, fld_putFld_same]
    exact Nat.mod_eq_of_lt hres
  · have hdel (t : State) (l : List (Nat × Option Nat)) :
        stagedOf { t with txn := { t.txn with order := l } } n = stagedOf t n := rfl
    rw [endSlot_quiet h, stagedOf_rewrote, hdel, stagedOf, putFld_txn, putFld_txn, ← stagedOf]
  · rw [endSlot_quiet h, rewrote_flt]
    refine (flt_setTxn _ _).trans ?_
    rw [putFld_flt, putFld_flt]

/-- The state behind an accepted ROLLBACK of an open slot. -/
def rolledBack (n : Nat) (s : State) : State := endSlot n resRolledBack (clearStaged n s)

@[simp] theorem slotState_answered (s : State) (n : Nat) : slotState (answered s) n = slotState s n := fld_answered s _ 1 0

@[simp] theorem stagedOf_answered (s : State) (n : Nat) : stagedOf (answered s) n = stagedOf s n := by
  rw [stagedOf, answered_txn, stagedOf]

theorem slotState_grownStaged (k : Nat) (l : List (Nat × Word)) (s : State) : slotState (grownStaged k l s) k = slotState s k := by
  rw [slotState, grownStaged, fld_rewrote, fld_putFld_other _ _ _ _ _ _ _ _ (by omega) (by omega) (by omega) (by omega)]
  exact fld_congr (getReg_withStaged k l s _) 1 0

@[simp] theorem begun_flt (n : Nat) (s : State) : (begun n s).flt = s.flt := by
  rw [begun, rewrote_flt, putFld_flt, putFld_flt, begunPairs, putPair_flt, putPair_flt, putPair_flt, clearStaged_flt]

@[simp] theorem begun_order (n : Nat) (s : State) : (begun n s).txn.order = s.txn.order := by
  rw [begun, rewrote_order, putFld_txn, putFld_txn, begunPairs, putPair_txn, putPair_txn, putPair_txn, clearStaged_txn]

@[simp] theorem stagedOf_begun (n : Nat) (s : State) : stagedOf (begun n s) n = [] := by
  rw [begun, stagedOf_rewrote, stagedOf, putFld_txn, putFld_txn, begunPairs, putPair_txn, putPair_txn, putPair_txn, ← stagedOf,
    stagedOf_clearStaged]

/-! What the commands come to. -/

theorem ownWrite_slotCtl (h : n < 4) (m : Master) (v : Word) (s : State) :
    ownWrite m (Reg.TXN_SLOT_CTL n) v s = some (slotWrite m n v.toNat s) := by
  have hlt : Reg.TXN_SLOT_CTL n < 0x100000 := by simp only [Reg.TXN_SLOT_CTL]; omega
  have hsys : Reg.TXN_SLOT_CTL n ≠ Reg.SYS_RESET := by simp only [Reg.TXN_SLOT_CTL, Reg.SYS_RESET]; omega
  have hflt : Reg.TXN_SLOT_CTL n ≠ Reg.FLT_CMD := by simp only [Reg.TXN_SLOT_CTL, Reg.FLT_CMD]; omega
  have hctl : (decide (0x20100 ≤ Reg.TXN_SLOT_CTL n) && decide (Reg.TXN_SLOT_CTL n < 0x20200) &&
      decide (Reg.TXN_SLOT_CTL n % 0x40 = 0)) = true := by
    simp only [Bool.and_eq_true, decide_eq_true_eq]
    simp only [Reg.TXN_SLOT_CTL]
    omega
  have hn : (Reg.TXN_SLOT_CTL n - 0x20100) / 0x40 = n := by simp only [Reg.TXN_SLOT_CTL]; omega
  rw [ownWrite, if_pos hlt, lowWrite, if_neg hsys, if_neg hflt, if_pos hctl, hn]

theorem regWrite_slotCtl (h : n < 4) (hb : standbyBars m s = false) (v : Word) :
    regWrite m (Reg.TXN_SLOT_CTL n) v s = match slotCommand n (v.toNat % 4) s with
      | (true, s) => (.ok, s)
      | (false, s) => (.raised, raiseBy m 0x0203 0 s) := by
  rw [regWrite_command (isCommand_slotCtl n h) (txnBarred_eq_false fun _ _ => hb) (ownWrite_slotCtl h m v s), slotWrite, hb]
  rfl

/-! What a slot makes of a command, by its state. -/

theorem slotCommand_begin (h : slotState s n = 0) : slotCommand n 1 s = (true, begun n s) := if_pos h

theorem slotCommand_begin_late (h : slotState s n ≠ 0) : slotCommand n 1 s = (false, s) := if_neg h

theorem slotCommand_commit (h : slotState s n = 1) : slotCommand n 2 s = (true, committed n s) := if_pos h

theorem slotCommand_commit_late (h : slotState s n ≠ 1) : slotCommand n 2 s = (false, s) := if_neg h

theorem slotCommand_rollback (h : slotState s n = 1) : slotCommand n 3 s = (true, rolledBack n s) := if_pos h

theorem slotCommand_rollback_late (h : slotState s n = 2) : slotCommand n 3 s = (false, s) := by simp [slotCommand, h]

theorem slotCommand_rollback_idle (h : slotState s n = 0) : slotCommand n 3 s = (true, s) := by simp [slotCommand, h]

theorem rolledBack_spec (h : slotState s n = 1) : slotState (rolledBack n s) n = 0 ∧
    fld (rolledBack n s) (Reg.TXN_SLOT_STAT n) 7 4 = 4 ∧ stagedOf (rolledBack n s) n = [] ∧ (rolledBack n s).flt = s.flt := by
  obtain ⟨h1, h2, h3, h4⟩ := endSlot_stat (s := clearStaged n s) (n := n) (res := resRolledBack) (by simp [h]) (by decide)
  exact ⟨h1, h2, h3.trans (stagedOf_clearStaged n s), h4.trans (clearStaged_flt n s)⟩

variable (hs : Runs s) (hb : standbyBars m s = false)

include hs hb

/-- A command that its slot takes. -/
theorem slotCommand_accepted {v : Word} {k : Nat} {t : State} (h : n < 4) (hv : v.toNat % 4 = k)
    (hc : slotCommand n k s = (true, t)) (ht : t.flt = s.flt) : exec (.stagedWrite m (Reg.TXN_SLOT_CTL n) v) s = accepted t :=
  stagedWrite_accepted hs (isCommand_regOffset (isCommand_slotCtl n h)) (by rw [regWrite_slotCtl h hb, hv, hc]) ht

/-- A command out of order: BADCMD. -/
theorem slotCommand_refused {v : Word} {k : Nat} (h : n < 4) (hv : v.toNat % 4 = k) (hc : slotCommand n k s = (false, s)) :
    exec (.stagedWrite m (Reg.TXN_SLOT_CTL n) v) s = refused m 0x0203 s :=
  stagedWrite_raised hs (isCommand_regOffset (isCommand_slotCtl n h)) (by rw [regWrite_slotCtl h hb, hv, hc])

end

/-- FRM.WIN takes every value. -/
theorem stageOk_win (m : Master) (v : Nat) (s : State) : stageOk m Reg.FRM_WIN v s = true := by
  have hne : ∀ o ∈ [Reg.FRM_CFG, Reg.HASP_CFG, Reg.HASP_XFERCFG, Reg.OLC_CHG, Reg.RET_CFG, Reg.PNL_CFG, Reg.PNL_JBASE_LO,
      Reg.PNL_JBASE_HI], ¬ 0x30008 = o := by decide
  simp only [List.forall_mem_cons] at hne
  simp [stageOk, Reg.FRM_WIN, hne]

theorem grownStaged_flt (k : Nat) (l : List (Nat × Word)) (s : State) : (grownStaged k l s).flt = s.flt := by
  rw [grownStaged, rewrote_flt, putFld_flt, withStaged]

theorem regRow_win : (regRow? Reg.FRM_WIN).any (fun x => x.1.rwt = 0xFFFFF) = true := by decide +kernel

/-- R36: FRM.WIN is staged whatever its value. -/
theorem stagedWrite_win {s : State} {m : Master} {v : Word} (hs : Runs s) (hm : Master.num m < 4) (hb : standbyBars m s = false)
    (hopen : slotState s (Master.num m) = 1) (hl : stagedOf s (Master.num m) = []) :
    exec (.stagedWrite m Reg.FRM_WIN v) s = accepted (grownStaged (Master.num m) [(Reg.FRM_WIN, v &&& 0xFFFFF)] s) := by
  obtain ⟨⟨r, ix⟩, hr, ht⟩ := (Option.any_eq_true ..).mp regRow_win
  replace ht : r.rwt = 0xFFFFF := of_decide_eq_true ht
  have hm4 : m ≠ .m4 := by rintro rfl; exact absurd hm (by decide)
  have hw := (regWrite_setting (v := v) (s := s) (m := m) hr (by rw [ht]; decide)).trans
    (settingWrite_new hm4 hb hopen (stageOk_win m _ s) (by simp [hl]) (by simp [hl]))
  rw [hl, ht] at hw
  exact stagedWrite_accepted hs (by decide) hw (grownStaged_flt ..)

/-- Settles O32 by the slot's answer to each command (`slotCommand_accepted`, `slotCommand_refused`). -/
theorem transactionCommands : Obligations.TransactionCommands := by
  unfold Obligations.TransactionCommands
  intro s m slot hs hb n st
  have hn : n < 4 := slot.isLt
  have hbegin : exec (.txnBegin m slot) s = exec (.stagedWrite m (Reg.TXN_SLOT_CTL n) 1) s := rfl
  have hcommit : exec (.txnCommit m slot) s = exec (.stagedWrite m (Reg.TXN_SLOT_CTL n) 2) s := rfl
  have hroll : exec (.txnRollback m slot) s = exec (.stagedWrite m (Reg.TXN_SLOT_CTL n) 3) s := rfl
  rw [hbegin, hcommit, hroll]
  clear hbegin hcommit hroll
  refine ⟨fun h0 => ?begin, fun h1 => ⟨?commit, ?rollback⟩, fun h0 => ?_, fun h1 => ?_, fun h2 => ?_, fun h0 => ?_, ?staged⟩
  case begin =>
    obtain ⟨h1, h2, h3⟩ := begun_stat n s
    obtain ⟨h4, h5⟩ := begun_seqs n s
    refine ends_accepted (slotCommand_accepted hs hb hn rfl (slotCommand_begin h0) (begun_flt n s)) ?_
    simp [h1, h2, h3, h4, h5]
  case commit =>
    obtain ⟨h2, h3, h4⟩ := committed_spec n s
    refine ends_accepted (slotCommand_accepted hs hb hn rfl (slotCommand_commit h1) h2) ?_
    simp [slotState_committed, h3, h4]
  case rollback =>
    obtain ⟨h2, h3, h4, h5⟩ := rolledBack_spec h1
    refine ends_accepted (slotCommand_accepted hs hb hn rfl (slotCommand_rollback h1) h5) ?_
    simp [h2, h3, h4]
  · exact slotCommand_refused hs hb hn rfl (slotCommand_begin_late h0)
  · exact slotCommand_refused hs hb hn rfl (slotCommand_commit_late h1)
  · exact slotCommand_refused hs hb hn rfl (slotCommand_rollback_late h2)
  · exact slotCommand_accepted hs hb hn rfl (slotCommand_rollback_idle h0) rfl
  case staged =>
    intro v hm hopen hl
    have hopen' : slotState s (Master.num m) = 1 := hm ▸ hopen
    have hl' : stagedOf s (Master.num m) = [] := hm ▸ hl
    have hwin : Reg.FRM_WIN ≠ Reg.TXN_SLOT_STAT n := by simp only [Reg.FRM_WIN, Reg.TXN_SLOT_STAT]; omega
    refine ends_accepted (stagedWrite_win hs (hm ▸ hn) hb hopen' hl') ?_
    have hst : slotState s n = 1 := hopen
    rw [← hm]
    simp [hst, slotState_grownStaged, getReg_grownStaged _ _ _ hwin, getReg_answered]

end Sys2Proof.Machine
end

section
/-! Two statements that fail on a concrete state: DBGACC on a standby (R183, R445), and a clock loss beside an uncorrectable word
(R28, R216, R259). -/

namespace Sys2Proof.Machine

/-- The codes of the faults that stand in FLT's queue once a command is done. -/
def codesAfter : Out → List Nat
  | .next u => u.flt.queue.map (·.code.toNat)
  | _ => []

/-- A running module in JOINING, whose TAP has selected DBGACC. -/
def joiningDebug : State :=
  { State.reset with boot := { State.reset.boot with por := false }, regs := [(Reg.HASP_STAT, 3)], tap := { ir := 8 } }

theorem joiningDebug_roomy : Roomy joiningDebug ∧ joiningDebug.leaf.stepReq = false := ⟨⟨⟨rfl, rfl⟩, by decide⟩, rfl⟩

/-- An address of the image window behind the IX region, which no target has. -/
def imageGap : BitVec 40 := 0x4_0000_8000

/-- What Update-DR takes for a write of 0 at `imageGap`. -/
def gapWrite : BitVec 80 := BitVec.ofNat 80 (2 + imageGap.toNat * 2 ^ 2 + (0 : BitVec 32).toNat * 2 ^ 42)

/-- R183: the standby refuses M3 the write with STBY_WRITE. -/
theorem gapWrite_standby : codesAfter (exec (.dbgaccUpdate gapWrite) joiningDebug) = [0x060C] := by decide +kernel

/-- The state that the statement asks for behind an access of unmapped memory: the notice of R22, and STATUS 2. -/
def gapNoticed : State :=
  let v := raiseBy .m3 0x01FE 0 joiningDebug
  { v with tap := { v.tap with status := 2, rdata := 0 } }

theorem gapNoticed_codes : codesAfter (.next (settleFaults gapNoticed)) = [0x01FE] := by decide +kernel

/-- Refutes O39: in JOINING and in SHADOW a write by M3 into a gap of the image window is refused with STBY_WRITE (R183) and not with
the notice of unmapped memory, as in `joiningDebug`. -/
theorem not_debugPort : ¬ Obligations.DebugPort := by
  unfold Obligations.DebugPort
  rintro ⟨-, -, h⟩
  obtain ⟨-, -, hgap⟩ := h joiningDebug imageGap 0 joiningDebug_roomy.1 joiningDebug_roomy.2
  have hexec : exec (.dbgaccUpdate gapWrite) joiningDebug = .next (settleFaults gapNoticed) := hgap rfl (by decide) 2 (.inr rfl)
  have hcodes := gapWrite_standby
  rw [hexec, gapNoticed_codes] at hcodes
  exact absurd hcodes (by decide)

/-- A running module whose outputs are enabled; its lane 0 has a queued request on the wire, and the word of that request's state is
uncorrectable. -/
def sendingBad : State :=
  { State.reset with boot := { State.reset.boot with por := false }, regs := [(Reg.HASP_STAT, 0x500)],
                     pads := { State.reset.pads with boltOut := true, pfailB := true },
                     lanes := [(0, { wire := some (.queue 0 0) })], ecc := [(0, .double)] }

/-- R216, R259: with the output enable the request leaves the wire, and writing it back as QUEUED finds the word. -/
theorem clockLoss_sendingBad : codesAfter (exec (.clockLoss .leaf) sendingBad) = [0x0702] := by decide +kernel

/-- Refutes O24: a clock loss can leave a fault in the queue beside the F3 state that it enters, as in `sendingBad`: a lane's frame
goes back to its queue in memory (R259), in a word that is found uncorrectable (R216). -/
theorem not_resetCommands : ¬ Obligations.ResetCommands := by
  unfold Obligations.ResetCommands
  intro h
  obtain ⟨-, -, -, -, -, -, hloss⟩ := h sendingBad
  obtain ⟨u, hu, -, -, -, -, -, -, -, hqueue⟩ := hloss rfl rfl .leaf
  have hcodes := clockLoss_sendingBad
  rw [hu, codesAfter, hqueue] at hcodes
  exact absurd hcodes (by decide)

end Sys2Proof.Machine
end

section
/-! SUPPORT. What `Noted` leaves alone, and a command whose one fault is a notice or an F1 fault. -/

namespace Sys2Proof.Machine

section
variable {s t : State}

theorem Noted.leaf_eq (h : Noted s t) : t.leaf = s.leaf := by
  have h1 := congrArg State.leaf h.rest
  exact h1

theorem Noted.frm_eq (h : Noted s t) : t.frm = s.frm := by
  have h1 := congrArg State.frm h.rest
  exact h1

theorem Noted.answer_eq (h : Noted s t) : t.answer = s.answer := by
  have h1 := congrArg State.answer h.rest
  exact h1

theorem Noted.fld_eq (h : Noted s t) {o : Nat} (ho : faultReg o = false) (hi lo : Nat) : fld t o hi lo = fld s o hi lo :=
  fld_congr (h.regs o ho) hi lo

theorem Noted.flag_eq (h : Noted s t) {o : Nat} (ho : faultReg o = false) (i : Nat) : flag t o i = flag s o i :=
  flag_congr (h.regs o ho) i

end

/-- One notice or F1 fault, raised at any place of a command that raises nothing else: FLT enters it, and changes nothing else. -/
theorem settle_one {s v : State} {code cls : Nat} {mas : BitVec 4} (hs : Roomy s) (hf : v.flt = (report code cls mas s).flt)
    (hc : cls ≤ 1) (hcode : code < 2 ^ 16) (hq : code ≠ codeQueueFull) :
    Noted v (settleFaults v) ∧ Queued code cls (settleFaults v) := by
  have hrep := report_low code cls mas s hc
  set a : Arrival := { code := BitVec.ofNat 16 code, cls := Fin.ofNat 4 cls, esc := false, master := mas } with ha
  have harr : v.flt.arrived = [a] := by rw [hf, hrep]; simp [hs.1.2]
  have hlen : v.flt.queue.length ≤ 48 := by rw [hf, hrep]; exact hs.2
  have hcls : a.cls.val = cls := by simp only [ha, Fin.ofNat]; omega
  have hcd : a.code.toNat = code := by rw [ha, BitVec.toNat_ofNat, Nat.mod_eq_of_lt hcode]
  have hsmall : ∀ b ∈ v.flt.arrived, Small b := by
    simp only [harr, List.mem_singleton, forall_eq]
    exact ⟨hcls.symm ▸ hc, rfl, hcd.symm ▸ hq⟩
  obtain ⟨hn, he⟩ := settleFaults_small v hsmall (by rw [harr, List.length_singleton]; omega)
  obtain ⟨e, he1, he2, he3⟩ := he a (by simp [harr])
  exact ⟨hn, e, he1, by rw [he2, hcd], by rw [he3, hcls]⟩

end Sys2Proof.Machine
end

section
/-! SUPPORT. The states of the leaves in LEAF.STAT, and what a leaf that leaves the vote, a failure and a count of the vote change
(R148, R149, R159, R160). -/

namespace Sys2Proof.Machine

section
variable (s : State)

/-! LEAF.STAT. -/

theorem leafSt_putLeafSt_same {l v : Nat} (hl : l < 3) (hv : v < 8) : leafSt (putLeafSt l v s) l = v := by
  rw [leafSt, putLeafSt, fld_putFld_same _ _ _ _ _ (by omega) (by omega), show 4 * l + 2 - 4 * l + 1 = 3 by omega]
  exact Nat.mod_eq_of_lt hv

theorem leafSt_putLeafSt_ne {l l' : Nat} (v : Nat) (hl : l < 3) (h : l' ≠ l) : leafSt (putLeafSt l v s) l' = leafSt s l' :=
  fld_putFld_other _ _ _ _ _ _ _ _ (by omega) (by omega) (by omega) (by omega)

theorem getReg_putLeafSt_ne {o : Nat} (l v : Nat) (h : o ≠ Reg.LEAF_STAT) : getReg (putLeafSt l v s) o = getReg s o :=
  getReg_putFld_ne s _ _ _ h

theorem getReg_leafEvent_ne {o : Nat} (c l : Nat) (h : o ≠ Reg.LEAF_LASTEV) : getReg (leafEvent c l s) o = getReg s o :=
  getReg_putNat_ne s _ h

theorem leafEvent_flt (c l : Nat) : (leafEvent c l s).flt = s.flt := putNat_flt ..

theorem leafEvent_leaf (c l : Nat) : (leafEvent c l s).leaf = s.leaf := putNat_leaf ..

theorem putLeafSt_flt (l v : Nat) : (putLeafSt l v s).flt = s.flt := putFld_flt ..

theorem putLeafSt_leaf (l v : Nat) : (putLeafSt l v s).leaf = s.leaf := putFld_leaf ..

theorem discardFor_beside (f : Nat) : Beside s (discardFor f s) := by
  unfold discardFor
  split
  · exact (specDiscard_keeps s).1
  · exact beside_refl s

theorem discardFor_leaf (f : Nat) : (discardFor f s).leaf = s.leaf := by
  unfold discardFor
  split
  · exact specDiscard_leaf s
  · rfl

/-- Three leaves whose states are known. -/
theorem inVote_of {t : State} (p : Nat → Bool) (h : ∀ l, l < 3 → (leafSt t l = 0 ↔ p l = true)) :
    inVote t = [0, 1, 2].filter p := by
  refine List.filter_congr fun l hl => ?_
  have hl3 : l < 3 := by simp only [List.mem_cons, List.not_mem_nil, or_false] at hl; omega
  rw [Bool.eq_iff_iff, decide_eq_true_eq]
  exact h l hl3

theorem leafSt_of_inVote {l : Nat} (h : inVote s = [0, 1, 2]) (hl : l < 3) : leafSt s l = 0 := by
  have hmem : l ∈ inVote s := by rw [h]; simp only [List.mem_cons, List.not_mem_nil, or_false]; omega
  simpa using (List.mem_filter.mp hmem).2

/-! A leaf leaves the vote. -/

/-- The registers that follow the leaves and the run-ahead work for them. -/
def leafReg (o : Nat) : Bool := o = Reg.LEAF_STAT || o = Reg.LEAF_LASTEV || storeReg o

/-- The state of the registers of LEAF before run-ahead work is discarded. -/
theorem leaveVote_eq (c l : Nat) : ∃ t : State, t.flt = s.flt ∧ t.leaf = { s.leaf with loadFrom := alDel s.leaf.loadFrom l } ∧
    (∀ o, getReg t o = getReg (leafEvent c l (putLeafSt l 1 s)) o) ∧ leaveVote c l s = discardFor (nextCc t + 1) t := by
  have hset (x : LeafState) : (leafEvent c l (putLeafSt l 1 { s with leaf := x })).flt = s.flt ∧
      (leafEvent c l (putLeafSt l 1 { s with leaf := x })).leaf = x := by
    rw [leafEvent_flt, putLeafSt_flt, leafEvent_leaf, putLeafSt_leaf]
    exact ⟨rfl, rfl⟩
  exact ⟨_, (hset _).1, (hset _).2, fun o => rfl, rfl⟩

theorem leaveVote_flt (c l : Nat) : (leaveVote c l s).flt = s.flt := by
  obtain ⟨t, hf, -, -, he⟩ := leaveVote_eq s c l
  rw [he, (discardFor_beside t _).flt, hf]

theorem leaveVote_leaf (c l : Nat) : (leaveVote c l s).leaf = { s.leaf with loadFrom := alDel s.leaf.loadFrom l } := by
  obtain ⟨t, -, hl, -, he⟩ := leaveVote_eq s c l
  rw [he, discardFor_leaf, hl]

theorem leaveVote_stat (c l : Nat) : getReg (leaveVote c l s) Reg.LEAF_STAT = getReg (putLeafSt l 1 s) Reg.LEAF_STAT := by
  obtain ⟨t, -, -, hr, he⟩ := leaveVote_eq s c l
  rw [he, (discardFor_beside t _).regs _ (by decide), hr, getReg_leafEvent_ne _ _ _ (by decide)]

theorem leaveVote_regs {o : Nat} (c l : Nat) (h : leafReg o = false) : getReg (leaveVote c l s) o = getReg s o := by
  simp only [leafReg, Bool.or_eq_false_iff, decide_eq_false_iff_not] at h
  obtain ⟨⟨h1, h2⟩, h3⟩ := h
  obtain ⟨t, -, -, hr, he⟩ := leaveVote_eq s c l
  rw [he, (discardFor_beside t _).regs o h3, hr, getReg_leafEvent_ne _ _ _ h2, getReg_putLeafSt_ne _ _ _ h1]

theorem leafSt_leaveVote {l : Nat} (c l' : Nat) (hl : l < 3) : leafSt (leaveVote c l s) l' = if l' = l then 1 else leafSt s l' := by
  rw [leafSt, fld_congr (leaveVote_stat s c l), ← leafSt]
  split
  · rename_i h
    rw [h, leafSt_putLeafSt_same s hl (by omega)]
  · rename_i h
    exact leafSt_putLeafSt_ne s 1 hl h

/-! The vote is counted. -/

/-- A vote that does not fall to one leaf raises nothing. -/
theorem refreshVote_many (h : (inVote s).length ≠ 1) : refreshVote s =
    putFlag (if splitHalt s then s else putFld s Reg.LEAF_STAT 17 16 (inVote s).length) Reg.LEAF_STAT 20 false := by
  simp [refreshVote, h]

theorem getReg_refreshVote_ne {o : Nat} (hn : (inVote s).length ≠ 1) (h : o ≠ Reg.LEAF_STAT) : getReg (refreshVote s) o = getReg s o := by
  rw [refreshVote_many s hn, getReg_putFlag_ne _ _ _ h]
  split
  · rfl
  · exact getReg_putFld_ne _ _ _ _ h

theorem refreshVote_rest (hn : (inVote s).length ≠ 1) :
    (refreshVote s).flt = s.flt ∧ (refreshVote s).leaf = s.leaf ∧ (refreshVote s).frm = s.frm := by
  rw [refreshVote_many s hn, putFlag_flt, putFlag_leaf, putFlag_frm]
  split
  · exact ⟨rfl, rfl, rfl⟩
  · exact ⟨putFld_flt .., putFld_leaf .., putFld_frm ..⟩

theorem leafSt_refreshVote {l : Nat} (hn : (inVote s).length ≠ 1) (hl : l < 3) : leafSt (refreshVote s) l = leafSt s l := by
  rw [refreshVote_many s hn, leafSt, fld_putFlag_other _ _ _ _ _ _ _ (by omega) (by omega) (by omega), ← leafSt]
  split
  · rfl
  · exact fld_putFld_other _ _ _ _ _ _ _ _ (by omega) (by omega) (by omega) (by omega)

theorem inVote_refreshVote (hn : (inVote s).length ≠ 1) : inVote (refreshVote s) = inVote s := by
  refine List.filter_congr fun l hl => ?_
  have hl3 : l < 3 := by simp only [List.mem_cons, List.not_mem_nil, or_false] at hl; omega
  rw [leafSt_refreshVote s hn hl3]

/-- Outside a split, VOTE shows the number of leaves in the vote. -/
theorem vote_refreshVote (hn : (inVote s).length ≠ 1) (hs : s.leaf.actHalt = false) :
    fld (refreshVote s) Reg.LEAF_STAT 17 16 = (inVote s).length := by
  have hlen : (inVote s).length ≤ 3 := List.length_filter_le _ _
  have hsplit : splitHalt s = false := by simp [splitHalt, hs]
  rw [refreshVote_many s hn, hsplit, fld_putFlag_other _ _ _ _ _ _ _ (by omega) (by omega) (by omega), if_neg (by decide),
    fld_putFld_same _ _ _ _ _ (by omega) (by omega)]
  exact Nat.mod_eq_of_lt (by omega)

/-! A failure of a leaf. -/

/-- A first failure is noted, and quarantines nothing. -/
theorem leafFails_first {l : Nat} (h : alGet s.leaf.lastFail l = none) :
    leafFails l s = { s with leaf := { s.leaf with lastFail := alPut s.leaf.lastFail l (now s) } } := by
  simp only [leafFails, h]

end

end Sys2Proof.Machine
end

section
/-! SUPPORT. What a reported notice or F1 fault changes, and a failure of a leaf that is counted, reported and noted, behind which
the vote is counted again (R148, R159, R160). -/

namespace Sys2Proof.Machine

section
variable (s : State)

/-! An update of another field, whatever it puts there. -/

theorem getReg_setLeaf (x : LeafState) (o : Nat) : getReg { s with leaf := x } o = getReg s o := rfl

theorem getReg_setFlt (x : FltState) (o : Nat) : getReg { s with flt := x } o = getReg s o := rfl

theorem flt_setLeaf (x : LeafState) : ({ s with leaf := x } : State).flt = s.flt := rfl

theorem flt_setFlt (x : FltState) : ({ s with flt := x } : State).flt = x := rfl

theorem leaf_setLeaf (x : LeafState) : ({ s with leaf := x } : State).leaf = x := rfl

/-! A report. -/

section
variable {cls : Nat} (code : Nat) (mas : BitVec 4) (h : cls ≤ 1)
include h

theorem report_low_flt : (report code cls mas s).flt = { s.flt with
    arrived := s.flt.arrived ++ [{ code := BitVec.ofNat 16 code, cls := Fin.ofNat 4 cls, esc := false, master := mas }] } := by
  rw [report_low code cls mas s h, flt_setFlt]

end

theorem getReg_report_ne {cls o : Nat} (code : Nat) (mas : BitVec 4) (h : cls ≤ 1) (ho : faultReg o = false) :
    getReg (report code cls mas s) o = getReg s o := (noted_report code cls mas s h).regs o ho

end

/-! A leaf's failure. -/

/-- The state behind a leaf's failure. -/
def leafFailed (l code hi lo : Nat) (t : State) : State :=
  refreshVote (leafFails l (raise code 1 (bump t (Reg.LEAF_FAILCNT l) hi lo)))

theorem failcnt_not_fault : ∀ l, l < 3 → faultReg (Reg.LEAF_FAILCNT l) = false ∧ Reg.LEAF_FAILCNT l ≠ Reg.LEAF_STAT ∧
    leafReg (Reg.LEAF_FAILCNT l) = false ∧ Reg.LEAF_FAILCNT l ≠ Reg.LEAF_LASTEV := by decide

section
variable {s t : State} {l code hi lo : Nat}

/-- A leaf's first failure before its vote is counted again. -/
theorem leafFails_raise (hlast : alGet t.leaf.lastFail l = none) :
    let v := leafFails l (raise code 1 (bump t (Reg.LEAF_FAILCNT l) hi lo))
    v.flt = (report code 1 0xF t).flt ∧ v.leaf.issued = t.leaf.issued ∧ v.leaf.actHalt = t.leaf.actHalt ∧
      ∀ o, faultReg o = false → getReg v o = getReg (bump t (Reg.LEAF_FAILCNT l) hi lo) o := by
  have hl : (raise code 1 (bump t (Reg.LEAF_FAILCNT l) hi lo)).leaf = t.leaf := by
    rw [raise, report_leaf _ _ _ _ (by omega), bump_leaf]
  rw [leafFails_first _ (by rw [hl]; exact hlast)]
  refine ⟨?_, ?_, ?_, fun o ho => ?_⟩
  · rw [flt_setLeaf, raise, report_low_flt _ _ _ (by omega), report_low_flt _ _ _ (by omega), bump_flt]
  · rw [leaf_setLeaf, hl]
  · rw [leaf_setLeaf, hl]
  · rw [getReg_setLeaf, raise, getReg_report_ne _ _ _ (by omega) ho]

theorem leafSt_leafFails (hlast : alGet t.leaf.lastFail l = none) (hl : l < 3) (k : Nat) :
    leafSt (leafFails l (raise code 1 (bump t (Reg.LEAF_FAILCNT l) hi lo))) k = leafSt t k := by
  obtain ⟨-, -, -, hr⟩ := leafFails_raise (code := code) (hi := hi) (lo := lo) hlast
  exact fld_congr ((hr _ (by decide)).trans (getReg_bump_ne _ _ _ (failcnt_not_fault l hl).2.1.symm)) _ _

theorem inVote_leafFailed (hlast : alGet t.leaf.lastFail l = none) (hl : l < 3) (hn : (inVote t).length ≠ 1) :
    inVote (leafFailed l code hi lo t) = inVote t := by
  have hin : inVote (leafFails l (raise code 1 (bump t (Reg.LEAF_FAILCNT l) hi lo))) = inVote t :=
    List.filter_congr fun k _ => by rw [leafSt_leafFails hlast hl]
  rw [leafFailed, inVote_refreshVote _ (by rw [hin]; exact hn), hin]

/-- A leaf's first failure, taken: it is counted and stands in FLT's queue, and the leaves in the vote are counted. -/
theorem leafFailed_ends (hs : Roomy s) (ht : t.flt = s.flt) (hlast : alGet t.leaf.lastFail l = none) (hl : l < 3)
    (hn : (inVote t).length ≠ 1) (hcode : code < 2 ^ 16) (hq : code ≠ codeQueueFull) (hlo : hi = lo + 15) (hhi : hi ≤ 31) :
    let u := settleFaults (leafFailed l code hi lo t)
    u.leaf.issued = t.leaf.issued ∧ inVote u = inVote t ∧ (∀ k, k < 3 → leafSt u k = leafSt t k) ∧
      (t.leaf.actHalt = false → fld u Reg.LEAF_STAT 17 16 = (inVote t).length) ∧ Queued code 1 u ∧
      fld u (Reg.LEAF_FAILCNT l) hi lo = min (fld t (Reg.LEAF_FAILCNT l) hi lo + 1) 0xFFFF ∧
      ∀ o, faultReg o = false → o ≠ Reg.LEAF_STAT → o ≠ Reg.LEAF_FAILCNT l → getReg u o = getReg t o := by
  obtain ⟨hf, hi1, hi2, hr⟩ := leafFails_raise (code := code) (hi := hi) (lo := lo) hlast
  obtain ⟨hcnt, hcnt', -, -⟩ := failcnt_not_fault l hl
  set v := leafFails l (raise code 1 (bump t (Reg.LEAF_FAILCNT l) hi lo))
  have hst : ∀ k, leafSt v k = leafSt t k := leafSt_leafFails hlast hl
  have hin : inVote v = inVote t := List.filter_congr fun k _ => by rw [hst]
  have hn' : (inVote v).length ≠ 1 := by rw [hin]; exact hn
  obtain ⟨hrf, hrl, -⟩ := refreshVote_rest v hn'
  obtain ⟨hno, hqd⟩ := settle_one (v := refreshVote v) (cls := 1) (mas := 0xF) hs
    (by rw [hrf, hf, report_low_flt _ _ _ (by omega), report_low_flt _ _ _ (by omega), ht]) (by omega) hcode hq
  refine ⟨?_, ?_, fun k hk => ?_, fun hact => ?_, hqd, ?_, fun o ho ho1 ho2 => ?_⟩
  · rw [leafFailed, hno.leaf_eq, hrl, hi1]
  · have : inVote (settleFaults (refreshVote v)) = inVote (refreshVote v) :=
      List.filter_congr fun k _ => by rw [leafSt, hno.fld_eq (by decide), leafSt]
    rw [leafFailed, this, inVote_refreshVote v hn', hin]
  · rw [leafFailed, leafSt, hno.fld_eq (by decide), ← leafSt, leafSt_refreshVote v hn' hk, hst]
  · rw [leafFailed, hno.fld_eq (by decide), vote_refreshVote v hn' (by rw [hi2, hact]), hin]
  · rw [leafFailed, hno.fld_eq hcnt, fld_congr (getReg_refreshVote_ne v hn' hcnt'), fld_congr (hr _ hcnt), fld_bump_same _ _ _ _ hhi (by omega),
      show hi - lo + 1 = 16 by omega]
    rfl
  · rw [leafFailed, hno.regs o ho, getReg_refreshVote_ne v hn' ho1, hr o ho, getReg_bump_ne _ _ _ ho2]

end

end Sys2Proof.Machine
end

section
/-! The votes of three leaves that agree or outvote one, and a mismatch of leaf A's tumbler (R32, R144, R146, R148, R159). -/

namespace Sys2Proof.Machine

section
variable {s : State}

theorem voteMin_le (s : State) : voteMin s ≤ 2 := by
  unfold voteMin
  split <;> omega

/-- The knuckle's decision when three leaves vote. -/
theorem knuckleVote_three {a b c : Option Nat} (ha : s.leaf.actHalt = false) (hv : inVote s = [0, 1, 2]) :
    knuckleVote ⟨a, b, c, false⟩ s = if a = b ∧ b = c then issue a s else if a = b then outvote 2 (issue a s)
      else if a = c then outvote 1 (issue a s) else if b = c then outvote 0 (issue b s) else voteFault 0x0530 s := by
  have hmin := voteMin_le s
  simp [knuckleVote, ha, vote, hv, Nat.not_lt.mpr (Nat.le_succ_of_le hmin)]

theorem vote_agrees (hs : Roomy s) (ha : s.leaf.actHalt = false) (hv : inVote s = [0, 1, 2]) (x : Option Nat) :
    exec (.knuckleVote ⟨x, x, x, false⟩) s = .next { s with leaf := { s.leaf with issued := x } } := by
  have hk : knuckleVote ⟨x, x, x, false⟩ s = issue x s := by rw [knuckleVote_three ha hv, if_pos ⟨rfl, rfl⟩]
  have hq : (issue x s).flt.arrived = [] := hs.1.2
  have he : exec (.knuckleVote ⟨x, x, x, false⟩) s = .next (knuckleVote ⟨x, x, x, false⟩ s) :=
    act_quiet _ hs.1.1 (by rw [hk]; exact hq)
  rw [he, hk, issue]

/-- The leaves in the vote after one of three has left. -/
theorem inVote_left {t : State} {l x : Nat} (hv : inVote s = [0, 1, 2]) (hx : x ≠ 0)
    (h : ∀ k, k < 3 → leafSt t k = if k = l then x else leafSt s k) : inVote t = [0, 1, 2].filter fun k => k ≠ l := by
  refine inVote_of _ fun k hk => ?_
  rw [h k hk, leafSt_of_inVote s hv hk]
  by_cases hkl : k = l <;> simp [hkl, hx]

theorem vote_outvotes (hs : Roomy s) (ha : s.leaf.actHalt = false) (hv : inVote s = [0, 1, 2]) (hlast : s.leaf.lastFail = [])
    {x y : Option Nat} (hxy : x ≠ y) : Ends (exec (.knuckleVote ⟨x, x, y, false⟩) s) fun u => u.leaf.issued = x ∧
      inVote u = [0, 1] ∧ leafSt u 2 = 1 ∧ fld u Reg.LEAF_STAT 17 16 = 2 ∧ Queued 0x051A 1 u ∧
      fld u (Reg.LEAF_FAILCNT 2) 15 0 = min (fld s (Reg.LEAF_FAILCNT 2) 15 0 + 1) 0xFFFF := by
  have hk : knuckleVote ⟨x, x, y, false⟩ s = leafFailed 2 0x051A 15 0 (leaveVote 2 2 (issue x s)) := by
    rw [knuckleVote_three ha hv, if_neg (fun h => hxy h.2), if_pos rfl]
    rfl
  have hreg (o : Nat) : getReg (issue x s) o = getReg s o := getReg_setLeaf s _ o
  have hst (k : Nat) : leafSt (leaveVote 2 2 (issue x s)) k = if k = 2 then 1 else leafSt s k := by
    rw [leafSt_leaveVote _ _ _ (by omega), leafSt, fld_congr (hreg _), ← leafSt]
  have hin := inVote_left (t := leaveVote 2 2 (issue x s)) hv (by decide) fun k _ => hst k
  have hleaf := leaveVote_leaf (issue x s) 2 2
  have hl0 : (issue x s).leaf = { s.leaf with issued := x } := leaf_setLeaf s _
  obtain ⟨h1, h2, h3, h4, h5, h6, -⟩ := leafFailed_ends (t := leaveVote 2 2 (issue x s)) (l := 2) (code := 0x051A) (hi := 15) (lo := 0) hs
    ((leaveVote_flt _ 2 2).trans (flt_setLeaf s _)) (by rw [hleaf, hl0, hlast]; rfl) (by omega) (by rw [hin]; decide) (by omega)
    (by decide) (by omega) (by omega)
  have he : exec (.knuckleVote ⟨x, x, y, false⟩) s = .next (settleFaults (knuckleVote ⟨x, x, y, false⟩ s)) := act_runs _ hs.1.1
  rw [hk] at he
  refine ⟨_, he, ?_, ?_, ?_, ?_, h5, ?_⟩
  · rw [h1, hleaf, hl0]
  · rw [h2, hin]; decide
  · rw [h3 2 (by omega), hst, if_pos rfl]
  · rw [h4 (by rw [hleaf, hl0, ha]), hin]; decide
  · rw [h6, fld_congr (leaveVote_regs _ 2 2 (by decide)), fld_congr (hreg _)]

/-! A mismatch of leaf A's tumbler. -/

/-- The first mismatch of leaf A, while another leaf votes too. -/
theorem tumblerMismatch_first {t : State} (hm : mismatch 0 s = leafFails 0 (raise 0x0510 1 (bump t (Reg.LEAF_FAILCNT 0) 31 16)))
    (hlast : alGet t.leaf.lastFail 0 = none) (hn : 2 ≤ (inVote t).length) :
    tumblerMismatch true false false s = leafFailed 0 0x0510 31 16 t := by
  have hin := inVote_leafFailed (code := 0x0510) (hi := 31) (lo := 16) hlast (by omega) (by omega)
  have hmin := voteMin_le (leafFailed 0 0x0510 31 16 t)
  have hl : (if !([0].isEmpty : Bool) && !(leafFailed 0 0x0510 31 16 t).leaf.actHalt &&
      decide ((inVote (leafFailed 0 0x0510 31 16 t)).length < voteMin (leafFailed 0 0x0510 31 16 t)) then
      voteFault 0x0531 (leafFailed 0 0x0510 31 16 t) else leafFailed 0 0x0510 31 16 t) = leafFailed 0 0x0510 31 16 t := by
    rw [hin, decide_eq_false (by omega), Bool.and_false]
    rfl
  refine Eq.trans ?_ hl
  rw [leafFailed, ← hm]
  rfl

theorem exec_mismatch (hs : Roomy s) :
    exec (.tumblerMismatch true false false) s = .next (settleFaults (tumblerMismatch true false false s)) := act_runs _ hs.1.1

theorem mismatch_leaves (hs : Roomy s) (ha : s.leaf.actHalt = false) (hv : inVote s = [0, 1, 2]) (hlast : s.leaf.lastFail = [])
    (hw : widerReset s = false) : Ends (exec (.tumblerMismatch true false false) s) fun u => inVote u = [1, 2] ∧ leafSt u 0 = 1 ∧
      fld u Reg.LEAF_STAT 17 16 = 2 ∧ Queued 0x0510 1 u ∧
      fld u (Reg.LEAF_FAILCNT 0) 31 16 = min (fld s (Reg.LEAF_FAILCNT 0) 31 16 + 1) 0xFFFF := by
  have hm : mismatch 0 s = leafFails 0 (raise 0x0510 1 (bump (leaveVote 1 0 s) (Reg.LEAF_FAILCNT 0) 31 16)) := by
    simp [mismatch, leafSt_of_inVote s hv, hw]
  have hst (k : Nat) : leafSt (leaveVote 1 0 s) k = if k = 0 then 1 else leafSt s k := leafSt_leaveVote s 1 k (by omega)
  have hin := inVote_left (t := leaveVote 1 0 s) hv (by decide) fun k _ => hst k
  have hleaf := leaveVote_leaf s 1 0
  have hl : alGet (leaveVote 1 0 s).leaf.lastFail 0 = none := by rw [hleaf, hlast]; rfl
  obtain ⟨-, h2, h3, h4, h5, h6, -⟩ := leafFailed_ends (t := leaveVote 1 0 s) (l := 0) (code := 0x0510) (hi := 31) (lo := 16) hs
    (leaveVote_flt s 1 0) hl (by omega) (by rw [hin]; decide) (by omega) (by decide) (by omega) (by omega)
  have he := exec_mismatch hs
  rw [tumblerMismatch_first hm hl (by rw [hin]; decide)] at he
  refine ⟨_, he, ?_, ?_, ?_, h5, ?_⟩
  · rw [h2, hin]; decide
  · rw [h3 0 (by omega), hst, if_pos rfl]
  · rw [h4 (by rw [hleaf, ha]), hin]; decide
  · rw [h6, fld_congr (leaveVote_regs _ 1 0 (by decide))]

/-- R32: inside a wider reset the leaf's restart is discarded. -/
theorem mismatch_discarded (hs : Roomy s) (hv : inVote s = [0, 1, 2]) (hlast : s.leaf.lastFail = [])
    (hw : widerReset s = true) : Ends (exec (.tumblerMismatch true false false) s) fun u => inVote u = [0, 1, 2] ∧
      fld u Reg.SYS_RSTCAUSE 7 7 = 1 ∧ Queued 0x0510 1 u ∧
      fld u (Reg.LEAF_FAILCNT 0) 31 16 = min (fld s (Reg.LEAF_FAILCNT 0) 31 16 + 1) 0xFFFF := by
  set t := discardReset (leafEvent 1 0 s) with ht
  have hm : mismatch 0 s = leafFails 0 (raise 0x0510 1 (bump t (Reg.LEAF_FAILCNT 0) 31 16)) := by
    simp [mismatch, leafSt_of_inVote s hv, hw, ht]
  have hreg {o : Nat} (h1 : o ≠ Reg.LEAF_LASTEV) (h2 : o ≠ Reg.SYS_RSTCAUSE) : getReg t o = getReg s o := by
    rw [ht, discardReset, getReg_putFlag_ne _ _ _ h2, getReg_leafEvent_ne _ _ _ h1]
  have hin : inVote t = [0, 1, 2] := by
    rw [← hv]
    exact List.filter_congr fun k _ => by rw [leafSt, fld_congr (hreg (by decide) (by decide)), ← leafSt]
  have hleaf : t.leaf = s.leaf := by rw [ht, discardReset, putFlag_leaf, leafEvent_leaf]
  have hflt : t.flt = s.flt := by rw [ht, discardReset, putFlag_flt, leafEvent_flt]
  have hl : alGet t.leaf.lastFail 0 = none := by rw [hleaf, hlast]; rfl
  obtain ⟨-, h2, -, -, h5, h6, h7⟩ := leafFailed_ends (t := t) (l := 0) (code := 0x0510) (hi := 31) (lo := 16) hs
    hflt hl (by omega) (by rw [hin]; decide) (by omega) (by decide) (by omega) (by omega)
  have he := exec_mismatch hs
  rw [tumblerMismatch_first hm hl (by rw [hin]; decide)] at he
  refine ⟨_, he, ?_, ?_, h5, ?_⟩
  · rw [h2, hin]
  · rw [fld_congr (h7 _ (by decide) (by decide) (by decide)), ht, discardReset, putFlag, fld_putFld_same _ _ _ _ _ (by omega) (by omega)]
    rfl
  · rw [h6, fld_congr (hreg (by decide) (by decide))]

end

end Sys2Proof.Machine
end

section
/-! SUPPORT. The actions of FLT leave LEAF.STAT alone (R375, R376, R378). -/

namespace Sys2Proof.Machine

section
variable (s : State)

/-- LEAF.STAT, which no action of FLT writes. -/
def leafStat : Word := getReg s Reg.LEAF_STAT

section
variable {s}

theorem leafStat_putFld {o : Nat} (hi lo x : Nat) (h : Reg.LEAF_STAT ≠ o) : leafStat (putFld s o hi lo x) = leafStat s :=
  getReg_putFld_ne s hi lo x h

theorem leafStat_putFlag {o : Nat} (i : Nat) (b : Bool) (h : Reg.LEAF_STAT ≠ o) : leafStat (putFlag s o i b) = leafStat s :=
  getReg_putFlag_ne s i b h

theorem leafStat_putNat {o : Nat} (v : Nat) (h : Reg.LEAF_STAT ≠ o) : leafStat (putNat s o v) = leafStat s := getReg_putNat_ne s v h

theorem leafStat_bump {o : Nat} (hi lo : Nat) (h : Reg.LEAF_STAT ≠ o) : leafStat (bump s o hi lo) = leafStat s := getReg_bump_ne s hi lo h

theorem Noted.leafStat {t : State} (h : Noted s t) : leafStat t = leafStat s := h.regs _ (by decide)

/-- A state that differs in no register. -/
theorem leafStat_of_regs {t : State} (h : t.regs = s.regs) : leafStat t = leafStat s := by rw [leafStat, getReg, h, leafStat, getReg]

theorem leafStat_forAll {α : Type} (l : List α) (f : State → α → State) (h : ∀ s x, leafStat (f s x) = leafStat s) :
    leafStat (forAll l f s) = leafStat s := forAll_keep leafStat l f s h

end

/-! The memory devices. -/

theorem touchPage_leafStat (p : Nat) : leafStat (touchPage p s) = leafStat s := (touchPage_beside p s).regs _ (by decide)

theorem arrive_leafStat (code : Nat) {cls : Nat} (mas : BitVec 4) (h : cls ≤ 1) : leafStat (arrive code cls mas s) = leafStat s := by
  have hc : Reg.LEAF_STAT ≠ Reg.FLT_CNT cls := by simp only [Reg.LEAF_STAT, Reg.FLT_CNT]; omega
  rw [arrive, leafStat_bump _ _ hc]
  exact leafStat_of_regs rfl

theorem foundBad_leafStat (a code : Nat) (mas : BitVec 4) : leafStat (foundBad a code mas s) = leafStat s := by
  simp only [foundBad]
  rw [arrive_leafStat _ _ _ (by omega), refreshKnown, leafStat_putFlag _ _ (by decide), errAddr, leafStat_putNat _ (by decide),
    leafStat_putNat _ (by decide)]
  split
  · rfl
  · rw [leafStat_bump _ _ (by decide)]
    exact leafStat_of_regs rfl

theorem mirrorWrite_leafStat (a : Nat) (b : List Byte) : leafStat (mirrorWrite a b s) = leafStat s := by
  have habandon (t : State) : leafStat (abandonJoin t) = leafStat t := by
    rw [abandonJoin, leafStat_putFld _ _ _ (by decide), arrive_leafStat _ _ _ (by omega)]
    exact leafStat_of_regs rfl
  simp only [mirrorWrite]
  split
  · split
    · rw [habandon]
      exact leafStat_of_regs rfl
    · exact leafStat_of_regs rfl
  · rfl

theorem healWords_leafStat (a n : Nat) : leafStat (healWords a n s) = leafStat s := by
  simp only [healWords]
  split
  · rfl
  · rw [refreshKnown, leafStat_putFlag _ _ (by decide)]
    exact leafStat_of_regs rfl

theorem storeRaw_leafStat (a : Nat) (b : List Byte) : leafStat (storeRaw a b s) = leafStat s := by
  have h : leafStat (healWords a b.length (mirrorWrite a b (putBytes s a b))) = leafStat s := by
    rw [healWords_leafStat, mirrorWrite_leafStat]
    exact leafStat_of_regs (putBytes_regs ..)
  simp only [storeRaw]
  split
  · exact h
  · rw [leafStat_forAll _ _ fun s i => touchPage_leafStat s _, h]

theorem unitStore_leafStat (a : Nat) (b : List Byte) : leafStat (unitStore a b s) = leafStat s := by
  simp only [unitStore, storeWhole]
  split
  · exact storeRaw_leafStat s a b
  · rw [leafStat_forAll _ _ fun s w => foundBad_leafStat s w _ _, storeRaw_leafStat]

/-! The channels, the output enable and the fail states. -/

theorem refreshDio_leafStat (n : Nat) : leafStat (refreshDio s n) = leafStat s := by
  have hn : Reg.LEAF_STAT ≠ dioStat n := by simp only [Reg.LEAF_STAT, dioStat, Reg.DIO_CH_STAT]; omega
  simp only [refreshDio]
  split
  · rfl
  · rw [leafStat_putFlag _ _ hn]
    exact leafStat_of_regs rfl

theorem dioCommand_leafStat (n : Nat) (v : Bool) : leafStat (dioCommand s n v) = leafStat s := by
  have hn : Reg.LEAF_STAT ≠ dioStat n := by simp only [Reg.LEAF_STAT, dioStat, Reg.DIO_CH_STAT]; omega
  rw [dioCommand, refreshDio_leafStat, leafStat_putFlag _ _ hn]

theorem refreshAo_leafStat (n : Nat) : leafStat (refreshAo s n) = leafStat s := by
  have hst : Reg.LEAF_STAT ≠ Reg.AO_CH_STAT n := by simp only [Reg.LEAF_STAT, Reg.AO_CH_STAT]; omega
  have hcur : Reg.LEAF_STAT ≠ Reg.AO_CH_CUR n := by simp only [Reg.LEAF_STAT, Reg.AO_CH_CUR]; omega
  simp only [refreshAo, leafStat_putFlag _ _ hst, aoPut, leafStat_putFld _ _ _ hcur]
  split
  · rfl
  · exact leafStat_of_regs rfl

theorem requeue_leafStat (n : Nat) : leafStat (requeue n s) = leafStat s := by
  have hput (n : Nat) (l : LaneState) (s : State) : leafStat (putLane n l s) = leafStat s := leafStat_of_regs rfl
  have hq (n i v : Nat) (s : State) : leafStat (putQState n i v s) = leafStat s := by
    rw [putQState, hput, unitStore_leafStat]
  rw [requeue, hput]
  split
  · exact hq ..
  · rfl

theorem refreshEnable_leafStat : leafStat (refreshEnable s) = leafStat s := by
  have hflags (on : Bool) : leafStat (putFlag (putFlag (putFlag s Reg.HASP_STAT 8 s.pads.boltOut) Reg.HASP_STAT 9 s.pads.boltIn)
      Reg.HASP_STAT 10 on) = leafStat s := by
    rw [leafStat_putFlag _ _ (by decide), leafStat_putFlag _ _ (by decide), leafStat_putFlag _ _ (by decide)]
  simp only [refreshEnable]
  split
  · exact hflags _
  · rw [leafStat_forAll _ _ refreshAo_leafStat, leafStat_forAll _ _ refreshDio_leafStat]
    split
    · exact hflags _
    · rw [leafStat_forAll _ _ fun s n => requeue_leafStat s n, hflags]

theorem setBolt_leafStat (b : Bool) : leafStat (setBolt b s) = leafStat s := by
  rw [setBolt, refreshEnable_leafStat]
  exact leafStat_of_regs rfl

theorem setHwEnable_leafStat (b : Bool) : leafStat (setHwEnable b s) = leafStat s := by
  rw [setHwEnable, refreshEnable_leafStat]
  exact leafStat_of_regs rfl

theorem failNow_leafStat : leafStat (failNow s) = leafStat s := by
  have hao (s : State) (n : Nat) (c : AoCh) : leafStat (refreshAo (captureFail n (putAo s n c)) n) = leafStat s := by
    rw [refreshAo_leafStat]
    exact leafStat_of_regs rfl
  have hdio (s : State) (n : Nat) (c : DioCh) (b : Bool) : leafStat (dioCommand (putDio s n c) n b) = leafStat s := by
    rw [dioCommand_leafStat]
    exact leafStat_of_regs rfl
  simp only [failNow]
  rw [leafStat_forAll _ _ fun s n => hao s n _, leafStat_forAll _ _ fun s n => hdio s n _ _]

theorem releaseFail_leafStat : leafStat (releaseFail s) = leafStat s := leafStat_of_regs rfl

/-! The actions. -/

theorem haltLeaves_leaf : (haltLeaves s).leaf = { s.leaf with actHalt := true } := by
  have h (t : State) (x : FrmState) : ({ t with leaf := { t.leaf with actHalt := true }, frm := x } : State).leaf =
      { t.leaf with actHalt := true } := rfl
  rw [haltLeaves, h, setReplaying_leaf]

theorem haltLeaves_leafStat : leafStat (haltLeaves s) = leafStat s := by
  have hset (o : Option Nat) : leafStat (setReplaying o s) = leafStat s := by
    simp only [setReplaying]
    split
    · rw [leafStat_putFld _ _ _ (by decide)]
      exact leafStat_of_regs rfl
    · split
      · rw [leafStat_putFld _ _ _ (by decide)]
        exact leafStat_of_regs rfl
      · exact leafStat_of_regs rfl
  rw [haltLeaves, ← hset none]
  exact leafStat_of_regs rfl

theorem haltWard_leafStat : leafStat (haltWard s) = leafStat s := by
  unfold haltWard
  split
  · rfl
  · exact leafStat_putFld _ _ _ (by decide)

theorem stopHb_leafStat : leafStat (stopHb s) = leafStat s := by
  simp only [stopHb]
  split
  · split <;> exact leafStat_of_regs rfl
  · rfl

theorem f3Action_spec (code : Nat) :
    leafStat (f3Action code s) = leafStat s ∧ (f3Action code s).leaf = { s.leaf with actHalt := true } := by
  have hflt (t : State) (x : FltState) : leafStat { t with flt := x } = leafStat t := leafStat_of_regs rfl
  have hdrop (t : State) : leafStat (dropBolt t) = leafStat t := leafStat_of_regs rfl
  unfold f3Action
  extract_lets s1 s2 s3 s4 f s5 s6
  have h2 : leafStat s2 = leafStat s ∧ s2.leaf = s.leaf := by
    refine ⟨?_, by simp only [s2, s1, putFlag_leaf, showCur3_leaf]⟩
    rw [leafStat_putFlag _ _ (by decide), showCur3, leafStat_putNat _ (by decide), leafStat_putFlag _ _ (by decide),
      leafStat_putFlag _ _ (by decide)]
  have h3 : leafStat s3 = leafStat s ∧ s3.leaf = { s.leaf with actHalt := true } := by
    refine ⟨?_, ?_⟩
    · rw [hdrop, stopHb_leafStat, haltWard_leafStat, haltLeaves_leafStat, h2.1]
    · rw [dropBolt_leaf, stopHb_leaf, haltWard_leaf, haltLeaves_leaf, h2.2]
  have h5 : leafStat s5 = leafStat s ∧ s5.leaf = { s.leaf with actHalt := true } := by
    refine ⟨?_, ?_⟩
    · rw [releaseFail_leafStat, hflt, setHwEnable_leafStat, setBolt_leafStat, h3.1]
    · rw [releaseFail_leaf, leaf_setFlt, setHwEnable_leaf, setBolt_leaf, h3.2]
  split
  · exact h5
  · refine ⟨(hflt s6 _).trans ((leafStat_putFld _ _ _ (by decide)).trans h5.1), (leaf_setFlt s6 _).trans ?_⟩
    rw [putFld_leaf, h5.2]

theorem f2Action_spec (code : Nat) :
    leafStat (f2Action code s) = leafStat s ∧ (f2Action code s).leaf = { s.leaf with actHalt := true } := by
  have hflt (t : State) (x : FltState) : leafStat { t with flt := x } = leafStat t := leafStat_of_regs rfl
  have hhasp (t : State) (x : HaspState) : leafStat { t with hasp := x } = leafStat t := leafStat_of_regs rfl
  unfold f2Action cdrCourse
  extract_lets s1 h f s2 s3 s4
  have h1 : leafStat s1 = leafStat s ∧ s1.leaf = { s.leaf with actHalt := true } := by
    refine ⟨?_, ?_⟩
    · rw [haltWard_leafStat, haltLeaves_leafStat, leafStat_putNat _ (by decide), leafStat_putFlag _ _ (by decide)]
    · rw [haltWard_leaf, haltLeaves_leaf, putNat_leaf, putFlag_leaf]
  have h2 : leafStat s2 = leafStat s ∧ s2.leaf = { s.leaf with actHalt := true } :=
    ⟨(hflt s1 _).trans h1.1, (leaf_setFlt s1 _).trans h1.2⟩
  split
  · refine ⟨?_, ?_⟩
    · rw [releaseFail_leafStat, setBolt_leafStat, hhasp, stopHb_leafStat, h2.1]
    · rw [releaseFail_leaf, setBolt_leaf, leaf_setHasp, stopHb_leaf, h2.2]
  · refine ⟨?_, ?_⟩
    · rw [releaseFail_leafStat, failNow_leafStat, h2.1]
    · rw [releaseFail_leaf, failNow_leaf, h2.2]

end

end Sys2Proof.Machine
end

section
/-! Three leaves that all differ: the knuckle issues nothing (R144, R150). -/

namespace Sys2Proof.Machine

/-- What FLT leaves of the vote: LEAF.STAT, and everything that the leaves keep but that they may halt. -/
structure VoteKept (s t : State) : Prop where
  stat : leafStat t = leafStat s
  leaf : ∃ b, t.leaf = { s.leaf with actHalt := s.leaf.actHalt || b }

section
variable {s t u : State}

theorem VoteKept.of_eq (h : leafStat t = leafStat s) (hl : t.leaf = s.leaf) : VoteKept s t :=
  ⟨h, false, by rw [hl, Bool.or_false]⟩

theorem VoteKept.of_halted (h : leafStat t = leafStat s) (hl : t.leaf = { s.leaf with actHalt := true }) : VoteKept s t :=
  ⟨h, true, by rw [hl, Bool.or_true]⟩

theorem VoteKept.of_noted (h : Noted s t) : VoteKept s t := .of_eq h.leafStat h.leaf_eq

theorem VoteKept.refl (s : State) : VoteKept s s := .of_eq rfl rfl

theorem VoteKept.trans (h : VoteKept s t) (k : VoteKept t u) : VoteKept s u := by
  obtain ⟨h1, b, h2⟩ := h
  obtain ⟨k1, c, k2⟩ := k
  refine ⟨k1.trans h1, b || c, ?_⟩
  rw [k2, h2, Bool.or_assoc]

theorem VoteKept.issued (h : VoteKept s t) : t.leaf.issued = s.leaf.issued := by
  obtain ⟨-, b, h⟩ := h
  rw [h]

theorem VoteKept.halted (h : VoteKept s t) (hs : s.leaf.actHalt = true) : t.leaf.actHalt = true := by
  obtain ⟨-, b, h⟩ := h
  rw [h, hs, Bool.true_or]

theorem VoteKept.foldl {α : Type} (f : State → α → State) (hf : ∀ s x, VoteKept s (f s x)) (l : List α) (s : State) :
    VoteKept s (l.foldl f s) := by
  induction l generalizing s with
  | nil => exact .refl s
  | cons x r ih => exact (hf s x).trans (ih (f s x))

end

section
variable (s : State)

theorem classAction_voteKept (code cls : Nat) : VoteKept s (classAction code cls s) := by
  have h2 : VoteKept s (f2Action code s) := .of_halted (f2Action_spec s code).1 (f2Action_spec s code).2
  have h3 : VoteKept s (f3Action code s) := .of_halted (f3Action_spec s code).1 (f3Action_spec s code).2
  unfold classAction
  split
  · exact .refl s
  · split
    · exact h3
    · split
      · split
        · split
          · exact h3
          · exact h2
        · exact h3
      · exact .refl s

/-- Outside an F3 state an F2 fault halts the leaves. -/
theorem classAction_halts (code : Nat) (h : flag s Reg.FLT_STAT 1 = false) : (classAction code 2 s).leaf.actHalt = true := by
  have h2 : (f2Action code s).leaf.actHalt = true := by rw [(f2Action_spec s code).2]
  have h3 : (f3Action code s).leaf.actHalt = true := by rw [(f3Action_spec s code).2]
  unfold classAction
  rw [h, if_neg (by decide), if_neg (by decide), if_pos rfl]
  split
  · split
    · exact h3
    · exact h2
  · exact h3

/-- What a report makes of the state before the action of its class. -/
theorem report_eq (code cls : Nat) (mas : BitVec 4) : ∃ t : State, report code cls mas s = classAction code cls t ∧
    t.leaf = s.leaf ∧ ∃ c, c ≤ max 3 cls ∧ ∀ o, getReg t o = getReg (bump s (Reg.FLT_CNT c) 31 0) o := by
  refine ⟨_, rfl, (leaf_setFlt _ _).trans (bump_leaf ..), _, ?_, fun o => getReg_setFlt _ _ o⟩
  split <;> omega

theorem report_voteKept (code : Nat) {cls : Nat} (mas : BitVec 4) (h : cls ≤ 3) : VoteKept s (report code cls mas s) := by
  obtain ⟨t, ht, hl, c, hle, hr⟩ := report_eq s code cls mas
  rw [ht]
  have hc : Reg.LEAF_STAT ≠ Reg.FLT_CNT c := by simp only [Reg.LEAF_STAT, Reg.FLT_CNT]; omega
  exact (VoteKept.of_eq ((hr _).trans (getReg_bump_ne _ _ _ hc)) hl).trans (classAction_voteKept t code cls)

theorem report_halts (code : Nat) (mas : BitVec 4) (h : flag s Reg.FLT_STAT 1 = false) :
    (report code 2 mas s).leaf.actHalt = true := by
  obtain ⟨t, ht, -, c, -, hr⟩ := report_eq s code 2 mas
  rw [ht]
  have hc : Reg.FLT_STAT ≠ Reg.FLT_CNT c := by simp only [Reg.FLT_STAT, Reg.FLT_CNT]; omega
  exact classAction_halts t code (by rw [flag_congr ((hr _).trans (getReg_bump_ne _ _ _ hc)), h])

theorem enqueue_voteKept (e : FltEntry) : VoteKept s (enqueue e s).1 := by
  have hq (q : List FltEntry) : VoteKept s { s with flt := { s.flt with queue := q } } := .of_eq (leafStat_of_regs rfl) rfl
  have hlost (t : State) : VoteKept t (bumpLost t) := .of_eq (leafStat_bump _ _ (by decide)) (bump_leaf ..)
  simp only [enqueue]
  split
  · split
    · exact hq _
    · split
      · exact hq _
      · split
        · exact (hq _).trans (hlost _)
        · exact hlost s
  · exact hq _

theorem takeArrival_voteKept (a : Arrival) : VoteKept s (takeArrival s a) := by
  have hentry : VoteKept s (if a.code.toNat = codeQueueFull then (s, Entered.merged) else
      enqueue (fltEntry a.code.toNat (if a.esc then 3 else a.cls.val) a.esc a.master s) s).1 := by
    split
    · exact .refl s
    · exact enqueue_voteKept s _
  have hcause (b : Bool) (v : Nat) (t : State) : VoteKept t (if b then cause v t else t) := by
    split
    · exact .of_noted (noted_cause _ _)
    · exact .refl t
  have hfire (l : List Nat) (t : State) : VoteKept t (l.foldl (fun s n =>
      if (queueFiring n a.code 7 s).2 = true then (queueFiring n a.code 7 s).1 else raise codeDrop 0 (queueFiring n a.code 7 s).1) t) :=
    .of_noted (firings_noted l a.code t).1
  unfold takeArrival
  simp only []
  generalize (if a.code.toNat = codeQueueFull then (s, Entered.merged) else
      enqueue (fltEntry a.code.toNat (if a.esc then 3 else a.cls.val) a.esc a.master s) s) = p at hentry ⊢
  split
  · exact ((hentry.trans (hcause _ _ _)).trans (hfire _ _)).trans (report_voteKept _ _ _ (by omega))
  · exact (hentry.trans (hcause _ _ _)).trans (hfire _ _)

theorem takeArrivals_voteKept (n : Nat) : VoteKept s (takeArrivals n s) := by
  have harr (s : State) : VoteKept s { s with flt := { s.flt with arrived := [] } } := .of_eq (leafStat_of_regs rfl) rfl
  induction n generalizing s with
  | zero => exact harr s
  | succ n ih =>
    unfold takeArrivals
    split
    · exact .refl s
    · exact ((harr s).trans (VoteKept.foldl _ takeArrival_voteKept _ _)).trans (ih _)

theorem settleFaults_voteKept : VoteKept s (settleFaults s) := takeArrivals_voteKept s 4

end

/-- A split: nothing is issued, VOTE reads 0, and the leaves halt. -/
theorem vote_splits {s : State} (hs : Roomy s) (ha : s.leaf.actHalt = false) (hv : inVote s = [0, 1, 2]) {x y z : Option Nat}
    (hxy : x ≠ y) (hxz : x ≠ z) (hyz : y ≠ z) : Ends (exec (.knuckleVote ⟨x, y, z, false⟩) s) fun u =>
      u.leaf.issued = s.leaf.issued ∧ fld u Reg.LEAF_STAT 17 16 = 0 ∧ (flag s Reg.FLT_STAT 1 = false → u.leaf.actHalt = true) := by
  set t := putFld (leafEvent 7 3 s) Reg.LEAF_STAT 17 16 0 with ht
  have hk : knuckleVote ⟨x, y, z, false⟩ s = report 0x0530 2 0xF t := by
    rw [knuckleVote_three ha hv, if_neg (fun h => hxy h.1), if_neg hxy, if_neg hxz, if_neg hyz, voteFault, raise]
  have he : exec (.knuckleVote ⟨x, y, z, false⟩) s = .next (settleFaults (knuckleVote ⟨x, y, z, false⟩ s)) := act_runs _ hs.1.1
  rw [hk] at he
  have hkept := (report_voteKept t 0x0530 (cls := 2) 0xF (by omega)).trans (settleFaults_voteKept _)
  have hleaf : t.leaf = s.leaf := by rw [ht, putFld_leaf, leafEvent_leaf]
  have hstat : flag t Reg.FLT_STAT 1 = flag s Reg.FLT_STAT 1 :=
    flag_congr (by rw [ht, getReg_putFld_ne _ _ _ _ (by decide), getReg_leafEvent_ne _ _ _ (by decide)]) 1
  refine ⟨_, he, ?_, ?_, fun h => ?_⟩
  · rw [hkept.issued, hleaf]
  · rw [fld_congr hkept.stat, ht, fld_putFld_same _ _ _ _ _ (by omega) (by omega)]
    rfl
  · exact (settleFaults_voteKept _).halted (report_halts t _ _ (by rw [hstat, h]))

/-- Settles O36: agreement by `vote_agrees`, a leaf outvoted by `vote_outvotes`, a split by `vote_splits`, and a mismatch of leaf A's
tumbler by `mismatch_leaves` and `mismatch_discarded`. -/
theorem voteDecides : Obligations.VoteDecides := by
  unfold Obligations.VoteDecides
  intro s hs ha hv hlast
  exact ⟨vote_agrees hs ha hv, fun x y => vote_outvotes hs ha hv hlast, fun x y z => vote_splits hs ha hv,
    mismatch_leaves hs ha hv hlast, mismatch_discarded hs hv hlast⟩

end Sys2Proof.Machine
end

section
/-! The course of a leaf out of the vote, the commands of LEAF, and the trap log (R32, R157, R159, R161, R163, R165). -/

namespace Sys2Proof.Machine

/-! Lists of keys and values. -/

theorem alGet_alDel_same {α : Type} (l : List (Nat × α)) (k : Nat) : alGet (alDel l k) k = none := by
  have h : (alDel l k).find? (fun p => p.1 = k) = none := by simp [alDel]
  rw [alGet, h]
  rfl

theorem alGet_alPut_ne {α : Type} (l : List (Nat × α)) {k k' : Nat} (v : α) (h : k' ≠ k) : alGet (alPut l k v) k' = alGet l k' := by
  have hf : ∀ l : List (Nat × α), (alDel l k).find? (fun p => p.1 = k') = l.find? (fun p => p.1 = k') := by
    intro l
    induction l with
    | nil => rfl
    | cons p r ih =>
      by_cases hp : p.1 = k
      · have hp' : ¬ p.1 = k' := by omega
        rw [alDel, List.filter_cons_of_neg (by simpa using hp), ← alDel, ih, List.find?_cons_of_neg (by simpa using hp')]
      · rw [alDel, List.filter_cons_of_pos (by simpa using hp), ← alDel, List.find?_cons, List.find?_cons, ih]
  have hk : ¬ k = k' := h.symm
  rw [alGet, alGet, alPut, List.find?_cons_of_neg (by simpa using hk), hf]

section
variable {s t : State} {l : LeafId} {m : Master}

theorem leafNum_lt (l : LeafId) : leafNum l < 3 := by cases l <;> decide

/-! The steps of a leaf that is out. -/

theorem lfrComplete_waits (hs : Runs s) (h : leafSt s (leafNum l) = 1) :
    exec (.lfrComplete l) s = .next (putLeafSt (leafNum l) 2 s) := by
  have hf : lfrComplete (leafNum l) s = putLeafSt (leafNum l) 2 s := if_pos h
  have he : exec (.lfrComplete l) s = .next (lfrComplete (leafNum l) s) :=
    act_quiet _ hs.1 (by rw [hf, putLeafSt_flt]; exact hs.2)
  rw [he, hf]

theorem rejoinLoadDone_ready (hs : Runs s) (h : leafSt s (leafNum l) = 3) :
    exec (.rejoinLoadDone l false) s = .next (putLeafSt (leafNum l) 4 s) := by
  have hf : rejoinLoaded (leafNum l) false s = putLeafSt (leafNum l) 4 s := by simp [rejoinLoaded, h]
  have he : exec (.rejoinLoadDone l false) s = .next (rejoinLoaded (leafNum l) false s) :=
    act_quiet _ hs.1 (by rw [hf, putLeafSt_flt]; exact hs.2)
  rw [he, hf]

/-- The leaf whose checkpoint held an uncorrectable word waits for the next one. -/
def waitsAgain (n : Nat) (s : State) : State :=
  { putLeafSt n 2 s with leaf := { s.leaf with loadFrom := alDel s.leaf.loadFrom n } }

theorem waitsAgain_flt (n : Nat) (s : State) : (waitsAgain n s).flt = s.flt := (flt_setLeaf _ _).trans (putLeafSt_flt ..)

theorem waitsAgain_leaf (n : Nat) (s : State) : (waitsAgain n s).leaf = { s.leaf with loadFrom := alDel s.leaf.loadFrom n } :=
  leaf_setLeaf _ _

theorem getReg_waitsAgain (n : Nat) (s : State) (o : Nat) : getReg (waitsAgain n s) o = getReg (putLeafSt n 2 s) o := getReg_setLeaf _ _ o

/-- The frame of the next CC follows raw time, the mapping of TIME and the registers of FRM. -/
theorem nextCc_congr (hr : t.raw = s.raw) (h : ∀ o, o ≠ Reg.LEAF_STAT → getReg t o = getReg s o) : nextCc t = nextCc s := by
  have hpair {o : Nat} (h1 : o ≠ Reg.LEAF_STAT) (h2 : o + 4 ≠ Reg.LEAF_STAT) : pair t o = pair s o := pair_congr (h _ h1) (h _ h2)
  have hfnum : fnum t = fnum s := hpair (by decide) (by decide)
  have hcc (n : Nat) : ccAt t n = ccAt s n := by
    rw [ccAt, tickAt, hpair (by decide) (by decide), hpair (by decide) (by decide), frameNs, fld_congr (h _ (by decide)), ccNs,
      fld_congr (h _ (by decide)), ← frameNs, ← tickAt, ← ccNs, ← ccAt]
  have hraw (x : Nat) : rawAt t x = rawAt s x := by
    have hrate : mapRate t 0 = mapRate s 0 := by rw [mapRate, regInt, h _ (by decide), ← regInt, ← mapRate]
    have htime : mapTime t 0 = mapTime s 0 := hpair (by decide) (by decide)
    have hmap : mapRaw t 0 = mapRaw s 0 := hpair (by decide) (by decide)
    unfold rawAt
    rw [hrate, htime, hmap]
  rw [nextCc, hr, hfnum, hcc, hraw, ← nextCc]

theorem waitsAgain_rest (n : Nat) (s : State) : (waitsAgain n s).raw = s.raw ∧ (waitsAgain n s).spec = s.spec := by
  have h (t : State) (x : LeafState) : ({ t with leaf := x } : State).raw = t.raw ∧ ({ t with leaf := x } : State).spec = t.spec := ⟨rfl, rfl⟩
  rw [waitsAgain, (h _ _).1, (h _ _).2, putLeafSt, putFld_raw, putFld_spec]
  exact ⟨rfl, rfl⟩

theorem exec_rejoinLoadDone (hs : Runs s) (h : leafSt s (leafNum l) = 3) : exec (.rejoinLoadDone l true) s =
    raised (0x052C + leafNum l) 0 (discardFor (nextCc s + 1) (waitsAgain (leafNum l) s)) := by
  have hcc : nextCc (waitsAgain (leafNum l) s) = nextCc s :=
    nextCc_congr (waitsAgain_rest _ s).1 fun o ho => (getReg_waitsAgain _ s o).trans (getReg_putLeafSt_ne s _ _ ho)
  have hf : rejoinLoaded (leafNum l) true s =
      raise (0x052C + leafNum l) 0 (discardFor (nextCc s + 1) (waitsAgain (leafNum l) s)) := by
    rw [← hcc]
    simp only [rejoinLoaded, h, ne_eq, not_true_eq_false, if_false, if_true, waitsAgain]
  have he : exec (.rejoinLoadDone l true) s = .next (settleFaults (rejoinLoaded (leafNum l) true s)) := act_runs _ hs.1
  rw [he, hf, raised]

theorem rejoinLoadDone_again (hs : Roomy s) (h : leafSt s (leafNum l) = 3) : Ends (exec (.rejoinLoadDone l true) s) fun u =>
    leafSt u (leafNum l) = 2 ∧ alGet u.leaf.loadFrom (leafNum l) = none ∧ Queued (0x052C + leafNum l) 0 u := by
  have hl := leafNum_lt l
  set v := discardFor (nextCc s + 1) (waitsAgain (leafNum l) s) with hv
  have hflt : v.flt = s.flt := (discardFor_beside _ _).flt.trans (waitsAgain_flt _ s)
  have hfull : 0x052C + leafNum l ≠ codeQueueFull := by simp only [codeQueueFull]; omega
  obtain ⟨hno, hq⟩ := settle_one (v := raise (0x052C + leafNum l) 0 v) (cls := 0) (mas := 0xF) hs
    (by rw [raise, report_low_flt _ _ _ (by omega), report_low_flt _ _ _ (by omega), hflt]) (by omega) (by omega) hfull
  have hkept := noted_trans (noted_report (0x052C + leafNum l) 0 0xF v (by omega)) hno
  refine ⟨_, exec_rejoinLoadDone hs.1 h, ?_, ?_, hq⟩
  · rw [leafSt, hkept.fld_eq (by decide), fld_congr ((discardFor_beside _ _).regs _ (by decide)), fld_congr (getReg_waitsAgain _ s _)]
    exact leafSt_putLeafSt_same s hl (by omega)
  · rw [hkept.leaf_eq, discardFor_leaf, waitsAgain_leaf]
    exact alGet_alDel_same _ _

theorem rejoinLoadDone_beside (hs : Runs s) (h : leafSt s (leafNum l) = 3) (hframe : s.spec.frame ≠ some (nextCc s + 1)) :
    exec (.rejoinLoadDone l true) s = raised (0x052C + leafNum l) 0
      { putLeafSt (leafNum l) 2 s with leaf := { s.leaf with loadFrom := alDel s.leaf.loadFrom (leafNum l) } } := by
  have hn : discardFor (nextCc s + 1) (waitsAgain (leafNum l) s) = waitsAgain (leafNum l) s :=
    if_neg (by rw [(waitsAgain_rest _ s).2]; exact hframe)
  rw [exec_rejoinLoadDone hs h, hn, waitsAgain]

/-- A leaf whose quarantine a command ends. -/
def leafReleased (n : Nat) (s : State) : State :=
  leafEvent 6 n { putLeafSt n 2 s with
    leaf := { s.leaf with lastFail := alDel s.leaf.lastFail n, loadFrom := alDel s.leaf.loadFrom n } }

theorem leafReleased_flt (n : Nat) (s : State) : (leafReleased n s).flt = s.flt :=
  (leafEvent_flt ..).trans ((flt_setLeaf _ _).trans (putLeafSt_flt ..))

theorem leafReleased_leaf (n : Nat) (s : State) : (leafReleased n s).leaf =
    { s.leaf with lastFail := alDel s.leaf.lastFail n, loadFrom := alDel s.leaf.loadFrom n } :=
  (leafEvent_leaf ..).trans (leaf_setLeaf _ _)

theorem leafReleased_stat (n : Nat) (s : State) : getReg (leafReleased n s) Reg.LEAF_STAT = getReg (putLeafSt n 2 s) Reg.LEAF_STAT :=
  (getReg_leafEvent_ne _ _ _ (by decide)).trans (getReg_setLeaf _ _ _)

/-! The commands of LEAF. -/

theorem isCommand_leafCmd : isCommand Reg.LEAF_CMD = true := by decide +kernel

/-- The value of LEAF.CMD that names a leaf and an operation. -/
def leafCmd (l : LeafId) (op : Nat) : Word := BitVec.ofNat 32 (0x4C460000 + leafNum l * 16 + op)

theorem leafCmd_bits (l : LeafId) : ∀ op, op < 4 → bits (leafCmd l op).toNat 31 16 = 0x4C46 ∧
    bits (leafCmd l op).toNat 5 4 = leafNum l ∧ bits (leafCmd l op).toNat 1 0 = op := by
  cases l <;> decide

theorem regWrite_leafCmd (m : Master) (v : Word) (s : State) : regWrite m Reg.LEAF_CMD v s = respond (leafCommand v.toNat s) :=
  regWrite_command isCommand_leafCmd (txnBarred_outside (.inr (by decide))) rfl

/-- A command that LEAF takes. -/
theorem leafOp_writes {op : Nat} (h : leafCommand (leafCmd l op).toNat s = (true, t)) : leafOp m l op s = answered t := by
  have hw : writeReg m Reg.LEAF_CMD (leafCmd l op) s = answered t :=
    writeReg_ok (isCommand_regOffset isCommand_leafCmd) (by rw [regWrite_leafCmd, h]; rfl)
  rw [← hw, leafOp, leafCmd]

/-- A command that LEAF takes and that raises nothing. -/
theorem leafOp_accepted {op : Nat} (hs : Runs s) (h : leafCommand (leafCmd l op).toNat s = (true, t)) (ht : t.flt = s.flt) :
    act s (leafOp m l op) = accepted t := by
  have hq : (answered t).flt.arrived = [] := by rw [← hs.2, ← ht, answered]
  rw [act_quiet _ hs.1 (by rw [leafOp_writes h]; exact hq), leafOp_writes h, accepted, answered]

/-! What LEAF makes of a command, by the leaf's state. -/

theorem leafCommand_release (h : leafSt s (leafNum l) = 5) :
    leafCommand (leafCmd l 3).toNat s = (true, discardFor (nextCc (leafReleased (leafNum l) s) + 1) (leafReleased (leafNum l) s)) := by
  obtain ⟨h1, h2, h3⟩ := leafCmd_bits l 3 (by omega)
  have hl : leafNum l ≠ 3 := (leafNum_lt l).ne
  simp only [leafCommand, h1, h2, h3, h, hl]
  rfl

theorem leafCommand_release_idle (h : leafSt s (leafNum l) ≠ 5) : leafCommand (leafCmd l 3).toNat s = (true, s) := by
  obtain ⟨h1, h2, h3⟩ := leafCmd_bits l 3 (by omega)
  have hl : leafNum l ≠ 3 := (leafNum_lt l).ne
  simp [leafCommand, h1, h2, h3, h, hl]

section
variable (hv : inVote s = [0, 1, 2])
include hv

/-- One of three leaves may leave the vote. -/
theorem vote_spares : ¬ (inVote s).length - 1 < voteMin s := by
  have hmin := voteMin_le s
  rw [hv]
  exact Nat.not_lt.mpr hmin

theorem leafCommand_restart (hw : widerReset s = false) :
    leafCommand (leafCmd l 1).toNat s = (true, refreshVote (leaveVote 3 (leafNum l) s)) := by
  obtain ⟨h1, h2, h3⟩ := leafCmd_bits l 1 (by omega)
  have hl : leafNum l ≠ 3 := (leafNum_lt l).ne
  simp [leafCommand, h1, h2, h3, hl, leafSt_of_inVote s hv (leafNum_lt l), vote_spares hv, hw]

theorem leafCommand_restart_discarded (hw : widerReset s = true) :
    leafCommand (leafCmd l 1).toNat s = (true, discardReset s) := by
  obtain ⟨h1, h2, h3⟩ := leafCmd_bits l 1 (by omega)
  have hl : leafNum l ≠ 3 := (leafNum_lt l).ne
  simp [leafCommand, h1, h2, h3, hl, leafSt_of_inVote s hv (leafNum_lt l), vote_spares hv, hw]

theorem leafCommand_quarantine :
    leafCommand (leafCmd l 2).toNat s = (true, quarantine (leafNum l) (leaveVote 3 (leafNum l) s)) := by
  obtain ⟨h1, h2, h3⟩ := leafCmd_bits l 2 (by omega)
  have hl : leafNum l ≠ 3 := (leafNum_lt l).ne
  simp [leafCommand, h1, h2, h3, hl, leafSt_of_inVote s hv (leafNum_lt l), vote_spares hv]

end

/-! The commands. -/

theorem filter_leaf_length (l : LeafId) : ([0, 1, 2].filter fun k => decide (k ≠ leafNum l)).length = 2 := by cases l <;> decide

theorem leafSt_answered (s : State) (k : Nat) : leafSt (answered s) k = leafSt s k := fld_answered s _ _ _

theorem inVote_answered (s : State) : inVote (answered s) = inVote s := List.filter_congr fun k _ => by rw [leafSt_answered]

theorem leafRestart_leaves (hs : Runs s) (hv : inVote s = [0, 1, 2]) (hw : widerReset s = false) (ha : s.leaf.actHalt = false) :
    Ends (exec (.leafRestart m l) s) fun u => leafSt u (leafNum l) = 1 ∧ (inVote u).length = 2 ∧ u.answer = .done ∧
      fld u Reg.LEAF_STAT 17 16 = 2 := by
  have hl := leafNum_lt l
  set v := leaveVote 3 (leafNum l) s with hvdef
  have hst (k : Nat) : leafSt v k = if k = leafNum l then 1 else leafSt s k := leafSt_leaveVote s 3 k hl
  have hlen : (inVote v).length = 2 := by rw [inVote_left hv (by decide) fun k _ => hst k, filter_leaf_length]
  have hn : (inVote v).length ≠ 1 := by omega
  have hflt : (refreshVote v).flt = s.flt := (refreshVote_rest v hn).1.trans (leaveVote_flt ..)
  have hact : v.leaf.actHalt = false := by rw [hvdef, leaveVote_leaf, ha]
  refine ends_accepted (leafOp_accepted hs (leafCommand_restart hv hw) hflt) ⟨?_, ?_, answered_answer _, ?_⟩
  · rw [leafSt_answered, leafSt_refreshVote v hn hl, hst, if_pos rfl]
  · rw [inVote_answered, inVote_refreshVote v hn, hlen]
  · rw [fld_answered, vote_refreshVote v hn hact, hlen]

theorem leafRestart_discarded (hs : Runs s) (hv : inVote s = [0, 1, 2]) (hw : widerReset s = true) :
    exec (.leafRestart m l) s = accepted (discardReset s) :=
  leafOp_accepted hs (leafCommand_restart_discarded hv hw) (putFlag_flt ..)

theorem leafQuarantine_leaves (hs : Roomy s) (hv : inVote s = [0, 1, 2]) : Ends (exec (.leafQuarantine m l) s) fun u =>
    leafSt u (leafNum l) = 5 ∧ (inVote u).length = 2 ∧ u.answer = .done ∧ Queued (0x0520 + leafNum l) 1 u := by
  have hl := leafNum_lt l
  set n := leafNum l with hndef
  set v := leafEvent 5 n (putLeafSt n 5 (leaveVote 3 n s)) with hvdef
  have hstat : getReg v Reg.LEAF_STAT = getReg (putLeafSt n 5 (leaveVote 3 n s)) Reg.LEAF_STAT := getReg_leafEvent_ne _ _ _ (by decide)
  have hst (k : Nat) : leafSt v k = if k = n then 5 else leafSt s k := by
    rw [leafSt, fld_congr hstat, ← leafSt]
    split
    · rename_i h
      rw [h, leafSt_putLeafSt_same _ hl (by omega)]
    · rename_i h
      rw [leafSt_putLeafSt_ne _ _ hl h, leafSt_leaveVote _ _ _ hl, if_neg h]
  have hlen : (inVote v).length = 2 := by rw [inVote_left hv (by decide) fun k _ => hst k, filter_leaf_length]
  have hn : (inVote v).length ≠ 1 := by omega
  have hflt : (refreshVote v).flt = s.flt := by
    rw [(refreshVote_rest v hn).1, hvdef, leafEvent_flt, putLeafSt_flt, leaveVote_flt]
  have hfull : 0x0520 + n ≠ codeQueueFull := by simp only [codeQueueFull]; omega
  have hask : ∀ t : State, (answered t).flt = t.flt := fun t => rfl
  obtain ⟨hno, hq⟩ := settle_one (v := answered (raise (0x0520 + n) 1 (refreshVote v))) (code := 0x0520 + n) (cls := 1) (mas := 0xF) hs
    (by rw [hask, raise, report_low_flt _ _ _ (by omega), report_low_flt _ _ _ (by omega), hflt]) (by omega) (by omega) hfull
  have he : exec (.leafQuarantine m l) s = .next (settleFaults (leafOp m l 2 s)) := act_runs _ hs.1.1
  have hquar : quarantine n (leaveVote 3 n s) = raise (0x0520 + n) 1 (refreshVote v) := rfl
  rw [leafOp_writes (leafCommand_quarantine hv), hquar] at he
  have hsts (k : Nat) : leafSt (settleFaults (answered (raise (0x0520 + n) 1 (refreshVote v)))) k = leafSt (refreshVote v) k := by
    rw [leafSt, hno.fld_eq (by decide), fld_answered, raise, fld_congr (getReg_report_ne _ _ _ (by omega) (by decide)), leafSt]
  refine ⟨_, he, ?_, ?_, ?_, hq⟩
  · rw [hsts, leafSt_refreshVote v hn hl, hst, if_pos rfl]
  · rw [← hlen, ← inVote_refreshVote v hn]
    exact congrArg List.length (List.filter_congr fun k _ => by rw [hsts])
  · rw [hno.answer_eq, answered_answer]

theorem leafRelease_waits (hs : Runs s) (h : leafSt s (leafNum l) = 5) : Ends (exec (.leafRelease m l) s) fun u =>
    leafSt u (leafNum l) = 2 ∧ u.answer = .done ∧ alGet u.leaf.lastFail (leafNum l) = none := by
  have hl := leafNum_lt l
  set v := discardFor (nextCc (leafReleased (leafNum l) s) + 1) (leafReleased (leafNum l) s)
  have hflt : v.flt = s.flt := (discardFor_beside _ _).flt.trans (leafReleased_flt _ s)
  refine ends_accepted (leafOp_accepted hs (leafCommand_release h) hflt) ⟨?_, answered_answer _, ?_⟩
  · rw [leafSt_answered, leafSt, fld_congr ((discardFor_beside _ _).regs _ (by decide)), fld_congr (leafReleased_stat _ s)]
    exact leafSt_putLeafSt_same s hl (by omega)
  · have hask : (answered v).leaf = v.leaf := by rw [answered]
    rw [hask, discardFor_leaf, leafReleased_leaf]
    exact alGet_alDel_same _ _

/-! The trap log. -/

theorem regRow_trapLog : (regRow? Reg.LEAF_TRAPLOG).any (fun x => x.1.wo = 0) = true := by decide +kernel

/-- The trap log and its companions show what their registers hold. -/
theorem regView_trap (m : Master) (s : State) :
    ∀ o ∈ [Reg.LEAF_TRAPLOG, Reg.LEAF_TRAPPC, Reg.LEAF_TRAPITER, Reg.LEAF_TRAPFN], regView m o s = (getReg s o, s) := by
  simp only [List.forall_mem_cons, List.not_mem_nil, false_implies, implies_true, and_true]
  exact ⟨rfl, rfl, rfl, rfl⟩

/-- The state behind a read of the trap log. -/
def trapLatched (m : Master) (s : State) : State :=
  { s with latch := alPut (alPut (alPut s.latch (masterKey m Reg.LEAF_TRAPPC) (getReg s Reg.LEAF_TRAPPC))
    (masterKey m Reg.LEAF_TRAPITER) (getReg s Reg.LEAF_TRAPITER)) (masterKey m Reg.LEAF_TRAPFN) (getReg s Reg.LEAF_TRAPFN) }

theorem regRead_trapLog (h : alGet s.latch (masterKey m Reg.LEAF_TRAPLOG) = none) :
    regRead m Reg.LEAF_TRAPLOG s = (some (getReg s Reg.LEAF_TRAPLOG), trapLatched m s) := by
  obtain ⟨⟨r, ix⟩, hr, hwo⟩ := (Option.any_eq_true ..).mp regRow_trapLog
  replace hwo : r.wo = 0 := of_decide_eq_true hwo
  have hread : readable Reg.LEAF_TRAPLOG = true := by rw [readable, hr]; rfl
  have hf : refreshRead Reg.LEAF_TRAPLOG s = s := rfl
  have hl : latchedBy Reg.LEAF_TRAPLOG = [Reg.LEAF_TRAPPC, Reg.LEAF_TRAPITER, Reg.LEAF_TRAPFN] := rfl
  have hview (t : State) := regView_trap m t
  simp only [List.forall_mem_cons, List.not_mem_nil, false_implies, implies_true, and_true] at hview
  have hall : getReg s Reg.LEAF_TRAPLOG &&& 4294967295#32 = getReg s Reg.LEAF_TRAPLOG := BitVec.and_allOnes
  have hlatch (x : List (Nat × Word)) (o : Nat) : getReg { s with latch := x } o = getReg s o := rfl
  simp [regRead, hread, hf, h, hl, hr, hwo, hview, latchAll, trapLatched, hall, hlatch]

theorem traplogRead_latches (hs : Runs s) (h : alGet s.latch (masterKey m Reg.LEAF_TRAPLOG) = none) :
    Ends (exec (.traplogRead m) s) fun u => u.answer = .data (regNat s Reg.LEAF_TRAPLOG) ∧
      ∀ o ∈ [Reg.LEAF_TRAPPC, Reg.LEAF_TRAPITER, Reg.LEAF_TRAPFN], alGet u.latch (masterKey m o) = some (getReg s o) := by
  have hr := readReg_eq m Reg.LEAF_TRAPLOG s (by decide)
  rw [regRead_trapLog h] at hr
  have hflt : (readReg m Reg.LEAF_TRAPLOG s).flt.arrived = [] := by rw [hr]; exact hs.2
  have he : exec (.traplogRead m) s = .next (readReg m Reg.LEAF_TRAPLOG s) := act_quiet _ hs.1 hflt
  have hne {o o' : Nat} (h : o ≠ o') : masterKey m o ≠ masterKey m o' := by simp only [masterKey]; omega
  have hlatch : (readReg m Reg.LEAF_TRAPLOG s).latch = (trapLatched m s).latch := by rw [hr]
  refine ⟨_, he, by rw [hr]; rfl, ?_⟩
  simp only [hlatch, List.forall_mem_cons, List.not_mem_nil, false_implies, implies_true, and_true]
  refine ⟨?_, ?_, ?_⟩
  · rw [trapLatched, alGet_alPut_ne _ _ (hne (by decide)), alGet_alPut_ne _ _ (hne (by decide)), alGet_alPut_same]
  · rw [trapLatched, alGet_alPut_ne _ _ (hne (by decide)), alGet_alPut_same]
  · rw [trapLatched, alGet_alPut_same]

end

/-- Settles O37: the steps of a leaf that is out (`lfrComplete_waits`, `rejoinLoadDone_ready`, `rejoinLoadDone_again`), the commands of
LEAF (`leafRestart_leaves`, `leafQuarantine_leaves`, `leafRelease_waits`), and the trap log (`traplogRead_latches`). -/
theorem leafCourse : Obligations.LeafCourse := by
  unfold Obligations.LeafCourse
  intro s l m hs n
  refine ⟨lfrComplete_waits hs.1, fun h => ⟨rejoinLoadDone_ready hs.1 h, rejoinLoadDone_again hs h, rejoinLoadDone_beside hs.1 h⟩,
    fun hv => ⟨leafRestart_leaves hs.1 hv, leafRestart_discarded hs.1 hv, leafQuarantine_leaves hs hv⟩, leafRelease_waits hs.1,
    fun h => leafOp_accepted hs.1 (leafCommand_release_idle h) rfl, traplogRead_latches hs.1⟩

end Sys2Proof.Machine
end

section
/-! SUPPORT. Notices and F1 faults of few kinds, however many: those of a kind stand in FLT's order side by side and merge into one entry
(R374, R378). -/

namespace Sys2Proof.Machine

/-- FLT's order as a number: the higher class first, then the lower code. -/
def arrivalKey (a : Arrival) : Nat := (3 - a.cls.val) * 2 ^ 16 + a.code.toNat

theorem takenBefore_iff (a b : Arrival) : takenBefore a b = true ↔ arrivalKey a ≤ arrivalKey b := by
  have ha := a.code.isLt
  have hb := b.code.isLt
  have ha' := a.cls.isLt
  have hb' := b.cls.isLt
  simp only [takenBefore, arrivalKey, Bool.or_eq_true, Bool.and_eq_true, decide_eq_true_eq, Fin.lt_def, Fin.ext_iff]
  omega

/-- A fault's kind is its code and its class. -/
theorem arrivalKey_kind {a b : Arrival} (h : arrivalKey a = arrivalKey b) : a.code = b.code ∧ a.cls = b.cls := by
  have ha := a.code.isLt
  have hb := b.code.isLt
  have ha' := a.cls.isLt
  have hb' := b.cls.isLt
  simp only [arrivalKey] at h
  exact ⟨BitVec.eq_of_toNat_eq (by omega), Fin.ext (by omega)⟩

theorem insertArrival_sorted (a : Arrival) {l : List Arrival} (h : l.Pairwise fun x y => arrivalKey x ≤ arrivalKey y) :
    (insertArrival a l).Pairwise fun x y => arrivalKey x ≤ arrivalKey y := by
  induction l with
  | nil => exact List.pairwise_singleton _ a
  | cons b r ih =>
    obtain ⟨hb, hr⟩ := List.pairwise_cons.mp h
    unfold insertArrival
    split
    · rename_i hba
      refine List.pairwise_cons.mpr ⟨fun c hc => ?_, ih hr⟩
      rcases (insertArrival_mem a c r).mp hc with rfl | hc
      · exact (takenBefore_iff _ _).mp hba
      · exact hb c hc
    · rename_i hba
      have hab : arrivalKey a ≤ arrivalKey b := by
        by_contra hlt
        exact hba ((takenBefore_iff _ _).mpr (by omega))
      refine List.pairwise_cons.mpr ⟨fun c hc => ?_, h⟩
      rcases List.mem_cons.mp hc with rfl | hc
      · exact hab
      · exact hab.trans (hb c hc)

theorem sortArrivals_sorted (l : List Arrival) : (sortArrivals l).Pairwise fun x y => arrivalKey x ≤ arrivalKey y := by
  have h : ∀ (l m : List Arrival), (m.Pairwise fun x y => arrivalKey x ≤ arrivalKey y) →
      (l.foldl (fun m a => insertArrival a m) m).Pairwise fun x y => arrivalKey x ≤ arrivalKey y := by
    intro l
    induction l with
    | nil => exact fun m hm => hm
    | cons b r ih => exact fun m hm => ih _ (insertArrival_sorted b hm)
  exact h l [] List.Pairwise.nil

/-- Taking faults in FLT's order: the queue grows by an entry for each kind behind that of the newest entry. -/
theorem foldl_takeArrival_kinds (D : Finset Nat) (l : List Arrival) (k : Nat) (s : State) (hl : ∀ a ∈ l, Small a)
    (hsort : l.Pairwise fun x y => arrivalKey x ≤ arrivalKey y) (hD : ∀ a ∈ l, arrivalKey a ∈ D ∧ k ≤ arrivalKey a)
    (hnew : ∀ a ∈ l, arrivalKey a = k → Newest a.code a.cls s) (h : s.flt.queue.length + (D.filter (k < ·)).card < 64) :
    Noted s (l.foldl takeArrival s) ∧ (l.foldl takeArrival s).flt.queue.length ≤ s.flt.queue.length + (D.filter (k < ·)).card ∧
      ∃ d : List Arrival, (l.foldl takeArrival s).flt.arrived = s.flt.arrived ++ d ∧ ∀ a ∈ d, dropArrival a := by
  induction l generalizing s k with
  | nil => exact ⟨noted_refl s, by simp, [], by simp, by simp⟩
  | cons a r ih =>
    obtain ⟨har, hr⟩ := List.pairwise_cons.mp hsort
    obtain ⟨haD, hka⟩ := hD a (by simp)
    obtain ⟨h1, h2, h3, h4, -, d, h6, h7⟩ := takeArrival_small a s (hl a (by simp)) (by omega)
    have hsub : D.filter (arrivalKey a < ·) ⊆ D.filter (k < ·) := Finset.monotone_filter_right D fun x _ hx => lt_of_le_of_lt hka hx
    have hgrow : (takeArrival s a).flt.queue.length + (D.filter (arrivalKey a < ·)).card ≤
        s.flt.queue.length + (D.filter (k < ·)).card := by
      rcases hka.eq_or_lt with heq | hlt
      · rw [h3 (hnew a (by simp) heq.symm), heq]
      · have hss : D.filter (arrivalKey a < ·) ⊂ D.filter (k < ·) :=
          (Finset.ssubset_iff_of_subset hsub).mpr ⟨arrivalKey a, by simp [haD, hlt], by simp⟩
        have := Finset.card_lt_card hss
        omega
    have hnew' : ∀ b ∈ r, arrivalKey b = arrivalKey a → Newest b.code b.cls (takeArrival s a) := fun b _ hb => by
      obtain ⟨hc, hk⟩ := arrivalKey_kind hb
      rw [hc, hk]
      exact h4
    obtain ⟨k1, k2, d', k3, k4⟩ := ih (arrivalKey a) (takeArrival s a) (fun b hb => hl b (by simp [hb])) hr
      (fun b hb => ⟨(hD b (by simp [hb])).1, har b hb⟩) hnew' (by omega)
    refine ⟨noted_trans h1 k1, by rw [List.foldl_cons]; omega, d ++ d', ?_, ?_⟩
    · rw [List.foldl_cons, k3, h6, List.append_assoc]
    · intro b hb
      rcases List.mem_append.mp hb with hb | hb
      · exact h7 b hb
      · exact k4 b hb

/-- Notices and F1 faults of at most 12 kinds, with the room that every command has, leave nothing but what `Noted` names. -/
theorem settleFaults_kinds (D : Finset Nat) (s : State) (hl : ∀ a ∈ s.flt.arrived, Small a) (hD : ∀ a ∈ s.flt.arrived, arrivalKey a ∈ D)
    (hcard : D.card ≤ 12) (hq : s.flt.queue.length ≤ 48) : Noted s (settleFaults s) := by
  show Noted s (takeArrivals 4 s)
  unfold takeArrivals
  split
  · exact noted_refl s
  · set s1 : State := { s with flt := { s.flt with arrived := [] } } with hs1
    have hmem (a : Arrival) : a ∈ sortArrivals s.flt.arrived ↔ a ∈ s.flt.arrived := (sortArrivals_spec _).1 a
    have hpos (a : Arrival) (ha : Small a) : 0 < arrivalKey a := by
      have := ha.1
      simp only [arrivalKey]
      omega
    have hfilter : (D.filter (0 < ·)).card ≤ D.card := Finset.card_filter_le _ _
    have hq1 : s1.flt.queue = s.flt.queue := rfl
    obtain ⟨h1, h2, d, h3, h4⟩ := foldl_takeArrival_kinds D (sortArrivals s.flt.arrived) 0 s1
      (fun a ha => hl a ((hmem a).mp ha)) (sortArrivals_sorted _) (fun a ha => ⟨hD a ((hmem a).mp ha), by omega⟩)
      (fun a ha h0 => absurd h0 (hpos a (hl a ((hmem a).mp ha))).ne') (by rw [hq1]; omega)
    have h3' : (List.foldl takeArrival s1 (sortArrivals s.flt.arrived)).flt.arrived = d := by rw [h3, hs1]; rfl
    exact noted_trans (noted_trans (noted_arrived s []) h1)
      (takeArrivals_drops 3 _ (by rw [h3']; exact h4) (by rw [hq1] at h2; omega)).1

end Sys2Proof.Machine
end

section
/-! SUPPORT. The passage of time, the ward's periods and modes, and the causes of resets: what they leave alone (R35, R171, R358, R363,
R367). -/

namespace Sys2Proof.Machine

/-- The registers that count what passes: the ward's, the missed heartbeats, and the causes of resets. -/
def passReg (o : Nat) : Bool := 0x400000 ≤ o || o = Reg.HASP_HBMISS || o = Reg.SYS_RSTCAUSE

/-- `t` is `s` but for raw time, the registers of `passReg`, the ward, and what the memory devices, the recorder and the pair's port
keep; the undo log and the commits that a partner has told stand. -/
structure Apart (s t : State) : Prop where
  rest : { t with free := s.free, raw := s.raw, regs := s.regs, ward := s.ward, mm := s.mm, pst := s.pst, hasp := s.hasp } = s
  undo : t.mm.undo = s.mm.undo
  told : t.hasp.commitsDue = s.hasp.commitsDue
  regs : ∀ o, passReg o = false → getReg t o = getReg s o

section
variable {s t u : State}

theorem Apart.refl (s : State) : Apart s s := ⟨rfl, rfl, rfl, fun _ _ => rfl⟩

theorem Apart.trans (h : Apart s t) (k : Apart t u) : Apart s u := by
  refine ⟨?_, k.undo.trans h.undo, k.told.trans h.told, fun o ho => (k.regs o ho).trans (h.regs o ho)⟩
  rw [← h.rest, ← k.rest]

theorem Apart.mem (h : Apart s t) : t.mem = s.mem := by have h1 := congrArg State.mem h.rest; exact h1
theorem Apart.ecc (h : Apart s t) : t.ecc = s.ecc := by have h1 := congrArg State.ecc h.rest; exact h1
theorem Apart.frm (h : Apart s t) : t.frm = s.frm := by have h1 := congrArg State.frm h.rest; exact h1
theorem Apart.txn (h : Apart s t) : t.txn = s.txn := by have h1 := congrArg State.txn h.rest; exact h1
theorem Apart.spec (h : Apart s t) : t.spec = s.spec := by have h1 := congrArg State.spec h.rest; exact h1
theorem Apart.leaf (h : Apart s t) : t.leaf = s.leaf := by have h1 := congrArg State.leaf h.rest; exact h1
theorem Apart.flt (h : Apart s t) : t.flt = s.flt := by have h1 := congrArg State.flt h.rest; exact h1
theorem Apart.olc (h : Apart s t) : t.olc = s.olc := by have h1 := congrArg State.olc h.rest; exact h1
theorem Apart.lanes (h : Apart s t) : t.lanes = s.lanes := by have h1 := congrArg State.lanes h.rest; exact h1
theorem Apart.time (h : Apart s t) : t.time = s.time := by have h1 := congrArg State.time h.rest; exact h1
theorem Apart.dio (h : Apart s t) : t.dio = s.dio := by have h1 := congrArg State.dio h.rest; exact h1
theorem Apart.ao (h : Apart s t) : t.ao = s.ao := by have h1 := congrArg State.ao h.rest; exact h1

theorem Apart.putReg (s : State) {o : Nat} (v : Word) (h : passReg o = true) : Apart s (putReg s o v) := by
  refine ⟨rfl, rfl, rfl, fun o' ho => getReg_putReg_ne s v ?_⟩
  rintro rfl
  rw [h] at ho
  cases ho

theorem Apart.putFld (s : State) {o : Nat} (hi lo x : Nat) (h : passReg o = true) : Apart s (putFld s o hi lo x) := .putReg s _ h
theorem Apart.putFlag (s : State) {o : Nat} (i : Nat) (b : Bool) (h : passReg o = true) : Apart s (putFlag s o i b) := .putReg s _ h
theorem Apart.putNat (s : State) {o : Nat} (v : Nat) (h : passReg o = true) : Apart s (putNat s o v) := .putReg s _ h
theorem Apart.bumpBy (s : State) {o : Nat} (hi lo n : Nat) (h : passReg o = true) : Apart s (bumpBy s o hi lo n) := .putReg s _ h

theorem Apart.setWard (s : State) (x : WardState) : Apart s { s with ward := x } := ⟨rfl, rfl, rfl, fun _ _ => rfl⟩

end

section
variable (s : State)

/-! The ward. -/

theorem newPeriod_apart (op : Bool) : Apart s (newPeriod op s) :=
  ((((Apart.putNat s _ (by decide)).trans (.putNat _ _ (by decide))).trans (.putFld _ _ _ _ (by decide))).trans
    (.putFlag _ _ _ (by decide))).trans (.setWard _ _)

theorem enterWindow_apart (reason : Nat) : Apart s (enterWindow reason s) :=
  ((Apart.putFld s _ _ _ (by decide)).trans (.putFld _ _ _ _ (by decide))).trans (newPeriod_apart _ true)

theorem wardTicks_apart (n : Nat) : Apart s (wardTicks n s) := by
  have hpos (c : Nat) (s : State) : Apart s (putPos c s) := .putFld s _ _ _ (by decide)
  unfold wardTicks
  split
  · exact .refl s
  · split
    · exact (newPeriod_apart s false).trans (hpos _ _)
    · exact hpos _ s

theorem wardRefresh_apart : Apart s (wardRefresh s) := by
  unfold wardRefresh
  extract_lets st
  split
  · split
    · exact (Apart.setWard s _).trans (.putFld _ _ _ _ (by decide))
    · exact .refl s
  · split
    · split
      · exact .setWard s _
      · split
        · exact enterWindow_apart s 0
        · exact .putFld s _ _ _ (by decide)
    · exact .refl s

theorem wardMode_apart : Apart s (wardMode s) := by
  unfold wardMode
  extract_lets t
  have h : Apart s t := wardRefresh_apart s
  split
  · split
    · exact ((h.trans (.putFld _ _ _ _ (by decide))).trans (.putFld _ _ _ _ (by decide))).trans (.putFlag _ _ _ (by decide))
    · split
      · exact h.trans (.putFld _ _ _ _ (by decide))
      · exact h
  · split
    · exact h.trans (.putFld _ _ _ _ (by decide))
    · exact h

/-! Time passes. -/

/-- What passes with raw time beside the ward. -/
theorem passed_apart (t : State) (r k q d : Nat) : Apart t { t with
    raw := r
    mm := { t.mm with ptime := t.mm.ptime + k }
    pst := { t.pst with optime := t.pst.optime + q }
    hasp := { t.hasp with mirrorQ := t.hasp.mirrorQ - d } } := ⟨rfl, rfl, rfl, fun _ _ => rfl⟩

theorem advanceTo_apart (r : Nat) : Apart s (advanceTo r s) := by
  have hmiss (k : Nat) : Apart s (if k = 0 then s else bumpBy s Reg.HASP_HBMISS 15 0 k) := by
    split
    · exact .refl s
    · exact .bumpBy s _ _ _ (by decide)
  simp only [advanceTo]
  split
  · exact .refl s
  · exact ((hmiss _).trans (wardTicks_apart _ _)).trans (passed_apart _ _ _ _ _)

theorem advanceTo_raw (r : Nat) : (advanceTo r s).raw = max s.raw r := by
  simp only [advanceTo]
  split
  · rename_i h
    exact (Nat.max_eq_left h).symm
  · rename_i h
    have hmax : max s.raw r = r := Nat.max_eq_right (by omega)
    exact hmax.symm

/-! The cause of a CDR. -/

theorem cdrCause_apart : Apart s (cdrCause s) ∧ (cdrCause s).raw = s.raw := by
  have hcause (b m : Nat) (s : State) : Apart s (resetCause b m s) ∧ (resetCause b m s).raw = s.raw :=
    ⟨(Apart.putFlag s _ _ (by decide)).trans (.putFld _ _ _ _ (by decide)), by rw [resetCause, putFld_raw, putFlag_raw]⟩
  have hfree (s : State) : Apart s (takeFree s).2 ∧ (takeFree s).2.raw = s.raw := ⟨⟨rfl, rfl, rfl, fun _ _ => rfl⟩, rfl⟩
  unfold cdrCause
  split
  · exact hcause _ _ s
  · exact ⟨(hfree s).1.trans (hcause _ _ _).1, (hcause _ _ _).2.trans (hfree s).2⟩
  · exact hcause _ _ s

end

end Sys2Proof.Machine
end

section
/-! The start of a CDR (R33, R156, R375): open transactions end, and the instances are those of the latest complete checkpoint. -/

namespace Sys2Proof.Machine

/-! Reading the banks of the checkpoint. -/

section
variable {s t : State}

theorem memBytes_of_mem (h : t.mem = s.mem) (a n : Nat) : memBytes t a n = memBytes s a n :=
  memBytes_congr s t a n fun _ _ => memByte_of_mem h _

theorem memNat_of_mem (h : t.mem = s.mem) (a n : Nat) : memNat t a n = memNat s a n := by rw [memNat, memBytes_of_mem h, memNat]

theorem latestBank_congr (h : t.mem = s.mem) (base : Nat) : latestBank t base = latestBank s base := by
  have hdone (b : Nat) : bankDone t base b = bankDone s base b := by rw [bankDone, memNat_of_mem h, bankDone]
  simp only [latestBank, hdone, memNat_of_mem h]

theorem bankGood_congr (h : t.mem = s.mem) (he : t.ecc = s.ecc) (a : Nat) : bankGood t a = bankGood s a := by
  have hload (a n : Nat) : unitLoad a n t = unitLoad a n s := by rw [unitLoad, he, memBytes_of_mem h, unitLoad]
  have hbytes : bankBytes t a = bankBytes s a := by simp only [bankBytes, bankSlots, hload, memNat_of_mem h]
  rw [bankGood, hbytes, memNat_of_mem h, bankGood]

/-- The registers by which a restore finds its bank and dates what it restores. -/
def restoreReg (o : Nat) : Bool :=
  o = Reg.LEAF_CKBASE_LO || o = Reg.LEAF_CKBASE_HI || o = Reg.FRM_FBASET_LO || o = Reg.FRM_FBASET_LO + 4 || o = Reg.FRM_FBASEN_LO ||
    o = Reg.FRM_FBASEN_LO + 4 || o = Reg.FRM_KNOW

theorem restoreBase_congr (hl : t.leaf = s.leaf) (hr : ∀ o, restoreReg o = true → getReg t o = getReg s o) :
    restoreBase t = restoreBase s := by
  have hck : ckBase t = ckBase s := by
    rw [ckBase, fld_congr (hr _ (by decide)), fld_congr (hr _ (by decide)), ← ckBase]
  rw [restoreBase, hl, hck, restoreBase]

theorem tickAt_congr (hr : ∀ o, restoreReg o = true → getReg t o = getReg s o) (n : Nat) : tickAt t n = tickAt s n := by
  rw [tickAt, pair_congr (hr _ (by decide)) (hr _ (by decide)), pair_congr (hr _ (by decide)) (hr _ (by decide)), frameNs,
    fld_congr (hr _ (by decide)), ← frameNs, ← tickAt]

theorem restoreInst_congr (h : t.mem = s.mem) (hr : ∀ o, restoreReg o = true → getReg t o = getReg s o) (a : Nat) (m : Mark) :
    restoreInst t a m = restoreInst s a m := by
  funext k
  simp only [restoreInst, memNat_of_mem h, memBytes_of_mem h, tickAt_congr hr]

end

/-! The open transactions. -/

/-- The registers of the slots. -/
def slotReg (o : Nat) : Bool := 0x20100 ≤ o && o < 0x20200

/-- `t` is `s` but for TXN and the registers of its slots. -/
structure SlotsOnly (s t : State) : Prop where
  rest : { t with regs := s.regs, txn := s.txn } = s
  regs : ∀ o, slotReg o = false → getReg t o = getReg s o

section
variable {s t u : State}

theorem SlotsOnly.refl (s : State) : SlotsOnly s s := ⟨rfl, fun _ _ => rfl⟩

theorem SlotsOnly.trans (h : SlotsOnly s t) (k : SlotsOnly t u) : SlotsOnly s u := by
  refine ⟨?_, fun o ho => (k.regs o ho).trans (h.regs o ho)⟩
  rw [← h.rest, ← k.rest]

theorem SlotsOnly.putFld (s : State) {o : Nat} (hi lo x : Nat) (h : slotReg o = true) : SlotsOnly s (putFld s o hi lo x) := by
  refine ⟨rfl, fun o' ho => getReg_putFld_ne s hi lo x ?_⟩
  rintro rfl
  rw [h] at ho
  cases ho

theorem SlotsOnly.setTxn (s : State) (x : TxnState) : SlotsOnly s { s with txn := x } := ⟨rfl, fun _ _ => rfl⟩

theorem slotReg_stat {n : Nat} (h : n < 4) : slotReg (Reg.TXN_SLOT_STAT n) = true := by
  simp only [slotReg, Bool.and_eq_true, decide_eq_true_eq]
  simp only [Reg.TXN_SLOT_STAT]
  omega

/-- What a reset does with an open slot. -/
def resetSlot (s : State) (n : Nat) : State := endSlot n resReset (clearStaged n s)

theorem resetSlot_spec {n : Nat} (hn : n < 4) (h : slotState s n = 1) : SlotsOnly s (resetSlot s n) ∧
    ∀ k, slotState (resetSlot s n) k = if k = n then 0 else slotState s k := by
  have hstat := slotReg_stat hn
  have hclear : SlotsOnly s (clearStaged n s) :=
    ((SlotsOnly.putFld s _ _ _ hstat).trans (.putFld _ _ _ _ hstat)).trans (.setTxn _ _)
  have hopen : slotState (clearStaged n s) n ≠ 2 := by rw [slotState_clearStaged, h]; decide
  have hquiet := endSlot_quiet (res := resReset) hopen
  refine ⟨?_, fun k => ?_⟩
  · rw [resetSlot, hquiet]
    exact hclear.trans ((((SlotsOnly.putFld _ _ _ _ hstat).trans (.putFld _ _ _ _ hstat)).trans (.setTxn _ _)).trans (.setTxn _ _))
  · split
    · rename_i hk
      rw [hk]
      exact (endSlot_stat hopen (by decide)).1
    · rename_i hk
      have hne : Reg.TXN_SLOT_STAT k ≠ Reg.TXN_SLOT_STAT n := by simp only [Reg.TXN_SLOT_STAT]; omega
      have hend : getReg (resetSlot s n) (Reg.TXN_SLOT_STAT k) = getReg (clearStaged n s) (Reg.TXN_SLOT_STAT k) := by
        rw [resetSlot, hquiet, getReg_rewrote]
        exact (getReg_setTxn _ _ _).trans ((getReg_putFld_ne _ _ _ _ hne).trans (getReg_putFld_ne _ _ _ _ hne))
      rw [slotState, fld_congr hend, ← slotState, slotState_clearStaged]

/-- Every open slot of a list ends. -/
theorem forAll_resetSlot (l : List Nat) (s : State) (hl : l.Nodup) (h : ∀ m ∈ l, m < 4 ∧ slotState s m = 1) :
    SlotsOnly s (forAll l resetSlot s) ∧ ∀ k, slotState (forAll l resetSlot s) k = if k ∈ l then 0 else slotState s k := by
  induction l generalizing s with
  | nil => exact ⟨.refl s, fun k => by simp [forAll]⟩
  | cons m r ih =>
    obtain ⟨hm, hr⟩ := List.nodup_cons.mp hl
    obtain ⟨hm4, hm1⟩ := h m (by simp)
    obtain ⟨h1, h2⟩ := resetSlot_spec hm4 hm1
    obtain ⟨k1, k2⟩ := ih (resetSlot s m) hr fun n hn => by
      have hnm : n ≠ m := by rintro rfl; exact hm hn
      exact ⟨(h n (by simp [hn])).1, by rw [h2, if_neg hnm]; exact (h n (by simp [hn])).2⟩
    have hcons : forAll (m :: r) resetSlot s = forAll r resetSlot (resetSlot s m) := rfl
    rw [hcons]
    refine ⟨h1.trans k1, fun k => ?_⟩
    rw [k2, h2]
    by_cases hkr : k ∈ r
    · simp [hkr]
    · by_cases hkm : k = m <;> simp [hkr, hkm]

theorem resetSlots_spec (s : State) : SlotsOnly s (resetSlots s) ∧ ∀ k, k < 4 → slotState (resetSlots s) k ≠ 1 := by
  have hmem : ∀ m, m ∈ [0, 1, 2, 3].filter (fun m => slotState s m = 1) → m < 4 ∧ slotState s m = 1 := by
    intro m hm
    obtain ⟨h1, h2⟩ := List.mem_filter.mp hm
    simp only [List.mem_cons, List.not_mem_nil, or_false] at h1
    exact ⟨by omega, of_decide_eq_true h2⟩
  obtain ⟨h1, h2⟩ := forAll_resetSlot _ s ((by decide : [0, 1, 2, 3].Nodup).filter _) hmem
  refine ⟨h1, fun k hk => ?_⟩
  have hr : resetSlots s = forAll ([0, 1, 2, 3].filter fun m => slotState s m = 1) resetSlot s := rfl
  rw [hr, h2]
  split
  · decide
  · rename_i hn
    intro h
    refine hn (List.mem_filter.mpr ⟨?_, decide_eq_true h⟩)
    simp only [List.mem_cons, List.not_mem_nil, or_false]
    omega

end

/-! The course of the CDR up to its restore. -/

/-- What a restore needs of the state at which the CDR was requested stands in `t`. -/
structure Prepared (s t : State) : Prop where
  mem : t.mem = s.mem
  ecc : t.ecc = s.ecc
  leaf : t.leaf = s.leaf
  flt : t.flt = s.flt
  marks : t.frm.marks = s.frm.marks
  undo : t.mm.undo = s.mm.undo
  olc : t.olc = s.olc
  regs : ∀ o, restoreReg o = true ∨ o = Reg.LEAF_STAT → getReg t o = getReg s o

section
variable {s t u : State}

theorem Prepared.trans (h : Prepared s t) (k : Prepared t u) : Prepared s u :=
  ⟨k.mem.trans h.mem, k.ecc.trans h.ecc, k.leaf.trans h.leaf, k.flt.trans h.flt, k.marks.trans h.marks, k.undo.trans h.undo,
    k.olc.trans h.olc, fun o ho => (k.regs o ho).trans (h.regs o ho)⟩

theorem prepared_beside {o : Nat} (h : restoreReg o = true ∨ o = Reg.LEAF_STAT) :
    passReg o = false ∧ slotReg o = false ∧ o ≠ Reg.FRM_MODE := by
  simp only [restoreReg, Bool.or_eq_true, decide_eq_true_eq] at h
  rcases h with ((((((h | h) | h) | h) | h) | h) | h) | h <;> subst h <;> decide

theorem Prepared.of_apart (h : Apart s t) : Prepared s t :=
  ⟨h.mem, h.ecc, h.leaf, h.flt, by rw [h.frm], h.undo, h.olc, fun o ho => h.regs o (prepared_beside ho).1⟩

theorem Prepared.of_slots (h : SlotsOnly s t) : Prepared s t := by
  have hmem := congrArg State.mem h.rest
  have hecc := congrArg State.ecc h.rest
  have hleaf := congrArg State.leaf h.rest
  have hflt := congrArg State.flt h.rest
  have hfrm := congrArg (fun s => s.frm.marks) h.rest
  have hmm := congrArg (fun s => s.mm.undo) h.rest
  have holc := congrArg State.olc h.rest
  exact ⟨hmem, hecc, hleaf, hflt, hfrm, hmm, holc, fun o ho => h.regs o (prepared_beside ho).2.1⟩

theorem Prepared.refreshPend (s : State) : Prepared s (refreshPend s) :=
  ⟨rfl, rfl, rfl, rfl, rfl, rfl, rfl, fun _ ho => getReg_putFlag_ne s _ _ (prepared_beside ho).2.2⟩

end

section
variable {s : State}

/-- The CDR has begun, and time stands at its start. -/
def cdrStarted (s : State) : State := cdrCause (advanceTo (s.flt.since + 1200) s)

theorem cdrStarted_apart (s : State) : Apart s (cdrStarted s) := (advanceTo_apart s _).trans (cdrCause_apart _).1

theorem cdrStarted_raw (s : State) : (cdrStarted s).raw = max s.raw (s.flt.since + 1200) := by
  rw [cdrStarted, (cdrCause_apart _).2, advanceTo_raw]

/-- No mode request waits but one that the CDR holds; the frame is discarded. -/
def holdRequests (s t : State) : State :=
  refreshPend { dropRequests t with frm := { (dropRequests t).frm with reqHeld := s.frm.reqHeld, discarded := true } }

theorem holdRequests_prepared (s t : State) : Prepared t (holdRequests s t) := by
  have hset (t : State) (x : Option Nat) : Prepared t { t with frm := { t.frm with reqHeld := x, discarded := true } } :=
    ⟨rfl, rfl, rfl, rfl, rfl, rfl, rfl, fun _ _ => rfl⟩
  have hdrop (t : State) : Prepared t { t with frm := { t.frm with reqDue := none, reqLate := none, reqHeld := none } } :=
    ⟨rfl, rfl, rfl, rfl, rfl, rfl, rfl, fun _ _ => rfl⟩
  exact (((hdrop t).trans (.refreshPend _)).trans (hset _ _)).trans (.refreshPend _)

theorem holdRequests_slots (s t : State) : (holdRequests s t).raw = t.raw ∧ ∀ k, k < 4 → slotState (holdRequests s t) k = slotState t k := by
  have hset (t : State) (x : FrmState) : ({ t with frm := x } : State).raw = t.raw ∧ ∀ o, getReg { t with frm := x } o = getReg t o :=
    ⟨rfl, fun _ => rfl⟩
  have hpend (t : State) : (refreshPend t).raw = t.raw ∧ ∀ k, k < 4 → slotState (refreshPend t) k = slotState t k := by
    refine ⟨putFlag_raw .., fun k hk => fld_congr (getReg_putFlag_ne _ _ _ ?_) 1 0⟩
    simp only [Reg.TXN_SLOT_STAT, Reg.FRM_MODE]
    omega
  refine ⟨?_, fun k hk => ?_⟩
  · rw [holdRequests, (hpend _).1, (hset _ _).1, dropRequests, (hpend _).1, (hset _ _).1]
  · rw [holdRequests, (hpend _).2 k hk, slotState, fld_congr ((hset _ _).2 _), ← slotState, dropRequests, (hpend _).2 k hk, slotState,
      fld_congr ((hset _ _).2 _), ← slotState]

/-- The state in which a CDR restores, where no run-ahead work, rollback or installation stands. -/
def cdrPrepared (s : State) : State :=
  let t := cdrStarted s
  let u := holdRequests t (resetSlots { t with spec := { t.spec with work := [] } })
  { u with mm := { u.mm with undo := [] } }

theorem cdrPrepared_spec (hundo : s.mm.undo = []) : Prepared s (cdrPrepared s) ∧ (cdrPrepared s).raw = max s.raw (s.flt.since + 1200) ∧
    ∀ k, k < 4 → slotState (cdrPrepared s) k ≠ 1 := by
  have hspec (t : State) : Prepared t { t with spec := { t.spec with work := [] } } ∧
      ({ t with spec := { t.spec with work := [] } } : State).raw = t.raw := ⟨⟨rfl, rfl, rfl, rfl, rfl, rfl, rfl, fun _ _ => rfl⟩, rfl⟩
  have hclear (t : State) (h : t.mm.undo = []) : Prepared t { t with mm := { t.mm with undo := [] } } :=
    ⟨rfl, rfl, rfl, rfl, rfl, h.symm, rfl, fun _ _ => rfl⟩
  have hmm (t : State) (x : MemState) : ({ t with mm := x } : State).raw = t.raw ∧ ∀ o, getReg { t with mm := x } o = getReg t o :=
    ⟨rfl, fun _ => rfl⟩
  set t := cdrStarted s with ht
  set w : State := { t with spec := { t.spec with work := [] } } with hw
  obtain ⟨hslots, hst⟩ := resetSlots_spec w
  have hraw : (resetSlots w).raw = w.raw := by
    have h := congrArg State.raw hslots.rest
    exact h
  have hu : Prepared s (holdRequests t (resetSlots w)) :=
    (((Prepared.of_apart (cdrStarted_apart s)).trans (hspec t).1).trans (.of_slots hslots)).trans (holdRequests_prepared _ _)
  refine ⟨hu.trans (hclear _ (hu.undo.trans hundo)), ?_, fun k hk => ?_⟩
  · rw [cdrPrepared, (hmm _ _).1, (holdRequests_slots _ _).1, hraw, hw, (hspec t).2, ht, cdrStarted_raw]
  · rw [cdrPrepared, slotState, fld_congr ((hmm _ _).2 _), ← slotState, (holdRequests_slots _ _).2 k hk]
    exact hst k hk

/-- What FRM forgets of the frame that a restore discards. -/
def setAside (s : State) : State :=
  { s with frm := { s.frm with running := none, later := [], trapStop := false, latch := mergeLatch s.frm.latch s.frm.latchCc, latchCc := [] } }

/-- The CDR goes on where its restore raised no F3 action. -/
def restoredFrom (t : State) : State := if t.flt.cdr.isNone then t else { t with flt := { t.flt with restored := true } }

theorem cdrBegin_unfold (s : State) : cdrBegin s = if s.flt.cdr.isNone || s.flt.restored then s else
    restoredFrom (restoreCheckpoint (redoInstall (rollback (holdRequests (cdrStarted s) (resetSlots (dropAhead (cdrStarted s))))))) := by
  have hfrom (t : State) : (if t.flt.cdr.isNone then t else { t with flt := { t.flt with restored := true } }) = restoredFrom t := rfl
  unfold cdrBegin
  extract_lets t held u f v r g
  have hv : holdRequests t (resetSlots (dropAhead t)) = v := by
    clear_value t
    rfl
  rw [hfrom r]
  show _ = if s.flt.cdr.isNone || s.flt.restored then s else
    restoredFrom (restoreCheckpoint (redoInstall (rollback (holdRequests t (resetSlots (dropAhead t))))))
  rw [hv]

theorem cdrBegin_eq (hc : s.flt.cdr.isSome = true) (hr : s.flt.restored = false) (hundo : s.mm.undo = []) (ho : s.olc.installing = none)
    (hf : s.spec.frame = none) : cdrBegin s = restoredFrom (restoreCheckpoint (cdrPrepared s)) := by
  have hnone : s.flt.cdr.isNone = false := by rw [← Option.not_isSome, hc]; rfl
  have hap := cdrStarted_apart s
  have hahead : dropAhead (cdrStarted s) = { cdrStarted s with spec := { (cdrStarted s).spec with work := [] } } := by
    have hd : specDiscard (cdrStarted s) = cdrStarted s := by unfold specDiscard; rw [hap.spec, hf]
    rw [dropAhead, hd]
  set w : State := { cdrStarted s with spec := { (cdrStarted s).spec with work := [] } }
  have hprep := (cdrPrepared_spec hundo).1
  have hroll (u : State) (h : u.mm.undo = []) : rollback u = { u with mm := { u.mm with undo := [] } } := by rw [rollback, h]; rfl
  have hu : (holdRequests (cdrStarted s) (resetSlots w)).mm.undo = [] := by
    have hslots := (resetSlots_spec w).1
    rw [(holdRequests_prepared _ _).undo, (Prepared.of_slots hslots).undo]
    exact hap.undo.trans hundo
  have hredo : redoInstall (cdrPrepared s) = cdrPrepared s := by unfold redoInstall; rw [hprep.olc, ho]
  have hback : redoInstall (rollback (holdRequests (cdrStarted s) (resetSlots (dropAhead (cdrStarted s))))) = cdrPrepared s := by
    rw [hahead, hroll _ hu]
    exact hredo
  rw [cdrBegin_unfold, hnone, hr, hback, if_neg (by decide)]

/-! The restore. -/

theorem setAside_rest (s : State) : (setAside s).mem = s.mem ∧ (setAside s).ecc = s.ecc ∧ (setAside s).flt = s.flt ∧
    (setAside s).raw = s.raw ∧ ∀ o, getReg (setAside s) o = getReg s o := ⟨rfl, rfl, rfl, rfl, fun _ => rfl⟩

theorem restoreCheckpoint_none (h : latestBank s (restoreBase s) = none) : restoreCheckpoint s = loadNone (setAside s) := by
  have hb : latestBank (setAside s) (restoreBase s) = none := by rw [latestBank_congr (setAside_rest s).1, h]
  unfold restoreCheckpoint
  extract_lets base l f t
  have ht : latestBank t base = none := hb
  rw [ht]
  rfl

theorem restoreCheckpoint_bank {b : Nat} (h : latestBank s (restoreBase s) = some b)
    (hg : bankGood s (bankAt (restoreBase s) b) = true) : restoreCheckpoint s =
      loadBank (bankAt (restoreBase s) b) ((alGet s.frm.marks b).getD {}) (setAside s) := by
  obtain ⟨hmem, hecc, -⟩ := setAside_rest s
  have hb : latestBank (setAside s) (restoreBase s) = some b := by rw [latestBank_congr hmem, h]
  have hgood : bankGood (setAside s) (bankAt (restoreBase s) b) = true := by rw [bankGood_congr hmem hecc, hg]
  unfold restoreCheckpoint
  extract_lets base l f t
  have ht : latestBank t base = some b := hb
  have htg : bankGood t (bankAt base b) = true := hgood
  rw [ht]
  simp only [htg, if_true]
  rfl

/-- What a restore leaves alone. -/
structure Restored (s t : State) : Prop where
  flt : t.flt = s.flt
  raw : t.raw = s.raw
  regs : ∀ o, getReg t o = getReg s o

theorem loadNone_restored (s : State) : Restored s (loadNone (setAside s)) := ⟨rfl, rfl, fun _ => rfl⟩

theorem loadBank_restored (a : Nat) (m : Mark) (s : State) : Restored s (loadBank a m (setAside s)) := ⟨rfl, rfl, fun _ => rfl⟩

theorem restoredFrom_running {t : State} (h : t.flt.cdr.isSome = true) :
    restoredFrom t = { t with flt := { t.flt with restored := true } } := by
  have hnone : t.flt.cdr.isNone = false := by rw [← Option.not_isSome, h]; rfl
  rw [restoredFrom, hnone, if_neg (by decide)]

section
variable (hs : Runs s) (hc : s.flt.cdr.isSome = true) (hr : s.flt.restored = false) (hundo : s.mm.undo = [])
  (ho : s.olc.installing = none) (hf : s.spec.frame = none)
include hs hc hr hundo ho hf

/-- The CDR from its start to its restore, where the restore raises nothing. -/
theorem exec_cdrBegin {t : State} (ht : restoreCheckpoint (cdrPrepared s) = t) (hrest : Restored (cdrPrepared s) t) :
    exec .cdrBegin s = .next { t with flt := { t.flt with restored := true } } := by
  obtain ⟨hprep, -⟩ := cdrPrepared_spec hundo
  have hflt : t.flt = s.flt := hrest.flt.trans hprep.flt
  have hbegin : cdrBegin s = { t with flt := { t.flt with restored := true } } := by
    rw [cdrBegin_eq hc hr hundo ho hf, ht, restoredFrom_running (by rw [hflt, hc])]
  have harr : ({ t with flt := { t.flt with restored := true } } : State).flt.arrived = t.flt.arrived := rfl
  have he : exec .cdrBegin s = .next (cdrBegin s) := act_quiet _ hs.1 (by rw [hbegin, harr, hflt, hs.2])
  rw [he, hbegin]

/-- No complete checkpoint exists: nothing to run, no flag, and STOP. -/
theorem cdrBegin_none (hb : latestBank s (restoreBase s) = none) : Ends (exec .cdrBegin s) fun u => u.flt.restored = true ∧
    u.frm.insts = [] ∧ u.frm.pend = [] ∧ u.frm.resumeMode = modeStop ∧ u.raw = max s.raw (s.flt.since + 1200) ∧
    (∀ k, k < 4 → slotState u k ≠ 1) ∧ ∀ l, l < 3 → leafSt u l = leafSt s l := by
  obtain ⟨hprep, hraw, hslots⟩ := cdrPrepared_spec hundo
  have hbank : latestBank (cdrPrepared s) (restoreBase (cdrPrepared s)) = none := by
    rw [restoreBase_congr hprep.leaf fun o ho => hprep.regs o (.inl ho), latestBank_congr hprep.mem, hb]
  have hrest := loadNone_restored (cdrPrepared s)
  refine ⟨_, exec_cdrBegin hs hc hr hundo ho hf (restoreCheckpoint_none hbank) hrest, rfl, rfl, rfl, rfl, ?_, fun k hk => ?_, fun l hl => ?_⟩
  · exact hrest.raw.trans hraw
  · rw [slotState, fld_congr ((getReg_setFlt _ _ _).trans (hrest.regs _)), ← slotState]
    exact hslots k hk
  · rw [leafSt, fld_congr ((getReg_setFlt _ _ _).trans (hrest.regs _)), fld_congr (hprep.regs _ (.inr rfl)), leafSt]

/-- The instances and the mode are those of the latest complete checkpoint. -/
theorem cdrBegin_bank {b : Nat} (hb : latestBank s (restoreBase s) = some b) (hg : bankGood s (bankAt (restoreBase s) b) = true) :
    Ends (exec .cdrBegin s) fun u => u.flt.restored = true ∧
      u.frm.resumeMode = memNat s (bankAt (restoreBase s) b + 0x10) 4 % 4 ∧
      u.frm.insts = (List.range 48).filterMap (restoreInst s (bankAt (restoreBase s) b) ((alGet s.frm.marks b).getD {})) := by
  obtain ⟨hprep, -, -⟩ := cdrPrepared_spec hundo
  have hregs : ∀ o, restoreReg o = true → getReg (cdrPrepared s) o = getReg s o := fun o ho => hprep.regs o (.inl ho)
  have hbase := restoreBase_congr hprep.leaf hregs
  have hbank : latestBank (cdrPrepared s) (restoreBase (cdrPrepared s)) = some b := by rw [hbase, latestBank_congr hprep.mem, hb]
  have hgood : bankGood (cdrPrepared s) (bankAt (restoreBase (cdrPrepared s)) b) = true := by
    rw [hbase, bankGood_congr hprep.mem hprep.ecc, hg]
  have hload := restoreCheckpoint_bank hbank hgood
  rw [hbase, hprep.marks] at hload
  have hset : Prepared s (setAside (cdrPrepared s)) := hprep.trans ⟨rfl, rfl, rfl, rfl, rfl, rfl, rfl, fun _ _ => rfl⟩
  have hfrm (a : Nat) (m : Mark) (t : State) : (loadBank a m t).frm.resumeMode = memNat t (a + 0x10) 4 % 4 ∧
      (loadBank a m t).frm.insts = (List.range 48).filterMap (restoreInst t a m) := ⟨rfl, rfl⟩
  have hflt (t : State) (x : FltState) : ({ t with flt := x } : State).frm = t.frm := rfl
  refine ⟨_, exec_cdrBegin hs hc hr hundo ho hf hload (loadBank_restored _ _ _), rfl, ?_, ?_⟩
  · rw [hflt, (hfrm _ _ _).1, memNat_of_mem hset.mem]
  · rw [hflt, (hfrm _ _ _).2, restoreInst_congr hset.mem fun o ho => hset.regs o (.inl ho)]

end

end

end Sys2Proof.Machine
end

section
/-! SUPPORT. The tick at which a CDR resumes: what `cdrResume` makes of the state (R57, R78, R150, R375). -/

namespace Sys2Proof.Machine

/-! The leaves are back in the vote. -/

/-- `t` is `s` but for the registers. -/
def RegsOnly (s t : State) : Prop := { t with regs := s.regs } = s

theorem RegsOnly.trans {s t u : State} (h : RegsOnly s t) (k : RegsOnly t u) : RegsOnly s u := by
  unfold RegsOnly at *
  rw [← h, ← k]

section
variable (s : State)

/-- The states of the leaves once every leaf that is not quarantined is in the vote. -/
def votersIn (s : State) : State := forAll ([0, 1, 2].filter fun l => leafSt s l ≠ 5) (fun s l => putLeafSt l 0 s) s

theorem forAll_putLeafSt (l : List Nat) (v : Nat) (hl : ∀ k ∈ l, k < 3) (hv : v < 8) (s : State) :
    (∀ k, k < 3 → leafSt (forAll l (fun s l => putLeafSt l v s) s) k = if k ∈ l then v else leafSt s k) ∧
      (∀ o, o ≠ Reg.LEAF_STAT → getReg (forAll l (fun s l => putLeafSt l v s) s) o = getReg s o) ∧
      RegsOnly s (forAll l (fun s l => putLeafSt l v s) s) := by
  induction l generalizing s with
  | nil => exact ⟨fun k _ => by simp [forAll], fun _ _ => rfl, rfl⟩
  | cons m r ih =>
    have hm := hl m (by simp)
    have hcons : forAll (m :: r) (fun s l => putLeafSt l v s) s = forAll r (fun s l => putLeafSt l v s) (putLeafSt m v s) := rfl
    obtain ⟨h1, h2, h3⟩ := ih (fun k hk => hl k (by simp [hk])) (putLeafSt m v s)
    have hput : RegsOnly s (putLeafSt m v s) := rfl
    rw [hcons]
    refine ⟨fun k hk => ?_, fun o ho => (h2 o ho).trans (getReg_putLeafSt_ne s m v ho), hput.trans h3⟩
    rw [h1 k hk]
    by_cases hkm : k = m
    · rw [hkm, leafSt_putLeafSt_same s hm hv]
      simp
    · rw [leafSt_putLeafSt_ne s v hm hkm]
      simp [hkm]

theorem votersIn_spec : (∀ l, l < 3 → leafSt (votersIn s) l = if leafSt s l = 5 then 5 else 0) ∧
    (∀ o, o ≠ Reg.LEAF_STAT → getReg (votersIn s) o = getReg s o) ∧ RegsOnly s (votersIn s) := by
  have hl : ∀ k ∈ [0, 1, 2].filter (fun l => leafSt s l ≠ 5), k < 3 := by
    intro k hk
    have := (List.mem_filter.mp hk).1
    simp only [List.mem_cons, List.not_mem_nil, or_false] at this
    omega
  obtain ⟨h1, h2, h3⟩ := forAll_putLeafSt _ 0 hl (by omega) s
  refine ⟨fun l hl3 => ?_, h2, h3⟩
  have hmem : l ∈ [0, 1, 2].filter (fun l => leafSt s l ≠ 5) ↔ leafSt s l ≠ 5 := by
    rw [List.mem_filter, decide_eq_true_eq]
    refine ⟨fun h => h.2, fun h => ⟨?_, h⟩⟩
    simp only [List.mem_cons, List.not_mem_nil, or_false]
    omega
  rw [votersIn, h1 l hl3]
  by_cases h5 : leafSt s l = 5
  · rw [if_neg (fun h => hmem.mp h h5), if_pos h5, h5]
  · rw [if_pos (hmem.mpr h5), if_neg h5]

end

/-! What a tick leaves. -/

/-- The kinds of faults that a tick raises beside those of its commits and steps. -/
def tickFault (a : Arrival) : Prop :=
  a.esc = false ∧ (a.cls.val, a.code.toNat) ∈ [(1, 0x0533), (0, 0x0330), (0, 0x0331), (0, 0x0332)]

/-- The registers that the tick of a quiet frame leaves alone. -/
def quietReg (o : Nat) : Bool :=
  o = Reg.LEAF_STAT || o = Reg.FLT_STAT || o = Reg.FLT_CUR2 || o = Reg.HASP_STAT || o = Reg.TIME_MAP_RATE 0 ||
    (0x100000 ≤ o && o < 0x1C0000)

/-- What FLT holds in `t` is what it held in `s`, and faults of a tick that have arrived. -/
structure TickFlt (s t : State) : Prop where
  flt : { t.flt with arrived := s.flt.arrived } = s.flt
  arrived : ∃ d : List Arrival, t.flt.arrived = s.flt.arrived ++ d ∧ ∀ a ∈ d, tickFault a

section
variable {s t u : State}

theorem TickFlt.of_eq (h : t.flt = s.flt) : TickFlt s t := ⟨by rw [h], [], by rw [h, List.append_nil], by simp⟩

theorem TickFlt.trans (h : TickFlt s t) (k : TickFlt t u) : TickFlt s u := by
  obtain ⟨d, hd, hd'⟩ := h.arrived
  obtain ⟨e, he, he'⟩ := k.arrived
  refine ⟨by rw [← h.flt, ← k.flt], d ++ e, by rw [he, hd, List.append_assoc], fun a ha => ?_⟩
  rcases List.mem_append.mp ha with ha | ha
  · exact hd' a ha
  · exact he' a ha

/-- A fault of a tick is raised. -/
theorem TickFlt.raise (s : State) {code cls : Nat} (h : (cls, code) ∈ [(1, 0x0533), (0, 0x0330), (0, 0x0331), (0, 0x0332)]) :
    TickFlt s (raise code cls s) := by
  have hc : cls ≤ 1 ∧ code < 2 ^ 16 := by
    simp only [List.mem_cons, Prod.mk.injEq, List.not_mem_nil, or_false] at h
    omega
  have hf := report_low_flt s code 0xF hc.1
  rw [Machine.raise] at *
  refine ⟨by rw [hf], _, by rw [hf], ?_⟩
  intro a ha
  rw [List.mem_singleton.mp ha]
  refine ⟨rfl, ?_⟩
  have h1 : (Fin.ofNat 4 cls).val = cls := by simp only [Fin.ofNat]; omega
  have h2 : (BitVec.ofNat 16 code).toNat = code := by rw [BitVec.toNat_ofNat, Nat.mod_eq_of_lt hc.2]
  show ((Fin.ofNat 4 cls).val, (BitVec.ofNat 16 code).toNat) ∈ _
  rw [h1, h2]
  exact h

end

end Sys2Proof.Machine
end

section
/-! SUPPORT. The tick at which a CDR resumes: the mode, and what waits for the next tick (R57, R78, R375). -/

namespace Sys2Proof.Machine

/-- `t` is `s` after steps of a tick in which no commit, no change and no output takes part: what the statements about a tick read, but
for the mode, is as it was. -/
structure TickKept (s t : State) : Prop where
  regs : ∀ o, quietReg o = true → o ≠ Reg.LEAF_STAT → getReg t o = getReg s o
  leafs : ∀ l, l < 3 → leafSt t l = leafSt s l
  leaf : t.leaf = s.leaf
  flt : TickFlt s t
  lanes : t.lanes = s.lanes
  dio : t.dio = s.dio
  ao : t.ao = s.ao
  txn : t.txn = s.txn
  olc : t.olc = s.olc
  first : t.frm.first = s.frm.first
  switchTo : t.frm.switchTo = s.frm.switchTo
  iomap : t.frm.iomap = s.frm.iomap
  nextOut : t.frm.nextOut = s.frm.nextOut

/-- What waits for a tick stands: steps and rates of device time, a partner's commits, and a mode request. -/
structure Waits (s t : State) : Prop where
  time : t.time = s.time
  told : t.hasp.commitsDue = s.hasp.commitsDue
  due : t.frm.reqDue = s.frm.reqDue

section
variable {s t u : State}

theorem Waits.refl (s : State) : Waits s s := ⟨rfl, rfl, rfl⟩

theorem Waits.trans (h : Waits s t) (k : Waits t u) : Waits s u :=
  ⟨k.time.trans h.time, k.told.trans h.told, k.due.trans h.due⟩

theorem TickKept.refl (s : State) : TickKept s s :=
  ⟨fun _ _ _ => rfl, fun _ _ => rfl, rfl, .of_eq rfl, rfl, rfl, rfl, rfl, rfl, rfl, rfl, rfl, rfl⟩

theorem TickKept.trans (h : TickKept s t) (k : TickKept t u) : TickKept s u where
  regs o ho ho' := (k.regs o ho ho').trans (h.regs o ho ho')
  leafs l hl := (k.leafs l hl).trans (h.leafs l hl)
  leaf := k.leaf.trans h.leaf
  flt := h.flt.trans k.flt
  lanes := k.lanes.trans h.lanes
  dio := k.dio.trans h.dio
  ao := k.ao.trans h.ao
  txn := k.txn.trans h.txn
  olc := k.olc.trans h.olc
  first := k.first.trans h.first
  switchTo := k.switchTo.trans h.switchTo
  iomap := k.iomap.trans h.iomap
  nextOut := k.nextOut.trans h.nextOut

/-! The steps that make up a tick. -/

theorem leafSt_congr (h : getReg t Reg.LEAF_STAT = getReg s Reg.LEAF_STAT) (l : Nat) : leafSt t l = leafSt s l := fld_congr h _ _

theorem quietReg_passes {o : Nat} (h : quietReg o = true) : passReg o = false := by
  simp only [quietReg, Bool.or_eq_true, Bool.and_eq_true, decide_eq_true_eq] at h
  rcases h with ((((h | h) | h) | h) | h) | ⟨h1, h2⟩
  · subst h; decide
  · subst h; decide
  · subst h; decide
  · subst h; decide
  · subst h; decide
  · simp only [passReg, Bool.or_eq_false_iff, decide_eq_false_iff_not]
    simp only [Reg.HASP_HBMISS, Reg.SYS_RSTCAUSE]
    omega

theorem quietReg_unfaulted {o : Nat} (h : quietReg o = true) : faultReg o = false := by
  simp only [quietReg, Bool.or_eq_true, Bool.and_eq_true, decide_eq_true_eq] at h
  rcases h with ((((h | h) | h) | h) | h) | ⟨h1, h2⟩
  · subst h; decide
  · subst h; decide
  · subst h; decide
  · subst h; decide
  · subst h; decide
  · simp only [faultReg, Bool.or_eq_false_iff, decide_eq_false_iff_not]
    simp only [Reg.FLT_CNT, Reg.HOST_CAUSE_LO, Reg.HOST_CAUSE_HI, Reg.HOST_PBA_LO, Reg.HOST_PBA_HI, Reg.EVR_DROPCNT]
    omega

theorem TickKept.of_apart (h : Apart s t) : TickKept s t where
  regs o ho _ := h.regs o (quietReg_passes ho)
  leafs l _ := leafSt_congr (h.regs _ (by decide)) l
  leaf := h.leaf
  flt := .of_eq h.flt
  lanes := h.lanes
  dio := h.dio
  ao := h.ao
  txn := h.txn
  olc := h.olc
  first := by rw [h.frm]
  switchTo := by rw [h.frm]
  iomap := by rw [h.frm]
  nextOut := by rw [h.frm]

theorem Waits.of_apart (h : Apart s t) : Waits s t := ⟨h.time, h.told, by rw [h.frm]⟩

/-- What notices leave, and the faults of a tick. -/
theorem TickKept.of_noted (h : Noted s t) (hf : TickFlt s t) : TickKept s t where
  regs o ho _ := h.regs o (quietReg_unfaulted ho)
  leafs l _ := leafSt_congr (h.regs _ (by decide)) l
  leaf := h.leaf_eq
  flt := hf
  lanes := by have h1 := congrArg State.lanes h.rest; exact h1
  dio := by have h1 := congrArg State.dio h.rest; exact h1
  ao := by have h1 := congrArg State.ao h.rest; exact h1
  txn := by have h1 := congrArg State.txn h.rest; exact h1
  olc := by have h1 := congrArg State.olc h.rest; exact h1
  first := by rw [h.frm_eq]
  switchTo := by rw [h.frm_eq]
  iomap := by rw [h.frm_eq]
  nextOut := by rw [h.frm_eq]

theorem Waits.of_noted (h : Noted s t) : Waits s t where
  time := by have h1 := congrArg State.time h.rest; exact h1
  told := by have h1 := congrArg (fun s => s.hasp.commitsDue) h.rest; exact h1
  due := by rw [h.frm_eq]

theorem Noted.curMode (h : Noted s t) : curMode t = curMode s := h.fld_eq (by decide) _ _

theorem Apart.curMode (h : Apart s t) : curMode t = curMode s := fld_congr (h.regs _ (by decide)) _ _

theorem TickKept.cause (v : Nat) (s : State) : TickKept s (cause v s) := .of_noted (noted_cause v s) (.of_eq (cause_flt v s))

/-- A fault of a tick is raised. -/
theorem TickKept.raise (s : State) {code cls : Nat} (h : (cls, code) ∈ [(1, 0x0533), (0, 0x0330), (0, 0x0331), (0, 0x0332)]) :
    TickKept s (raise code cls s) ∧ Waits s (raise code cls s) ∧ Machine.curMode (raise code cls s) = Machine.curMode s := by
  have hc : cls ≤ 1 := by
    simp only [List.mem_cons, Prod.mk.injEq, List.not_mem_nil, or_false] at h
    omega
  have hn : Noted s (Machine.raise code cls s) := noted_report code cls 0xF s hc
  exact ⟨.of_noted hn (.raise s h), .of_noted hn, hn.curMode⟩

/-- Registers that no statement about a tick reads. -/
theorem TickKept.of_regs (h : RegsOnly s t) (hr : ∀ o, quietReg o = true → o ≠ Reg.LEAF_STAT → getReg t o = getReg s o)
    (hl : ∀ l, l < 3 → leafSt t l = leafSt s l) : TickKept s t where
  regs := hr
  leafs := hl
  leaf := by have h1 := congrArg State.leaf h; exact h1
  flt := .of_eq (by have h1 := congrArg State.flt h; exact h1)
  lanes := by have h1 := congrArg State.lanes h; exact h1
  dio := by have h1 := congrArg State.dio h; exact h1
  ao := by have h1 := congrArg State.ao h; exact h1
  txn := by have h1 := congrArg State.txn h; exact h1
  olc := by have h1 := congrArg State.olc h; exact h1
  first := by have h1 := congrArg (fun s => s.frm.first) h; exact h1
  switchTo := by have h1 := congrArg (fun s => s.frm.switchTo) h; exact h1
  iomap := by have h1 := congrArg (fun s => s.frm.iomap) h; exact h1
  nextOut := by have h1 := congrArg (fun s => s.frm.nextOut) h; exact h1

theorem Waits.of_regs (h : RegsOnly s t) : Waits s t where
  time := by have h1 := congrArg State.time h; exact h1
  told := by have h1 := congrArg (fun s => s.hasp.commitsDue) h; exact h1
  due := by have h1 := congrArg (fun s => s.frm.reqDue) h; exact h1

theorem RegsOnly.putReg (s : State) (o : Nat) (v : Word) : RegsOnly s (putReg s o v) := rfl

theorem RegsOnly.putFld (s : State) (o hi lo x : Nat) : RegsOnly s (putFld s o hi lo x) := .putReg s o _

theorem RegsOnly.putFlag (s : State) (o i : Nat) (b : Bool) : RegsOnly s (putFlag s o i b) := .putFld s o _ _ _

theorem TickKept.putReg (s : State) {o : Nat} (v : Word) (h : quietReg o = false) : TickKept s (putReg s o v) := by
  have hr : ∀ o', quietReg o' = true → getReg (Machine.putReg s o v) o' = getReg s o' := by
    refine fun o' ho => getReg_putReg_ne s v ?_
    rintro rfl
    rw [h] at ho
    cases ho
  exact .of_regs (.putReg s o v) (fun o' ho _ => hr o' ho) fun l _ => leafSt_congr (hr _ (by decide)) l

theorem TickKept.putFld (s : State) {o : Nat} (hi lo x : Nat) (h : quietReg o = false) : TickKept s (putFld s o hi lo x) := .putReg s _ h
theorem TickKept.putFlag (s : State) {o : Nat} (i : Nat) (b : Bool) (h : quietReg o = false) : TickKept s (putFlag s o i b) := .putReg s _ h
theorem TickKept.putNat (s : State) {o : Nat} (v : Nat) (h : quietReg o = false) : TickKept s (putNat s o v) := .putReg s _ h
theorem TickKept.bump (s : State) {o : Nat} (hi lo : Nat) (h : quietReg o = false) : TickKept s (bump s o hi lo) := .putReg s _ h

/-- An update of FRM that leaves the change of period, the map and the output that waits. -/
theorem TickKept.setFrm (s : State) (x : FrmState) (h1 : x.first = s.frm.first) (h2 : x.switchTo = s.frm.switchTo)
    (h3 : x.iomap = s.frm.iomap) (h4 : x.nextOut = s.frm.nextOut) : TickKept s { s with frm := x } :=
  ⟨fun _ _ _ => rfl, fun _ _ => rfl, rfl, .of_eq rfl, rfl, rfl, rfl, rfl, rfl, h1, h2, h3, h4⟩

theorem Waits.setFrm (s : State) (x : FrmState) (h : x.reqDue = s.frm.reqDue) : Waits s { s with frm := x } := ⟨rfl, rfl, h⟩

end

/-! The vote, the mode, and the resumption. -/

section
variable (s : State)

/-- A field of LEAF.STAT above the leaves' states. -/
theorem leafStat_high_kept (hi lo x : Nat) (h : hi ≤ 31) (hl : lo ≤ hi) (h16 : 16 ≤ lo) : TickKept s (putFld s Reg.LEAF_STAT hi lo x) :=
  .of_regs (.putFld ..) (fun o _ ho => getReg_putFld_ne s hi lo x ho)
    fun l hl3 => fld_putFld_other _ _ _ _ _ _ _ _ h hl (by omega) (by omega)

theorem refreshVote_kept : TickKept s (refreshVote s) ∧ Waits s (refreshVote s) := by
  have hvote : TickKept s (if splitHalt s then s else putFld s Reg.LEAF_STAT 17 16 (inVote s).length) ∧
      Waits s (if splitHalt s then s else putFld s Reg.LEAF_STAT 17 16 (inVote s).length) := by
    split
    · exact ⟨.refl s, .refl s⟩
    · exact ⟨leafStat_high_kept s _ _ _ (by omega) (by omega) (by omega), .of_regs (.putFld ..)⟩
  have hflag (t : State) (b : Bool) : TickKept t (putFlag t Reg.LEAF_STAT 20 b) ∧ Waits t (putFlag t Reg.LEAF_STAT 20 b) :=
    ⟨leafStat_high_kept t _ _ _ (by omega) (by omega) (by omega), .of_regs (.putFlag ..)⟩
  unfold refreshVote
  extract_lets n was t u
  have ht : TickKept s t ∧ Waits s t := hvote
  have hu : TickKept s u ∧ Waits s u := ⟨ht.1.trans (hflag t _).1, ht.2.trans (hflag t _).2⟩
  split
  · obtain ⟨h1, h2, -⟩ := TickKept.raise u (code := 0x0533) (cls := 1) (by decide)
    exact ⟨hu.1.trans h1, hu.2.trans h2⟩
  · exact hu

theorem refreshHalted_kept : TickKept s (refreshHalted s) ∧ Waits s (refreshHalted s) ∧ curMode (refreshHalted s) = curMode s :=
  ⟨leafStat_high_kept s _ _ _ (by omega) (by omega) (by omega), .of_regs (.putFlag ..), fld_congr (getReg_putFlag_ne _ _ _ (by decide)) _ _⟩

theorem showMode_kept {v : Nat} (hv : v < 4) :
    TickKept s (showMode v s) ∧ Waits s (showMode v s) ∧ curMode (showMode v s) = v := by
  have hput : TickKept s (putFld s Reg.FRM_MODE 1 0 v) ∧ Waits s (putFld s Reg.FRM_MODE 1 0 v) ∧
      curMode (putFld s Reg.FRM_MODE 1 0 v) = v := by
    refine ⟨.putFld s _ _ _ (by decide), .of_regs (.putFld ..), ?_⟩
    rw [curMode, fld_putFld_same _ _ _ _ _ (by omega) (by omega)]
    exact Nat.mod_eq_of_lt hv
  unfold showMode
  split
  · rename_i h
    exact ⟨.refl s, .refl s, h⟩
  · set t := putFld s Reg.FRM_MODE 1 0 v
    obtain ⟨h1, h2, h3⟩ := refreshHalted_kept (cause 5 t)
    have hward := wardMode_apart (refreshHalted (cause 5 t))
    refine ⟨((hput.1.trans (.cause 5 t)).trans h1).trans (.of_apart hward),
      ((hput.2.1.trans (.of_noted (noted_cause 5 t))).trans h2).trans (.of_apart hward), ?_⟩
    rw [hward.curMode, h3, (noted_cause 5 t).curMode, hput.2.2]

theorem resumeIn_kept {v : Nat} (hv : v < 4) :
    TickKept s (resumeIn v s) ∧ Waits s (resumeIn v s) ∧ curMode (resumeIn v s) = v := by
  have hwait (t : State) : TickKept t (waitFlags t) ∧ Waits t (waitFlags t) := by
    simp only [waitFlags]
    exact ⟨.setFrm t _ rfl rfl rfl rfl, .setFrm t _ rfl⟩
  unfold resumeIn
  extract_lets f t u g w
  have ht : TickKept s t ∧ Waits s t := by
    simp only [t]
    split <;> exact ⟨.setFrm s _ rfl rfl rfl rfl, .setFrm s _ rfl⟩
  have hu : TickKept s u ∧ Waits s u := by
    simp only [u]
    split
    · exact ⟨ht.1.trans (hwait t).1, ht.2.trans (hwait t).2⟩
    · exact ht
  have hw : TickKept s w ∧ Waits s w := by
    simp only [w]
    split
    · exact ⟨hu.1.trans (.setFrm u _ rfl rfl rfl rfl), hu.2.trans (.setFrm u _ rfl)⟩
    · exact hu
  obtain ⟨h1, h2, h3⟩ := showMode_kept w hv
  obtain ⟨k1, k2, k3⟩ := refreshHalted_kept (showMode v w)
  have hward := wardRefresh_apart (refreshHalted (showMode v w))
  exact ⟨((hw.1.trans h1).trans k1).trans (.of_apart hward), ((hw.2.trans h2).trans k2).trans (.of_apart hward),
    by rw [hward.curMode, k3, h3]⟩

end

end Sys2Proof.Machine
end

section
/-! SUPPORT. The end of a CDR at its tick (R57, R78, R150, R375). -/

namespace Sys2Proof.Machine

/-- FLT shows no F2 action. -/
def actionOver (s : State) : State := putFlag (putFlag s Reg.FLT_STAT 0 false) Reg.FLT_CUR2 0 false

/-- Every leaf that is not quarantined is in the vote, and the leaves run. -/
def backInVote (s : State) : State :=
  { votersIn s with leaf := { (votersIn s).leaf with loadFrom := [], issued := none, actHalt := false } }

/-- No CDR is in progress; a request that it held waits. -/
def cdrOver (s : State) : State :=
  { s with flt := { s.flt with cdr := none, restored := false, toStop := false },
           frm := { s.frm with reqLate := s.frm.reqHeld, reqHeld := none, discarded := false } }

/-- The ward begins anew where the action halted it. -/
def wardAgain (s : State) : State := if wardState s = 4 then enterWindow 1 s else s

section
variable {s t : State}

theorem restoreVote_eq (s : State) : restoreVote s = refreshVote (backInVote s) := rfl

theorem cdrResume_eq (hr : s.flt.restored = true) (hsolo : haspState s = 0) (hretake : s.flt.retake = false) :
    cdrResume s = refreshPend (resumeIn (cdrMode s) (wardAgain (cdrOver (refreshVote (backInVote (actionOver s)))))) := by
  have hbolt : retakeBolt s = s := by simp [retakeBolt, hretake]
  have hsolo' : (decide (s.flt.cdr = some true) && decide (haspState s = 2)) = false := by rw [hsolo]; simp
  rw [← restoreVote_eq]
  unfold cdrResume
  rw [hr, hbolt, hsolo']
  rfl

/-! The state at the end of the action. -/

theorem actionOver_spec (s : State) : RegsOnly s (actionOver s) ∧
    (∀ o, o ≠ Reg.FLT_STAT → o ≠ Reg.FLT_CUR2 → getReg (actionOver s) o = getReg s o) ∧
    flag (actionOver s) Reg.FLT_STAT 0 = false ∧ flag (actionOver s) Reg.FLT_CUR2 0 = false := by
  refine ⟨(RegsOnly.putFlag s _ _ _).trans (.putFlag _ _ _ _), fun o h1 h2 => ?_, ?_, flag_putFlag_same _ _ _ _ (by omega)⟩
  · rw [actionOver, getReg_putFlag_ne _ _ _ h2, getReg_putFlag_ne _ _ _ h1]
  · rw [actionOver, flag_putFlag_other _ _ _ _ _ _ (by omega) (.inl (by decide)), flag_putFlag_same _ _ _ _ (by omega)]

/-- Where the tick goes on: the leaves are in the vote and no action stands. -/
def cdrEnded (s : State) : State := cdrOver (backInVote (actionOver s))

/-- What the end of the action makes of the state. -/
structure CdrEnded (s t : State) : Prop where
  flt : t.flt = { s.flt with cdr := none, restored := false, toStop := false }
  leaf : t.leaf = { s.leaf with loadFrom := [], issued := none, actHalt := false }
  leafs : ∀ l, l < 3 → leafSt t l = if leafSt s l = 5 then 5 else 0
  stat : flag t Reg.FLT_STAT 0 = false
  cur2 : flag t Reg.FLT_CUR2 0 = false
  regs : ∀ o, o ≠ Reg.LEAF_STAT → o ≠ Reg.FLT_STAT → o ≠ Reg.FLT_CUR2 → getReg t o = getReg s o
  frm : t.frm = { s.frm with reqLate := s.frm.reqHeld, reqHeld := none, discarded := false }
  rest : { t with regs := s.regs, leaf := s.leaf, flt := s.flt, frm := s.frm } = s

theorem cdrEnded_spec (s : State) : CdrEnded s (cdrEnded s) := by
  obtain ⟨h1, h2, h3, h4⟩ := actionOver_spec s
  obtain ⟨k1, k2, k3⟩ := votersIn_spec (actionOver s)
  have honly : RegsOnly s (votersIn (actionOver s)) := h1.trans k3
  have hset (t : State) (o : Nat) : getReg (cdrOver { t with leaf := { t.leaf with loadFrom := [], issued := none, actHalt := false } }) o =
      getReg t o := rfl
  have hfld (t : State) : (cdrOver { t with leaf := { t.leaf with loadFrom := [], issued := none, actHalt := false } }).flt =
      { t.flt with cdr := none, restored := false, toStop := false } ∧
      (cdrOver { t with leaf := { t.leaf with loadFrom := [], issued := none, actHalt := false } }).leaf =
      { t.leaf with loadFrom := [], issued := none, actHalt := false } ∧
      (cdrOver { t with leaf := { t.leaf with loadFrom := [], issued := none, actHalt := false } }).frm =
      { t.frm with reqLate := t.frm.reqHeld, reqHeld := none, discarded := false } := ⟨rfl, rfl, rfl⟩
  have hrest {t : State} (h : RegsOnly s t) : { cdrOver { t with leaf := { t.leaf with loadFrom := [], issued := none, actHalt := false } } with
      regs := s.regs, leaf := s.leaf, flt := s.flt, frm := s.frm } = s := by
    rw [← h]
    rfl
  have hflt : (votersIn (actionOver s)).flt = s.flt := by have h := congrArg State.flt honly; exact h
  have hleaf : (votersIn (actionOver s)).leaf = s.leaf := by have h := congrArg State.leaf honly; exact h
  have hfrm : (votersIn (actionOver s)).frm = s.frm := by have h := congrArg State.frm honly; exact h
  refine ⟨?_, ?_, fun l hl => ?_, ?_, ?_, fun o ho1 ho2 ho3 => ?_, ?_, hrest honly⟩
  · rw [cdrEnded, backInVote, (hfld _).1, hflt]
  · rw [cdrEnded, backInVote, (hfld _).2.1, hleaf]
  · rw [cdrEnded, backInVote, leafSt_congr (hset _ _), k1 l hl, leafSt_congr (h2 _ (by decide) (by decide))]
  · rw [cdrEnded, backInVote, flag_congr (hset _ _), flag_congr (k2 _ (by decide)), h3]
  · rw [cdrEnded, backInVote, flag_congr (hset _ _), flag_congr (k2 _ (by decide)), h4]
  · rw [cdrEnded, backInVote, hset, k2 o ho1, h2 o ho2 ho3]
  · rw [cdrEnded, backInVote, (hfld _).2.2, hfrm]

/-- The end of the action keeps what the steps of a tick keep. -/
theorem TickKept.cdrOver (h : TickKept s t) : TickKept (cdrOver s) (cdrOver t) where
  regs := h.regs
  leafs := h.leafs
  leaf := h.leaf
  flt := by
    obtain ⟨d, hd, hd'⟩ := h.flt.arrived
    exact ⟨congrArg (fun f : FltState => { f with cdr := none, restored := false, toStop := false }) h.flt.flt, d, hd, hd'⟩
  lanes := h.lanes
  dio := h.dio
  ao := h.ao
  txn := h.txn
  olc := h.olc
  first := h.first
  switchTo := h.switchTo
  iomap := h.iomap
  nextOut := h.nextOut

theorem Waits.cdrOver (h : Waits s t) : Waits (cdrOver s) (cdrOver t) := ⟨h.time, h.told, h.due⟩

theorem refreshPend_kept (s : State) : TickKept s (refreshPend s) ∧ Waits s (refreshPend s) ∧ curMode (refreshPend s) = curMode s :=
  ⟨.putFlag s _ _ (by decide), .of_regs (.putFlag ..), fld_putFlag_other _ _ _ _ _ _ _ (by omega) (by omega) (by omega)⟩

/-- The action ends, and the mode comes back. -/
theorem cdrResume_kept (hr : s.flt.restored = true) (hsolo : haspState s = 0) (hretake : s.flt.retake = false) (hm : cdrMode s < 4) :
    TickKept (cdrEnded s) (cdrResume s) ∧ Waits (cdrEnded s) (cdrResume s) ∧ curMode (cdrResume s) = cdrMode s := by
  obtain ⟨v1, v2⟩ := refreshVote_kept (backInVote (actionOver s))
  have hward (t : State) : Apart t (wardAgain t) := by
    unfold wardAgain
    split
    · exact enterWindow_apart t 1
    · exact .refl t
  set w := wardAgain (cdrOver (refreshVote (backInVote (actionOver s)))) with hw
  have hwk : TickKept (cdrEnded s) w := v1.cdrOver.trans (.of_apart (hward _))
  have hww : Waits (cdrEnded s) w := v2.cdrOver.trans (.of_apart (hward _))
  obtain ⟨r1, r2, r3⟩ := resumeIn_kept w hm
  obtain ⟨p1, p2, p3⟩ := refreshPend_kept (resumeIn (cdrMode s) w)
  rw [cdrResume_eq hr hsolo hretake]
  exact ⟨(hwk.trans r1).trans p1, (hww.trans r2).trans p2, by rw [p3, r3]⟩

end

end Sys2Proof.Machine
end

section
/-! SUPPORT. The tick of a frame in which nothing waits and no input or output takes part (R54, R55, R58, R139, R270). -/

namespace Sys2Proof.Machine

section
variable {s t u : State}

/-! Device time, and the counts of run-ahead. -/

theorem timeTick_quiet (h1 : s.time.stepBy = none) (h2 : s.time.stepCmd = false) (h3 : s.time.rate = mapRate s 0) :
    timeTick s = { s with time := { s.time with ticksNoSample := s.time.ticksNoSample + 1, stepBy := none, stepCmd := false } } := by
  have hrate (x : TimeState) : mapRate { s with time := x } 0 = mapRate s 0 := rfl
  simp [timeTick, h1, h2, hrate, ← h3, forAll, when]

/-- `t` is `s` but for SPEC and its registers. -/
structure SpecOnly (s t : State) : Prop where
  rest : { t with regs := s.regs, spec := s.spec } = s
  regs : ∀ o, o < 0x40000 ∨ 0x50000 ≤ o → getReg t o = getReg s o

theorem SpecOnly.refl (s : State) : SpecOnly s s := ⟨rfl, fun _ _ => rfl⟩

theorem SpecOnly.trans (h : SpecOnly s t) (k : SpecOnly t u) : SpecOnly s u := by
  refine ⟨?_, fun o ho => (k.regs o ho).trans (h.regs o ho)⟩
  rw [← h.rest, ← k.rest]

theorem SpecOnly.putReg (s : State) {o : Nat} (v : Word) (h1 : 0x40000 ≤ o) (h2 : o < 0x50000) : SpecOnly s (putReg s o v) :=
  ⟨rfl, fun _ ho => getReg_putReg_ne s v (by omega)⟩

theorem SpecOnly.setSpec (s : State) (x : SpecState) : SpecOnly s { s with spec := x } := ⟨rfl, fun _ _ => rfl⟩

theorem SpecOnly.forAll {α : Type} (l : List α) (f : State → α → State) (s : State) (h : ∀ s, ∀ x ∈ l, SpecOnly s (f s x)) :
    SpecOnly s (forAll l f s) := by
  unfold Machine.forAll
  induction l generalizing s with
  | nil => exact .refl s
  | cons x r ih => exact (h s x (by simp)).trans (ih _ fun s y hy => h s y (by simp [hy]))

theorem publishSpec_only (n : Nat) (s : State) : SpecOnly s (publishSpec n s) := by
  have htask (s : State) (t : Nat) (ht : t ∈ List.range 32) (v : Nat) : SpecOnly s (putNat s (Reg.SPEC_TASKSEG t) v) := by
    have := List.mem_range.mp ht
    exact .putReg s _ (by simp only [Reg.SPEC_TASKSEG]; omega) (by simp only [Reg.SPEC_TASKSEG]; omega)
  have h1 (v : Nat) (s : State) : SpecOnly s (putNat s Reg.SPEC_LASTSEG v) := .putReg s _ (by decide) (by decide)
  have h2 (v : Nat) (s : State) : SpecOnly s (putNat s Reg.SPEC_SAVED v) := .putReg s _ (by decide) (by decide)
  have h3 (b : Bool) (s : State) : SpecOnly s (putFlag s Reg.SPEC_STAT 8 b) := .putReg s _ (by decide) (by decide)
  exact (((h1 _ s).trans (h2 _ _)).trans (SpecOnly.forAll _ _ _ fun s t ht => htask s t ht _)).trans
    ((h3 _ _).trans (.setSpec _ _))

/-! The boundary. -/

theorem standbyCommits_none (n : Nat) (h : s.hasp.commitsDue = []) :
    standbyCommits n s = ([], { s with hasp := { s.hasp with commitsDue := [] } }) := by simp [standbyCommits, h]

theorem txnBoundary_none (n : Nat) (h : s.txn.order = []) : txnBoundary n s = ([], s) := by simp [txnBoundary, h, processCommits]

theorem olcTick_none (n : Nat) (h : s.olc.waiting = none ∧ s.olc.installing = none ∧ s.olc.refusing = none) :
    olcTick n s = ([], s) := by simp [olcTick, h.1, h.2.1, h.2.2, countWait]

/-- Where no register is written, no unit takes anything. -/
theorem unitBoundary_none (n : Nat) (x : HaspState) : unitBoundary n false [] s { s with hasp := x } = { s with hasp := x } := by
  have hfld (o hi lo : Nat) : fld { s with hasp := x } o hi lo = fld s o hi lo := rfl
  have hsrc : srcLane { s with hasp := x } = srcLane s := rfl
  simp [unitBoundary, anyIn, unitsTake, forAll, hfld, hsrc]

theorem boundary_quiet (n : Nat) (hsw : s.frm.switchTo = none)
    (holc : s.olc.waiting = none ∧ s.olc.installing = none ∧ s.olc.refusing = none) (htold : s.hasp.commitsDue = [])
    (hsolo : haspState s = 0) (hord : s.txn.order = []) :
    boundary n s = { s with hasp := { s.hasp with commitsDue := [] } } := by
  have hdue : switchDue n s = false := by simp [switchDue, hsw]
  have hord' (x : HaspState) : ({ s with hasp := x } : State).txn.order = [] := hord
  have hstate (x : HaspState) : haspState { s with hasp := x } = 0 := hsolo
  simp only [boundary, hdue, if_false, Bool.false_eq_true, olcTick_none n holc, standbyCommits_none n htold, hstate,
    txnBoundary_none n (hord' _), List.append_nil]
  exact unitBoundary_none n _

end

end Sys2Proof.Machine
end

section
/-! SUPPORT. The tick of a frame in which no input or output takes part, step by step (R54, R57, R61, R270). -/

namespace Sys2Proof.Machine

/-- A step of a tick that keeps the mode, and what the statements about a tick read. -/
structure CalmStep (s t : State) : Prop where
  kept : TickKept s t
  mode : curMode t = curMode s

/-- Nothing waits for the boundary, and no input or output takes part. -/
structure BareFrame (s : State) : Prop where
  solo : haspState s = 0
  first : s.frm.first = false
  order : s.txn.order = []
  change : s.olc.waiting = none ∧ s.olc.installing = none ∧ s.olc.refusing = none
  period : s.frm.switchTo = none
  resuming : s.leaf.resuming = false
  iomap : s.frm.iomap = []
  lanes : s.lanes = []
  dio : s.dio = []
  ao : s.ao = []
  nextOut : s.frm.nextOut = none
  bus : ∀ n, n < 12 → onBus s n = false

section
variable {s t u : State}

theorem BareFrame.of_kept (h : BareFrame s) (k : TickKept s t) : BareFrame t where
  solo := (fld_congr (k.regs _ (by decide) (by decide)) _ _).trans h.solo
  first := k.first.trans h.first
  order := by rw [k.txn, h.order]
  change := by rw [k.olc]; exact h.change
  period := k.switchTo.trans h.period
  resuming := by rw [k.leaf, h.resuming]
  iomap := k.iomap.trans h.iomap
  lanes := k.lanes.trans h.lanes
  dio := k.dio.trans h.dio
  ao := k.ao.trans h.ao
  nextOut := k.nextOut.trans h.nextOut
  bus n hn := by
    have hq : quietReg (Reg.LANE_STAT n) = true := by
      simp only [quietReg, Bool.or_eq_true, Bool.and_eq_true, decide_eq_true_eq]
      simp only [Reg.LANE_STAT]
      omega
    have hne : Reg.LANE_STAT n ≠ Reg.LEAF_STAT := by
      simp only [Reg.LANE_STAT, Reg.LEAF_STAT]
      omega
    have hst : laneStat t n = laneStat s n := fld_congr (k.regs _ hq hne) _ _
    rw [onBus, hst, ← onBus]
    exact h.bus n hn

/-! Rules for calm steps. -/

theorem CalmStep.refl (s : State) : CalmStep s s := ⟨.refl s, rfl⟩

theorem CalmStep.trans (h : CalmStep s t) (k : CalmStep t u) : CalmStep s u := ⟨h.kept.trans k.kept, k.mode.trans h.mode⟩

theorem CalmStep.forAll {α : Type} (l : List α) (f : State → α → State) (s : State) (h : ∀ s, ∀ x ∈ l, CalmStep s (f s x)) :
    CalmStep s (forAll l f s) := by
  unfold Machine.forAll
  induction l generalizing s with
  | nil => exact .refl s
  | cons x r ih => exact (h s x (by simp)).trans (ih _ fun s y hy => h s y (by simp [hy]))

theorem CalmStep.ite (c : Prop) [Decidable c] (h : CalmStep s t) (k : CalmStep s u) : CalmStep s (if c then t else u) := by
  split
  · exact h
  · exact k

theorem CalmStep.putReg (s : State) {o : Nat} (v : Word) (h : quietReg o = false) (hm : o ≠ Reg.FRM_MODE) : CalmStep s (putReg s o v) :=
  ⟨.putReg s v h, fld_congr (getReg_putReg_ne s v hm.symm) _ _⟩

theorem CalmStep.setFrm (s : State) (x : FrmState) (h1 : x.first = s.frm.first) (h2 : x.switchTo = s.frm.switchTo)
    (h3 : x.iomap = s.frm.iomap) (h4 : x.nextOut = s.frm.nextOut) : CalmStep s { s with frm := x } := ⟨.setFrm s x h1 h2 h3 h4, rfl⟩

theorem CalmStep.raise (s : State) {code cls : Nat} (h : (cls, code) ∈ [(1, 0x0533), (0, 0x0330), (0, 0x0331), (0, 0x0332)]) :
    CalmStep s (raise code cls s) := ⟨(TickKept.raise s h).1, (TickKept.raise s h).2.2⟩

/-- Device time, the memory devices, SPEC and the pair's port are nothing that the statements about a tick read. -/
theorem CalmStep.setUnits (s : State) (a : TimeState) (b : MemState) (c : SpecState) (d : HaspState) :
    CalmStep s { s with time := a, mm := b, spec := c, hasp := d } :=
  ⟨⟨fun _ _ _ => rfl, fun _ _ => rfl, rfl, .of_eq rfl, rfl, rfl, rfl, rfl, rfl, rfl, rfl, rfl, rfl⟩, rfl⟩

theorem quietReg_unspec {o : Nat} (h : quietReg o = true) : o < 0x40000 ∨ 0x50000 ≤ o := by
  simp only [quietReg, Bool.or_eq_true, Bool.and_eq_true, decide_eq_true_eq] at h
  rcases h with ((((h | h) | h) | h) | h) | h
  · subst h; decide
  · subst h; decide
  · subst h; decide
  · subst h; decide
  · subst h; decide
  · omega

theorem CalmStep.of_spec (h : SpecOnly s t) : CalmStep s t where
  mode := fld_congr (h.regs _ (by decide)) _ _
  kept := {
    regs := fun o ho _ => h.regs o (quietReg_unspec ho)
    leafs := fun l _ => leafSt_congr (h.regs _ (by decide)) l
    leaf := by have h1 := congrArg State.leaf h.rest; exact h1
    flt := .of_eq (by have h1 := congrArg State.flt h.rest; exact h1)
    lanes := by have h1 := congrArg State.lanes h.rest; exact h1
    dio := by have h1 := congrArg State.dio h.rest; exact h1
    ao := by have h1 := congrArg State.ao h.rest; exact h1
    txn := by have h1 := congrArg State.txn h.rest; exact h1
    olc := by have h1 := congrArg State.olc h.rest; exact h1
    first := by have h1 := congrArg (fun s => s.frm.first) h.rest; exact h1
    switchTo := by have h1 := congrArg (fun s => s.frm.switchTo) h.rest; exact h1
    iomap := by have h1 := congrArg (fun s => s.frm.iomap) h.rest; exact h1
    nextOut := by have h1 := congrArg (fun s => s.frm.nextOut) h.rest; exact h1 }

theorem specDiscard_only (s : State) : SpecOnly s (specDiscard s) := by
  have hdrop (n : Nat) : SpecOnly s (specDrop n s) := by
    have hbump (s : State) : SpecOnly s (bump s Reg.SPEC_DISCARDS 31 0) := .putReg s _ (by decide) (by decide)
    have hflag (s : State) : SpecOnly s (putFlag s Reg.SPEC_STAT 8 true) := .putReg s _ (by decide) (by decide)
    unfold specDrop
    extract_lets x a b
    have hb : SpecOnly s b := (SpecOnly.setSpec s _).trans (hbump _)
    split
    · exact hb.trans (hflag _)
    · exact hb
  unfold specDiscard
  split
  · exact .refl s
  · split
    · exact .refl s
    · exact hdrop _

/-! The steps of a tick. -/

theorem filtersTo_bare (h : s.dio = []) : filtersTo s = s := by simp [filtersTo, busyDio, h, Machine.forAll]

theorem firstTick_later (n : Nat) (h : s.frm.first = false) : firstTick n s = s := by simp [firstTick, h]

theorem endDebugHalt_none (h : s.leaf.resuming = false) : endDebugHalt s = s := by simp [endDebugHalt, h]

theorem takeRequest_none (n : Nat) (h : s.frm.reqDue = none) : CalmStep s (takeRequest n s) := by
  unfold takeRequest
  split
  · exact .refl s
  · simp only [h]
    have hf := CalmStep.setFrm s { s.frm with reqDue := s.frm.reqLate, reqLate := none } rfl rfl rfl rfl
    obtain ⟨h1, -, h3⟩ := refreshPend_kept { s with frm := { s.frm with reqDue := s.frm.reqLate, reqLate := none } }
    exact hf.trans ⟨h1, h3⟩

theorem newFrame_bare (h : BareFrame s) : CalmStep s (newFrame s) := by
  have hlane (s : State) (h : s.lanes = []) (n : Nat) : { lane s n with undecl := false, rxFull := false, mapped := [] } = lane s n := by
    rw [lane, h]
    rfl
  have hput (s : State) (n v : Nat) (hn : n < 12) : CalmStep s (putFld s (Reg.TIME_LANE_STAT n) 13 8 v) := by
    refine .putReg s _ ?_ ?_
    · simp only [quietReg, Bool.or_eq_false_iff, Bool.and_eq_false_iff, decide_eq_false_iff_not]
      simp only [Reg.TIME_LANE_STAT, Reg.LEAF_STAT, Reg.FLT_STAT, Reg.FLT_CUR2, Reg.HASP_STAT, Reg.TIME_MAP_RATE]
      omega
    · simp only [Reg.TIME_LANE_STAT, Reg.FRM_MODE]
      omega
  have hlanes : ∀ (l : List Nat), (∀ n ∈ l, n < 12) → ∀ s : State, s.lanes = [] → CalmStep s (forAll l (fun s n =>
      let l := lane s n
      let l' := { l with undecl := false, rxFull := false, mapped := [] }
      let s := if l = l' then s else putLane n l' s
      putFld s (Reg.TIME_LANE_STAT n) 13 8 (cycleOf s n (fnum s))) s) := by
    intro l
    induction l with
    | nil => exact fun _ s _ => .refl s
    | cons n r ih =>
      intro hr s hs
      have h1 := hput s n (cycleOf s n (fnum s)) (hr n (by simp))
      have h2 := ih (fun m hm => hr m (by simp [hm])) _ (h1.kept.lanes.trans hs)
      simp only [Machine.forAll, List.foldl_cons, hlane s hs, if_true] at h2 ⊢
      exact h1.trans h2
  have hstart : CalmStep s { s with
      mm := { s.mm with stalled := false }
      dio := s.dio.map fun p => (p.1, { p.2 with ofsRaised := false })
      ao := s.ao.map fun p => (p.1, { p.2 with ofsRaised := false }) } := by
    rw [h.dio, h.ao, List.map_nil, List.map_nil, ← h.dio, ← h.ao]
    exact .setUnits s s.time _ s.spec s.hasp
  unfold newFrame
  exact hstart.trans (hlanes _ (fun n hn => List.mem_range.mp hn) _ h.lanes)

theorem takeOutput_bare (h : BareFrame s) : CalmStep s (takeOutput s) := by
  have hedge : settleEdges s = s := by simp [settleEdges, h.dio, h.ao, Machine.forAll]
  simp only [takeOutput, hedge, h.nextOut]
  exact .setFrm s _ rfl rfl rfl h.nextOut.symm

theorem trimRx_calm (n : Nat) (s : State) : CalmStep s (trimRx n s) := .setUnits s s.time s.mm s.spec _

theorem takeSample_bare (h : BareFrame s) : CalmStep s (takeSample s) := by
  have hsample : localSample s = ([], s) := by simp [localSample, filtersTo_bare h.dio, h.iomap, Machine.forAll]
  have hsolo := h.solo
  simp only [takeSample, hsample, hsolo]
  exact (CalmStep.setUnits s s.time s.mm _ s.hasp).trans (.setFrm _ _ rfl rfl rfl rfl)

/-! The releases. -/

theorem putInst_calm (t : Nat) (i : Inst) (s : State) : CalmStep s (putInst t i s) := .setFrm s _ rfl rfl rfl rfl

theorem bumpSkip_calm {t : Nat} (ht : t < 32) (s : State) : CalmStep s (bumpSkip t s) := by
  refine .putReg s _ ?_ ?_
  · simp only [quietReg, Bool.or_eq_false_iff, Bool.and_eq_false_iff, decide_eq_false_iff_not]
    simp only [Reg.FRM_TASKSTAT, Reg.LEAF_STAT, Reg.FLT_STAT, Reg.FLT_CUR2, Reg.HASP_STAT, Reg.TIME_MAP_RATE]
    omega
  · simp only [Reg.FRM_TASKSTAT, Reg.FRM_MODE]
    omega

theorem noEntry_calm (t : Nat) (s : State) : CalmStep s (noEntry t s) := by
  unfold noEntry
  split
  · exact .refl s
  · exact (CalmStep.setFrm s { s.frm with noEntry := t :: s.frm.noEntry } rfl rfl rfl rfl).trans (.raise _ (code := 0x0331) (cls := 0) (by decide))

theorem sendPos_solo (h : haspState s = 0) : sendPos s = s := by simp [sendPos, h]

theorem releaseTask_calm (t n deadline relTime : Nat) (frozen : Bool) (h : BareFrame s) :
    CalmStep s (releaseTask t n deadline relTime frozen s) := by
  unfold releaseTask
  split
  · rw [sendPos_solo (h.of_kept (putInst_calm t _ s).kept).solo]
    exact putInst_calm t _ s
  · exact noEntry_calm t s

theorem cyclicRelease_calm (n : Nat) {t : Nat} (ht : t < 32) (h : BareFrame s) : CalmStep s (cyclicRelease n s t) := by
  have hskip := bumpSkip_calm ht s
  unfold cyclicRelease
  split
  · exact .refl s
  · split
    · extract_lets a
      have ha : CalmStep s a := hskip
      split
      · exact ha
      · exact (ha.trans (.setFrm a { a.frm with holdSkipped := true } rfl rfl rfl rfl)).trans
          (.raise _ (code := 0x0330) (cls := 0) (by decide))
    · split
      · split
        · exact hskip.trans (noEntry_calm t _)
        · split
          · exact hskip.trans (.raise _ (code := 0x0332) (cls := 0) (by decide))
          · exact releaseTask_calm t n _ _ false h
      · exact .refl s

theorem cyclicReleases_calm (n : Nat) (h : BareFrame s) : CalmStep s (cyclicReleases n s) := by
  have hall : ∀ (l : List Nat), (∀ t ∈ l, t < 32) → ∀ s, BareFrame s → CalmStep s (forAll l (cyclicRelease n) s) := by
    intro l
    induction l with
    | nil => exact fun _ s _ => .refl s
    | cons t r ih =>
      intro hr s hs
      have h1 := cyclicRelease_calm n (hr t (by simp)) hs
      exact h1.trans (ih (fun m hm => hr m (by simp [hm])) _ (hs.of_kept h1.kept))
  unfold cyclicReleases
  split
  · exact hall _ (fun t ht => List.mem_range.mp ht) s h
  · exact .refl s

theorem openWhole_bare (h : BareFrame s) : openWhole s = s := by
  have hone : ∀ n ∈ List.range 12, (let s := if (lane s n).win.isSome then putLane n { lane s n with win := none } s else s
      windowOpens n 63 s) = s := by
    intro n hn
    have hwin : (lane s n).win = none := by rw [lane, h.lanes]; rfl
    simp [hwin, windowOpens, h.bus n (List.mem_range.mp hn)]
  unfold openWhole Machine.forAll
  generalize List.range 12 = l at hone
  induction l with
  | nil => rfl
  | cons n r ih =>
    rw [List.foldl_cons, hone n (by simp)]
    exact ih fun m hm => hone m (by simp [hm])

end

end Sys2Proof.Machine
end

section
/-! The course of a CDR (R33, R57, R156, R375). -/

namespace Sys2Proof.Machine

section
variable {s t u : State}

/-! The tick behind the end of the action. -/

/-- What waits for device time, for a partner's commits and for a mode at the tick: nothing. -/
structure NothingDue (s : State) : Prop where
  step : s.time.stepBy = none ∧ s.time.stepCmd = false
  rate : s.time.rate = mapRate s 0
  told : s.hasp.commitsDue = []
  due : s.frm.reqDue = none

theorem timeTick_calm (h : NothingDue s) : CalmStep s (timeTick s) ∧ (timeTick s).hasp = s.hasp ∧ (timeTick s).frm = s.frm := by
  rw [timeTick_quiet h.step.1 h.step.2 h.rate]
  exact ⟨.setUnits s _ s.mm s.spec s.hasp, rfl, rfl⟩

/-- The boundary of a tick at which nothing is due, to the request of a mode. -/
theorem boundary_calm (n : Nat) (hb : BareFrame s) (htold : s.hasp.commitsDue = []) (hdue : s.frm.reqDue = none) :
    CalmStep s (endDebugHalt (takeRequest n (firstTick n (boundary n (publishSpec n s))))) := by
  have hspec := publishSpec_only n s
  generalize publishSpec n s = p at hspec
  have hcalm := CalmStep.of_spec hspec
  have hpb := hb.of_kept hcalm.kept
  have hhasp : p.hasp = s.hasp := by have h1 := congrArg State.hasp hspec.rest; exact h1
  have hfrm : p.frm = s.frm := by have h1 := congrArg State.frm hspec.rest; exact h1
  rw [boundary_quiet n hpb.period hpb.change (by rw [hhasp, htold]) hpb.solo hpb.order]
  have hset := CalmStep.setUnits p p.time p.mm p.spec { p.hasp with commitsDue := [] }
  have hreq := takeRequest_none (s := { p with hasp := { p.hasp with commitsDue := [] } }) n (by show p.frm.reqDue = none; rw [hfrm, hdue])
  have hall := hset.trans hreq
  rw [firstTick_later n (hpb.of_kept hset.kept).first, endDebugHalt_none (hpb.of_kept hall.kept).resuming]
  exact hcalm.trans hall

theorem putPair_calm (n : Nat) (s : State) : CalmStep s (putPair s Reg.FRM_FNUM_LO n) :=
  (CalmStep.putReg s _ (by decide) (by decide)).trans (.putReg _ _ (by decide) (by decide))

/-- The frame begins with its tick. -/
def frameBegun (s : State) : State := { s with frm := { s.frm with phase := 0, compute := false, running := none } }

/-- The units at a tick at which the leaves run or run-ahead is discarded. -/
def tickUnits (n : Nat) (s : State) : State :=
  let s := if curMode s = modeRun then s else specDiscard s
  let s := openWhole (cyclicReleases n (takeSample (trimRx n (takeOutput (newFrame s)))))
  when (haspState s = 2) (fun s => sendRec "SAMPLE" (sendRec "COMMITS" s)) s

theorem tickUnits_calm (n : Nat) (hb : BareFrame s) : CalmStep s (tickUnits n s) := by
  unfold tickUnits
  extract_lets o w
  have ho : CalmStep s o := .ite _ (.refl s) (.of_spec (specDiscard_only s))
  have h1 : CalmStep s (newFrame o) := ho.trans (newFrame_bare (hb.of_kept ho.kept))
  have h2 : CalmStep s (trimRx n (takeOutput (newFrame o))) := (h1.trans (takeOutput_bare (hb.of_kept h1.kept))).trans (trimRx_calm n _)
  have h3 := h2.trans (takeSample_bare (hb.of_kept h2.kept))
  have h4 := h3.trans (cyclicReleases_calm n (hb.of_kept h3.kept))
  have hend := hb.of_kept h4.kept
  have hw : w = cyclicReleases n (takeSample (trimRx n (takeOutput (newFrame o)))) := openWhole_bare hend
  rw [hw, when, hend.solo]
  exact h4

/-- The tick of frame `n` behind the boundary. -/
def tickRest (n : Nat) (s : State) : State := tickUnits n (frameBegun (putPair s Reg.FRM_FNUM_LO n))

theorem tickRest_calm (n : Nat) (hb : BareFrame s) : CalmStep s (tickRest n s) := by
  have hbegun (s : State) : CalmStep s (frameBegun s) := .setFrm s _ rfl rfl rfl rfl
  have h1 := (putPair_calm n s).trans (hbegun _)
  exact h1.trans (tickUnits_calm n (hb.of_kept h1.kept))

/-- The boundary, where `n` is the frame that begins. -/
def tickBoundary (n : Nat) (s : State) : State := endDebugHalt (takeRequest n (firstTick n (boundary n (publishSpec n s))))

/-- The frame whose tick it is: steps of device time may have brought it on. -/
def frameReached (n : Nat) (s : State) : Nat :=
  max n (pair s Reg.FRM_FBASEN_LO + (now s - pair s Reg.FRM_FBASET_LO) / frameNs s)

/-- The tick behind the steps of device time. -/
def tickFrom (n : Nat) (s : State) : State := tickRest (frameReached n s) (tickBoundary (frameReached n s) (filtersTo s))

theorem frameTick_eq (hrun : s.frm.ticking = true) (hsolo : haspState s = 0) (hpow : s.pads.pfailB = true) :
    frameTick s = tickFrom (nextTick s) (timeTick (cdrResume (advanceToTime (tickAt s (nextTick s)) s))) := by
  have hgo : (!(s.frm.ticking || s.frm.first) || decide (haspState s = 1) || !s.pads.pfailB) = false := by simp [hrun, hsolo, hpow]
  unfold frameTick
  rw [hgo, if_neg (by decide)]
  extract_lets +onlyGivenNames n a c t m f b e p
  have he : tickBoundary m f = e := by
    clear_value m f
    rfl
  have hfrom : tickFrom n t = tickRest m e := by
    rw [← he]
    clear_value t n
    rfl
  have hp : putPair e Reg.FRM_FNUM_LO m = p := by
    clear_value e m
    rfl
  rw [hfrom, tickRest, hp]
  clear_value p m
  rfl

/-- A tick at which nothing is due keeps, behind the end of an action, what the statements about a tick read. -/
theorem frameTick_calm (hrun : s.frm.ticking = true) (hsolo : haspState s = 0) (hpow : s.pads.pfailB = true)
    (hb : BareFrame (cdrResume (advanceToTime (tickAt s (nextTick s)) s)))
    (hd : NothingDue (cdrResume (advanceToTime (tickAt s (nextTick s)) s))) :
    CalmStep (cdrResume (advanceToTime (tickAt s (nextTick s)) s)) (frameTick s) := by
  rw [frameTick_eq hrun hsolo hpow]
  generalize nextTick s = n at *
  generalize cdrResume (advanceToTime (tickAt s n) s) = c at *
  obtain ⟨ht, hhasp, hfrm⟩ := timeTick_calm hd
  have htb := hb.of_kept ht.kept
  have hbound := ht.trans (boundary_calm (frameReached n (timeTick c)) htb (by rw [hhasp, hd.told]) (by rw [hfrm, hd.due]))
  rw [tickFrom, filtersTo_bare htb.dio]
  exact hbound.trans (tickRest_calm _ (hb.of_kept hbound.kept))

/-! What stands at the end of the action. -/

theorem BareFrame.of_undisturbed (h : Undisturbed s) (hb : Bare s) : BareFrame s := by
  obtain ⟨hmap, hlanes, hdio, hao, hout, hbus⟩ := hb
  obtain ⟨-, hresume⟩ := h.debug
  exact ⟨h.solo, h.first, h.order, h.change, h.period, hresume, hmap, hlanes, hdio, hao, hout, hbus⟩

theorem BareFrame.of_ended (h : BareFrame s) (k : CdrEnded s t) : BareFrame t where
  solo := (fld_congr (k.regs _ (by decide) (by decide) (by decide)) _ _).trans h.solo
  first := by rw [k.frm]; exact h.first
  order := by have h1 := congrArg (fun s => s.txn.order) k.rest; exact h1.trans h.order
  change := by
    have h1 := congrArg State.olc k.rest
    have h2 : t.olc = s.olc := h1
    rw [h2]
    exact h.change
  period := by rw [k.frm]; exact h.period
  resuming := by rw [k.leaf]; exact h.resuming
  iomap := by rw [k.frm]; exact h.iomap
  lanes := by have h1 := congrArg State.lanes k.rest; exact h1.trans h.lanes
  dio := by have h1 := congrArg State.dio k.rest; exact h1.trans h.dio
  ao := by have h1 := congrArg State.ao k.rest; exact h1.trans h.ao
  nextOut := by rw [k.frm]; exact h.nextOut
  bus n hn := by
    have hreg : getReg t (Reg.LANE_STAT n) = getReg s (Reg.LANE_STAT n) := by
      refine k.regs _ ?_ ?_ ?_
      · simp only [Reg.LANE_STAT, Reg.LEAF_STAT]
        omega
      · simp only [Reg.LANE_STAT, Reg.FLT_STAT]
        omega
      · simp only [Reg.LANE_STAT, Reg.FLT_CUR2]
        omega
    have hst : laneStat t n = laneStat s n := fld_congr hreg _ _
    rw [onBus, hst, ← onBus]
    exact h.bus n hn

theorem NothingDue.of_apart (h : NothingDue s) (k : Apart s t) : NothingDue t where
  step := by rw [k.time]; exact h.step
  rate := by rw [k.time, h.rate, mapRate, mapRate, regInt, regInt, k.regs _ (by decide)]
  told := k.told.trans h.told
  due := by rw [k.frm]; exact h.due

theorem NothingDue.of_ended (h : NothingDue s) (k : CdrEnded s t) : NothingDue t := by
  have ht : t.time = s.time := by have h1 := congrArg State.time k.rest; exact h1
  refine ⟨by rw [ht]; exact h.step, ?_, ?_, by rw [k.frm]; exact h.due⟩
  · rw [ht, h.rate, mapRate, mapRate, regInt, regInt, k.regs _ (by decide) (by decide) (by decide)]
  · have h1 := congrArg (fun s => s.hasp.commitsDue) k.rest
    exact h1.trans h.told

theorem NothingDue.of_waits (h : NothingDue s) (k : TickKept s t) (w : Waits s t) : NothingDue t where
  step := by rw [w.time]; exact h.step
  rate := by rw [w.time, h.rate, mapRate, mapRate, regInt, regInt, k.regs _ (by decide) (by decide)]
  told := w.told.trans h.told
  due := w.due.trans h.due

theorem cdrMode_apart (h : Apart s t) : cdrMode t = cdrMode s := by
  simp only [cdrMode, h.frm, h.flt, flag_congr (h.regs Reg.FRM_CFG (by decide)), h.regs Reg.FRM_TIMSTAT (by decide), h.curMode]

theorem cdrMode_lt (h : s.frm.resumeMode ≤ 2) : cdrMode s < 4 := by
  unfold cdrMode
  extract_lets v
  have hv : v ≤ 2 := h
  split
  · decide
  · split
    · decide
    · omega

/-! The faults of the tick are taken. -/

/-- The faults of a tick in FLT's order. -/
def tickKeys : Finset Nat := {2 * 2 ^ 16 + 0x0533, 3 * 2 ^ 16 + 0x0330, 3 * 2 ^ 16 + 0x0331, 3 * 2 ^ 16 + 0x0332}

theorem tickFault_small {a : Arrival} (h : tickFault a) : Small a ∧ arrivalKey a ∈ tickKeys := by
  obtain ⟨hesc, hkind⟩ := h
  simp only [List.mem_cons, Prod.mk.injEq, List.not_mem_nil, or_false] at hkind
  refine ⟨⟨by omega, hesc, ?_⟩, ?_⟩
  · simp only [codeQueueFull]
    omega
  · simp only [arrivalKey, tickKeys, Finset.mem_insert, Finset.mem_singleton]
    omega

/-- FLT takes the faults of a tick, and nothing else changes. -/
theorem settleFaults_tick (h : TickFlt s t) (hs : s.flt.arrived = []) (hq : s.flt.queue.length ≤ 48) : Noted t (settleFaults t) := by
  obtain ⟨d, hd, hd'⟩ := h.arrived
  have hmem : ∀ a ∈ t.flt.arrived, tickFault a := by
    rw [hd, hs, List.nil_append]
    exact hd'
  have hqueue : t.flt.queue = s.flt.queue := by have h1 := congrArg FltState.queue h.flt; exact h1
  exact settleFaults_kinds tickKeys t (fun a ha => (tickFault_small (hmem a ha)).1) (fun a ha => (tickFault_small (hmem a ha)).2)
    (by decide) (by rw [hqueue]; exact hq)

/-! The obligation. -/

/-- R57, R375, R78: the tick at which the action ends. -/
theorem cdrResume_ends (h : Undisturbed s) (hb : Bare s) (hr : s.flt.restored = true) (hdue : s.frm.reqDue = none)
    (hretake : s.flt.retake = false) (hm : s.frm.resumeMode ≤ 2) :
    Ends (exec .cdrResume s) fun u => u.flt.cdr = none ∧ u.flt.restored = false ∧ u.leaf.actHalt = false ∧ curMode u = cdrMode s ∧
      (∀ l, l < 3 → leafSt u l = if leafSt s l = 5 then 5 else 0) ∧ flag u Reg.FLT_STAT 0 = false ∧ flag u Reg.FLT_CUR2 0 = false := by
  have hA : Apart s (advanceToTime (tickAt s (nextTick s)) s) := advanceTo_apart s _
  have htick (hb hd) := frameTick_calm h.ticking h.solo h.power hb hd
  have hbare := (BareFrame.of_undisturbed h hb).of_kept (.of_apart hA)
  have hnone := NothingDue.of_apart ⟨h.step, h.rate, h.told, hdue⟩ hA
  generalize advanceToTime (tickAt s (nextTick s)) s = A at *
  have hE := cdrEnded_spec A
  obtain ⟨c1, c2, c3⟩ := cdrResume_kept (by rw [hA.flt, hr]) hbare.solo (by rw [hA.flt, hretake])
    (by rw [cdrMode_apart hA]; exact cdrMode_lt hm)
  have hF := htick ((hbare.of_ended hE).of_kept c1) ((hnone.of_ended hE).of_waits c1 c2)
  have hkept := c1.trans hF.kept
  have hmode : curMode (frameTick s) = cdrMode s := by rw [hF.mode, c3, cdrMode_apart hA]
  have harr : (cdrEnded A).flt.arrived = [] := by rw [hE.flt, hA.flt]; exact h.roomy.1.2
  have hqueue : (cdrEnded A).flt.queue.length ≤ 48 := by rw [hE.flt, hA.flt]; exact h.roomy.2
  have hset := settleFaults_tick hkept.flt harr hqueue
  have hexec : exec .cdrResume s = .next (settleFaults (frameTick s)) := by
    show act s resumeTick = _
    rw [act_runs _ h.roomy.1.1, resumeTick, if_pos hr]
  rw [hexec]
  generalize frameTick s = F at *
  have hflt := hkept.flt.flt
  rw [hE.flt] at hflt
  have hcdr : F.flt.cdr = none := by have h1 := congrArg FltState.cdr hflt; exact h1
  have hrest : F.flt.restored = false := by have h1 := congrArg FltState.restored hflt; exact h1
  refine ⟨_, rfl, ?_, ?_, ?_, hset.curMode.trans hmode, fun l hl => ?_, ?_, ?_⟩
  · have h1 := congrArg FltState.cdr hset.flt
    exact h1.trans hcdr
  · have h1 := congrArg FltState.restored hset.flt
    exact h1.trans hrest
  · rw [hset.leaf_eq, hkept.leaf, hE.leaf]
  · rw [leafSt_congr (hset.regs _ (by decide)), hkept.leafs l hl, hE.leafs l hl, leafSt_congr (hA.regs _ (by decide))]
  · rw [hset.flag_eq (by decide), flag_congr (hkept.regs _ (by decide) (by decide)), hE.stat]
  · rw [hset.flag_eq (by decide), flag_congr (hkept.regs _ (by decide) (by decide)), hE.cur2]

end

/-- Settles O38 (the model has a `cdrCourse` of its own): `cdrBegin_none` and `cdrBegin_bank` for the beginning, `cdrResume_ends` for the tick at which it ends. -/
theorem cdrCourse' : Obligations.CdrCourse := by
  unfold Obligations.CdrCourse
  intro s hs
  refine ⟨fun hc => ?_, fun hr => ?_, fun hc hr hundo ho hf => ⟨fun hb => cdrBegin_none hs.1 hc hr hundo ho hf hb,
    fun b hb hg => cdrBegin_bank hs.1 hc hr hundo ho hf hb hg⟩, fun h hb hr hdue hretake hm => ?_⟩
  · have hsame : cdrBegin s = s := by simp [cdrBegin_unfold, hc]
    show act s cdrBegin = _
    rw [act_quiet _ hs.1.1 (by rw [hsame]; exact hs.1.2), hsame]
  · have hsame : resumeTick s = s := by simp [resumeTick, hr]
    show act s resumeTick = _
    rw [act_quiet _ hs.1.1 (by rw [hsame]; exact hs.1.2), hsame]
  · obtain ⟨u, hu, h1, h2, h3, h4, h5⟩ := cdrResume_ends h hb hr hdue hretake hm
    refine ⟨u, hu, h1, h2, h3, ?_, h5⟩
    rw [h4, cdrMode]
    simp only [Bool.or_eq_true, ite_or]

end Sys2Proof.Machine
end

section
/-! SUPPORT. Sets of registers that a command rewrites, each by itself (R84, R138). -/

namespace Sys2Proof.Machine

/-- `t` is `s` but for its registers, each of which has become what `g` makes of its offset and its value. -/
structure Rewrites (s t : State) (g : Nat → Nat → Nat) : Prop where
  only : RegsOnly s t
  val : ∀ o, regNat t o = g o (regNat s o)

/-- The registers of a list change by `h`. -/
def onRegs (l : List Nat) (h : Nat → Nat) (o x : Nat) : Nat := if o ∈ l then h x else x

section
variable {s t u : State} {g k : Nat → Nat → Nat} {h : Nat → Nat}

theorem Rewrites.refl (s : State) : Rewrites s s fun _ x => x := ⟨rfl, fun _ => rfl⟩

theorem Rewrites.trans (a : Rewrites s t g) (b : Rewrites t u k) : Rewrites s u fun o x => k o (g o x) :=
  ⟨a.only.trans b.only, fun o => by rw [b.val, a.val]⟩

theorem onRegs_append (hh : ∀ x, h (h x) = h x) (l l' : List Nat) (o x : Nat) :
    onRegs l' h o (onRegs l h o x) = onRegs (l ++ l') h o x := by
  by_cases h1 : o ∈ l <;> by_cases h2 : o ∈ l' <;> simp [onRegs, h1, h2, hh]

/-- Two steps that change registers in the same way. -/
theorem Rewrites.append {l l' : List Nat} (hh : ∀ x, h (h x) = h x) (a : Rewrites s t (onRegs l h)) (b : Rewrites t u (onRegs l' h)) :
    Rewrites s u (onRegs (l ++ l') h) :=
  ⟨a.only.trans b.only, fun o => by rw [b.val, a.val, onRegs_append hh]⟩

/-- Two steps after which registers are 0. -/
theorem Rewrites.and {l l' : List Nat} (a : Rewrites s t (onRegs l fun _ => 0)) (b : Rewrites t u (onRegs l' fun _ => 0)) :
    Rewrites s u (onRegs (l ++ l') fun _ => 0) := a.append (fun _ => rfl) b

theorem Rewrites.forAll {α : Type} (hh : ∀ x, h (h x) = h x) (r : α → List Nat) (f : State → α → State) (l : List α)
    (hf : ∀ s, ∀ a ∈ l, Rewrites s (f s a) (onRegs (r a) h)) (s : State) : Rewrites s (forAll l f s) (onRegs (l.flatMap r) h) := by
  induction l generalizing s with
  | nil => exact ⟨rfl, fun o => by simp [onRegs, Machine.forAll]⟩
  | cons a l ih =>
    have hrest := ih (fun s b hb => hf s b (by simp [hb])) (f s a)
    exact (hf s a (by simp)).append hh hrest

/-- A field is emptied. -/
theorem Rewrites.putFld (s : State) (o hi lo : Nat) (hhi : hi ≤ 31) (hlo : lo ≤ hi) :
    Rewrites s (putFld s o hi lo 0) (onRegs [o] fun x => withBits x hi lo 0) := by
  refine ⟨rfl, fun o' => ?_⟩
  by_cases ho : o' = o
  · rw [ho, regNat, toNat_putFld s o hi lo 0 hhi hlo]
    simp [onRegs, regNat]
  · rw [regNat, getReg_putFld_ne s hi lo 0 ho]
    simp [onRegs, ho, regNat]

/-- A register becomes 0. -/
theorem Rewrites.zero (s : State) (o : Nat) : Rewrites s (putNat s o 0) (onRegs [o] fun _ => 0) := by
  refine ⟨rfl, fun o' => ?_⟩
  by_cases ho : o' = o
  · rw [ho, regNat_putNat_same]
    simp [onRegs]
  · rw [regNat, getReg_putNat_ne s 0 ho]
    simp [onRegs, ho, regNat]

/-- A pair becomes 0. -/
theorem Rewrites.zeroPair (s : State) (o : Nat) : Rewrites s (putPair s o 0) (onRegs [o, o + 4] fun _ => 0) := by
  have h := (Rewrites.zero s o).and (.zero (putNat s o 0) (o + 4))
  simpa [putPair] using h

theorem withBits_idem (x hi lo : Nat) : withBits (withBits x hi lo 0) hi lo 0 = withBits x hi lo 0 := by
  have h := bits_withBits_same x hi lo 0
  conv_lhs => rw [withBits, h]
  simp

end

end Sys2Proof.Machine
end

section
/-! The counter clears (R84, R139, R163, R193, R237, R238, R266, R297, R373, R387). -/

namespace Sys2Proof.Machine

/-! A write of a register with a CLEAR bit. -/

section
variable {s t : State} {m : Master} {o : Nat} {v : Word} {f : State → State}

theorem getLsbD_zero_iff (v : Word) (b : Bool) : v.getLsbD 0 = b ↔ (v.toNat % 2 = 1 ↔ b = true) := by
  rw [BitVec.getLsbD, Nat.testBit_zero]
  cases b <;> simp

/-- A write without CLEAR. -/
theorem clearWrite_off (hv : v.getLsbD 0 = false) : clearWrite v.toNat f s = (.ok, s) := by
  rw [clearWrite, if_neg fun h => by simpa using ((getLsbD_zero_iff v false).mp hv).mp h]

/-- A write with CLEAR. -/
theorem clearWrite_on (hv : v.getLsbD 0 = true) : clearWrite v.toNat f s = (.ok, f s) := by
  rw [clearWrite, if_pos (((getLsbD_zero_iff v true).mp hv).mpr rfl)]

/-- The register at an offset clears by `f`. -/
structure ClearsBy (o : Nat) (f : State → State) : Prop where
  command : isCommand o = true
  outside : o < 0x20000 ∨ 0x20200 ≤ o
  own : ∀ (m : Master) (v : Word) (s : State), ownWrite m o v s = some (clearWrite v.toNat f s)

theorem ClearsBy.off (h : ClearsBy o f) (hs : Runs s) (hv : v.getLsbD 0 = false) : exec (.stagedWrite m o v) s = accepted s := by
  refine stagedWrite_accepted hs (isCommand_regOffset h.command) ?_ rfl
  rw [regWrite_command h.command (txnBarred_outside h.outside) (h.own m v s), clearWrite_off hv]

theorem ClearsBy.on (h : ClearsBy o f) (hs : Runs s) (hv : v.getLsbD 0 = true) (hf : (f s).flt = s.flt) :
    exec (.stagedWrite m o v) s = accepted (f s) := by
  refine stagedWrite_accepted hs (isCommand_regOffset h.command) ?_ hf
  rw [regWrite_command h.command (txnBarred_outside h.outside) (h.own m v s), clearWrite_on hv]

/-- A clear that rewrites registers as `c` says. -/
theorem ClearsBy.cleared {g : Nat → Nat → Nat} {c : Nat → Option Nat} (h : ClearsBy o f) (hs : Runs s) (hv : v.getLsbD 0 = true)
    (hr : Rewrites s (f s) g) (hg : ∀ o, g o (regNat s o) = (c o).getD (regNat s o)) :
    Ends (exec (.stagedWrite m o v) s) fun u => Cleared s u c := by
  have hflt : (f s).flt = s.flt := by have h1 := congrArg State.flt hr.only; exact h1
  have hrest {t : State} (ht : RegsOnly s t) : { answered t with regs := s.regs, answer := s.answer } = s := by
    conv_rhs => rw [← ht]
    have ha : t.answer = s.answer := by have h1 := congrArg State.answer ht; exact h1
    rw [← ha]
    rfl
  refine ends_accepted (h.on hs hv hflt) ⟨answered_answer _, hrest hr.only, fun o => ?_⟩
  rw [← hg, ← hr.val]
  exact congrArg BitVec.toNat (getReg_answered _ o)

end

/-! The registers that clear. -/

theorem clearsBy_spec : ClearsBy Reg.SPEC_CTRCLR specCtrClr := ⟨by decide +kernel, .inr (by decide), fun _ _ _ => rfl⟩
theorem clearsBy_leaf : ClearsBy Reg.LEAF_CTRCLR leafCtrClr := ⟨by decide +kernel, .inr (by decide), fun _ _ _ => rfl⟩
theorem clearsBy_hasp : ClearsBy Reg.HASP_CTRCLR haspCtrClr := ⟨by decide +kernel, .inr (by decide), fun _ _ _ => rfl⟩
theorem clearsBy_mem : ClearsBy Reg.MEM_CTRCLR memCtrClr := ⟨by decide +kernel, .inr (by decide), fun _ _ _ => rfl⟩
theorem clearsBy_ret : ClearsBy Reg.RET_CTRCLR fun s => putNat s Reg.RET_STALLCNT 0 := ⟨by decide +kernel, .inr (by decide), fun _ _ _ => rfl⟩
theorem clearsBy_pst : ClearsBy Reg.PST_CTRCLR fun s => putNat s Reg.PST_CECNT 0 := ⟨by decide +kernel, .inr (by decide), fun _ _ _ => rfl⟩
theorem clearsBy_time : ClearsBy Reg.TIME_CTRCLR timeCtrClr := ⟨by decide +kernel, .inr (by decide), fun _ _ _ => rfl⟩
theorem clearsBy_frm : ClearsBy Reg.FRM_CTRCLR frmCtrClr := ⟨by decide +kernel, .inr (by decide), fun _ _ _ => rfl⟩

theorem isCommand_laneCtrclr : ∀ n, n < 12 → isCommand (Reg.LANE_CTRCLR n) = true := by decide +kernel

theorem clearsBy_lane {n : Nat} (hn : n < 12) : ClearsBy (Reg.LANE_CTRCLR n) (laneCtrClr n) := by
  refine ⟨isCommand_laneCtrclr n hn, .inr (by simp only [Reg.LANE_CTRCLR]; omega), fun m v s => ?_⟩
  have hhigh : ¬ Reg.LANE_CTRCLR n < 0x100000 := by simp only [Reg.LANE_CTRCLR]; omega
  have hblock : (decide (0x100000 ≤ Reg.LANE_CTRCLR n) && decide (Reg.LANE_CTRCLR n < 0x1C0000)) = true := by
    simp only [Bool.and_eq_true, decide_eq_true_eq]
    simp only [Reg.LANE_CTRCLR]
    omega
  have hlane : (Reg.LANE_CTRCLR n - 0x100000) / 0x10000 = n := by simp only [Reg.LANE_CTRCLR]; omega
  have hcmd : Reg.LANE_CTRCLR n ≠ Reg.LANE_CMD n := by simp only [Reg.LANE_CTRCLR, Reg.LANE_CMD]; omega
  rw [ownWrite, if_neg hhigh, highWrite, if_pos hblock, hlane]
  simp only [if_neg hcmd, if_true]

end Sys2Proof.Machine
end

section
/-! What each unit's clear rewrites, and the counter clears (R84, R139, R163, R193, R237, R238, R266, R297, R373, R387). -/

namespace Sys2Proof.Machine

section
variable (s : State)

theorem onRegs_zeros {l l' : List Nat} (h : ∀ o, o ∈ l ↔ o ∈ l') (o x : Nat) : onRegs l (fun _ => 0) o x = (zeros l' o).getD x := by
  by_cases ho : o ∈ l
  · simp [onRegs, zeros, ho, (h o).mp ho]
  · simp [onRegs, zeros, ho, (h o).not.mp ho]

/-- Registers of a list become 0 one after the other. -/
theorem zeroAll {α : Type} (r : α → Nat) (l : List α) :
    Rewrites s (forAll l (fun s a => putNat s (r a) 0) s) (onRegs (l.map r) fun _ => 0) := by
  have h := Rewrites.forAll (h := fun _ => 0) (fun _ => rfl) (fun a => [r a]) (fun s a => putNat s (r a) 0) l (fun s a _ => .zero s (r a)) s
  rwa [← List.map_eq_flatMap] at h

/-- A field of registers of a list is emptied in one after the other. -/
theorem emptyAll {α : Type} (r : α → Nat) (hi lo : Nat) (hhi : hi ≤ 31) (hlo : lo ≤ hi) (l : List α) :
    Rewrites s (forAll l (fun s a => putFld s (r a) hi lo 0) s) (onRegs (l.map r) fun x => withBits x hi lo 0) := by
  have h := Rewrites.forAll (fun x => withBits_idem x hi lo) (fun a => [r a]) (fun s a => putFld s (r a) hi lo 0) l
    (fun s a _ => .putFld s (r a) hi lo hhi hlo) s
  rwa [← List.map_eq_flatMap] at h

theorem specCtrClr_rewrites : Rewrites s (specCtrClr s) (onRegs ([Reg.SPEC_BUFPEAK, Reg.SPEC_DISCARDS, Reg.SPEC_RETIRED_LO,
    Reg.SPEC_RETIRED_LO + 4, Reg.SPEC_REPLAYED_LO, Reg.SPEC_REPLAYED_LO + 4] ++ (List.range 6).map Reg.SPEC_CAUSE) fun _ => 0) :=
  ((((Rewrites.zero s _).and (.zero _ _)).and (.zeroPair _ _)).and (.zeroPair _ _)).and (zeroAll _ _ _)

theorem memCtrClr_rewrites :
    Rewrites s (memCtrClr s) (onRegs [Reg.MEM_CECNT, Reg.MEM_UECNT, Reg.MEM_UNDOPEAK] fun _ => 0) :=
  ((Rewrites.zero s _).and (.zero _ _)).and (.zero _ _)

theorem leafCtrClr_rewrites : Rewrites s (leafCtrClr s) fun o x =>
    onRegs ([0, 1, 2].map Reg.LEAF_FAILCNT) (fun _ => 0) o (onRegs [Reg.LEAF_TRAPLOG] (fun x => withBits x 31 16 0) o x) :=
  (Rewrites.putFld s _ 31 16 (by omega) (by omega)).trans (zeroAll _ _ _)

theorem haspCtrClr_rewrites : Rewrites s (haspCtrClr s) fun o x =>
    onRegs [Reg.HASP_HBMISS, Reg.HASP_EVCNT] (fun _ => 0) o (onRegs [Reg.HASP_LAG] (fun x => withBits x 31 16 0) o x) :=
  (Rewrites.putFld s _ 31 16 (by omega) (by omega)).trans ((Rewrites.zero _ _).and (.zero _ _))

theorem laneCtrClr_rewrites (n : Nat) : Rewrites s (laneCtrClr n s) fun o x =>
    onRegs ((List.range 128).map (Reg.LANE_ACF_HITS n)) (fun _ => 0) o
      (onRegs ([0, 1].map (Reg.LANE_RXQ_STAT n)) (fun x => withBits x 28 16 0) o
        (onRegs [Reg.LANE_RXCNT n, Reg.LANE_TXCNT n, Reg.LANE_REJCNT n, Reg.LANE_DROPCNT n] (fun _ => 0) o x)) :=
  (((((Rewrites.zero s _).and (.zero _ _)).and (.zero _ _)).and (.zero _ _)).trans
    (emptyAll _ _ 28 16 (by omega) (by omega) _)).trans (zeroAll _ _ _)

theorem timeCtrClr_rewrites : Rewrites s (timeCtrClr s) (onRegs ([Reg.TIME_EVCNT] ++ (List.range 12).flatMap fun n =>
    [Reg.TIME_LANE_OFFWIN n] ++ (List.range 48).map (Reg.TIME_LANE_WIN_LATE n)) fun _ => 0) := by
  have hlane (s : State) (n : Nat) := (Rewrites.zero s (Reg.TIME_LANE_OFFWIN n)).and
    (zeroAll _ (Reg.TIME_LANE_WIN_LATE n) (List.range 48))
  exact (Rewrites.zero s Reg.TIME_EVCNT).and (.forAll (h := fun _ => 0) (fun _ => rfl) _ _ (List.range 12) (fun s n _ => hlane s n) _)

theorem putNat_rewrites (o v : Nat) (hv : v < 2 ^ 32) : Rewrites s (putNat s o v) (onRegs [o] fun _ => v) := by
  refine ⟨rfl, fun o' => ?_⟩
  by_cases ho : o' = o
  · rw [ho, regNat_putNat_same, Nat.mod_eq_of_lt hv]
    simp [onRegs]
  · rw [regNat, getReg_putNat_ne s v ho]
    simp [onRegs, ho, regNat]

theorem frmCtrClr_rewrites : Rewrites s (frmCtrClr s) fun o x =>
    onRegs [Reg.FRM_SLACKMIN] (fun _ => 0xFFFFF) o (onRegs ((List.range 32).map Reg.FRM_TASKMAX) (fun _ => 0) o
      (onRegs ((List.range 48).map taskStat) (fun x => withBits x 31 8 0) o x)) :=
  ((emptyAll s taskStat 31 8 (by omega) (by omega) _).trans (zeroAll _ _ _)).trans (putNat_rewrites _ _ _ (by omega))

/-! The parts of a register that a clear leaves. -/

theorem withBits_upper (o : Nat) : withBits (regNat s o) 31 16 0 = fld s o 15 0 ∧ withBits (regNat s o) 31 8 0 = fld s o 7 0 := by
  have := (getReg s o).isLt
  simp only [withBits, fld, bits, regNat]
  omega

end

section
variable {s : State} {m : Master} {v : Word}

/-- A clear of registers that each become 0. -/
theorem ClearsBy.zeroed {o : Nat} {f : State → State} {l l' : List Nat} (h : ClearsBy o f) (hs : Runs s) (hv : v.getLsbD 0 = true)
    (hr : Rewrites s (f s) (onRegs l fun _ => 0)) (hl : ∀ o, o ∈ l ↔ o ∈ l') :
    Ends (exec (.stagedWrite m o v) s) fun u => Cleared s u (zeros l') := h.cleared hs hv hr fun o => onRegs_zeros hl o _

/-- Registers that each become 0, around others that keep a part. -/
theorem onRegs_around {l l' l'' : List Nat} {h : Nat → Nat} {o : Nat} (hd : o ∈ l' → o ∉ l'' ++ l) (x : Nat) :
    onRegs l (fun _ => 0) o (onRegs l' h o (onRegs l'' (fun _ => 0) o x)) = (if o ∈ l' then some (h x) else zeros (l'' ++ l) o).getD x := by
  by_cases ho : o ∈ l'
  · have hn := hd ho
    simp only [List.mem_append, not_or] at hn
    simp [onRegs, ho, hn]
  · by_cases h1 : o ∈ l <;> by_cases h2 : o ∈ l'' <;> simp [onRegs, zeros, ho, h1, h2]

/-- Registers that each become 0, beside others that keep a part. -/
theorem onRegs_beside {l l' : List Nat} {h : Nat → Nat} (hd : ∀ o ∈ l', o ∉ l) (o x : Nat) :
    onRegs l (fun _ => 0) o (onRegs l' h o x) = (if o ∈ l' then some (h x) else zeros l o).getD x :=
  onRegs_around (l'' := []) (hd o) x

theorem leafCtrclr_cleared (hs : Runs s) (hv : v.getLsbD 0 = true) : Ends (exec (.leafCtrclr m v) s) fun u => Cleared s u fun o =>
    if o = Reg.LEAF_TRAPLOG then some (fld s o 15 0) else zeros ((List.range 3).map Reg.LEAF_FAILCNT) o := by
  refine clearsBy_leaf.cleared hs hv (leafCtrClr_rewrites s) fun o => ?_
  rw [onRegs_beside (by decide), (withBits_upper s o).1]
  simp only [List.mem_singleton]
  rfl

theorem haspCtrclr_cleared (hs : Runs s) (hv : v.getLsbD 0 = true) : Ends (exec (.haspCtrclr m v) s) fun u => Cleared s u fun o =>
    if o = Reg.HASP_LAG then some (fld s o 15 0) else zeros [Reg.HASP_HBMISS, Reg.HASP_EVCNT] o := by
  refine clearsBy_hasp.cleared hs hv (haspCtrClr_rewrites s) fun o => ?_
  rw [onRegs_beside (by decide), (withBits_upper s o).1]
  simp only [List.mem_singleton]

theorem exec_laneCtrclr {n : Nat} (hn : n < 12) : exec (.laneCtrclr m n v) s = exec (.stagedWrite m (Reg.LANE_CTRCLR n) v) s := by
  show act s (when (decide (n < 12)) (writeReg m (Reg.LANE_CTRCLR n) v)) = act s (writeReg m (Reg.LANE_CTRCLR n) v)
  simp only [act, when, hn, decide_true, if_true]

theorem laneCtrclr_cleared {n : Nat} (hn : n < 12) (hs : Runs s) (hv : v.getLsbD 0 = true) :
    Ends (exec (.laneCtrclr m n v) s) fun u => Cleared s u fun o =>
      if o = Reg.LANE_RXQ_STAT n 0 ∨ o = Reg.LANE_RXQ_STAT n 1 then some (withBits (regNat s o) 28 16 0)
      else zeros ([Reg.LANE_RXCNT n, Reg.LANE_TXCNT n, Reg.LANE_REJCNT n, Reg.LANE_DROPCNT n] ++
        (List.range 128).map (Reg.LANE_ACF_HITS n)) o := by
  rw [exec_laneCtrclr hn]
  refine (clearsBy_lane hn).cleared hs hv (laneCtrClr_rewrites s n) fun o => ?_
  have hd : o ∈ [0, 1].map (Reg.LANE_RXQ_STAT n) → o ∉ [Reg.LANE_RXCNT n, Reg.LANE_TXCNT n, Reg.LANE_REJCNT n, Reg.LANE_DROPCNT n] ++
      (List.range 128).map (Reg.LANE_ACF_HITS n) := by
    intro hstat hzero
    simp only [List.map_cons, List.map_nil, List.cons_append, List.nil_append, List.mem_cons, List.not_mem_nil, or_false,
      List.mem_map] at hstat hzero
    simp only [Reg.LANE_RXCNT, Reg.LANE_TXCNT, Reg.LANE_REJCNT, Reg.LANE_DROPCNT, Reg.LANE_RXQ_STAT, Reg.LANE_ACF_HITS] at hstat hzero
    omega
  rw [onRegs_around hd]
  simp only [List.map_cons, List.map_nil, List.mem_cons, List.not_mem_nil, or_false]

theorem frmCtrclr_cleared (hs : Runs s) (hv : v.getLsbD 0 = true) : Ends (exec (.frmCtrclr m v) s) fun u => Cleared s u fun o =>
    if o = Reg.FRM_SLACKMIN then some 0xFFFFF
    else if o ∈ (List.range 48).map taskStat then some (fld s o 7 0)
    else zeros ((List.range 32).map Reg.FRM_TASKMAX) o := by
  refine clearsBy_frm.cleared hs hv (frmCtrClr_rewrites s) fun o => ?_
  rw [onRegs_beside (by decide), (withBits_upper s o).2]
  simp only [onRegs, List.mem_singleton]
  split <;> rfl

theorem isCommand_wardCtrclr : isCommand Reg.WARD_CTRCLR = true := by decide +kernel

theorem regWrite_wardCtrclr (m : Master) (v : Word) (s : State) : regWrite m Reg.WARD_CTRCLR v s =
    (.ok, if v.toNat % 2 = 1 then putNat (breakKey s) Reg.WARD_DIAGCNT 0 else breakKey s) :=
  regWrite_command isCommand_wardCtrclr (txnBarred_outside (.inr (by decide))) rfl

/-- R369: a write of the ward's clear breaks the disable sequence, with CLEAR or without. -/
theorem wardCtrclr_off (hs : Runs s) (hv : v.getLsbD 0 = false) :
    exec (.wardCtrclr m v) s = accepted { s with ward := { s.ward with key := none } } := by
  refine stagedWrite_accepted hs (isCommand_regOffset isCommand_wardCtrclr) ?_ rfl
  rw [regWrite_wardCtrclr, if_neg fun h => by simpa using ((getLsbD_zero_iff v false).mp hv).mp h]
  rfl

theorem wardCtrclr_cleared (hs : Runs s) (hv : v.getLsbD 0 = true) : Ends (exec (.wardCtrclr m v) s) fun u =>
    Cleared { s with ward := { s.ward with key := none } } u (zeros [Reg.WARD_DIAGCNT]) := by
  have hr := Rewrites.zero (breakKey s) Reg.WARD_DIAGCNT
  have hw : regWrite m Reg.WARD_CTRCLR v s = (.ok, putNat (breakKey s) Reg.WARD_DIAGCNT 0) := by
    rw [regWrite_wardCtrclr, if_pos (((getLsbD_zero_iff v true).mp hv).mpr rfl)]
  have hrest (t : State) : { answered (putNat t Reg.WARD_DIAGCNT 0) with regs := t.regs, answer := t.answer } = t := rfl
  refine ends_accepted (stagedWrite_accepted hs (isCommand_regOffset isCommand_wardCtrclr) hw rfl) ⟨rfl, hrest _, fun o => ?_⟩
  exact (hr.val o).trans (onRegs_zeros (fun _ => Iff.rfl) o _)

end

/-- Settles O55: each unit's clear by what it rewrites (`ClearsBy.zeroed`, `leafCtrclr_cleared` and its like), and a write without
CLEAR by `ClearsBy.off`. -/
theorem countersClear : Obligations.CountersClear := by
  unfold Obligations.CountersClear
  intro s m n v hs hn
  refine ⟨fun hv => ⟨?_, wardCtrclr_off hs hv⟩, fun hv => ?_⟩
  · simp only [List.forall_mem_cons]
    refine ⟨clearsBy_spec.off hs hv, clearsBy_leaf.off hs hv, clearsBy_hasp.off hs hv, clearsBy_mem.off hs hv, clearsBy_ret.off hs hv, ?_,
      clearsBy_time.off hs hv, clearsBy_pst.off hs hv, clearsBy_frm.off hs hv, by simp⟩
    rw [exec_laneCtrclr hn]
    exact (clearsBy_lane hn).off hs hv
  · refine ⟨clearsBy_spec.zeroed hs hv (specCtrClr_rewrites s) fun _ => Iff.rfl, leafCtrclr_cleared hs hv, haspCtrclr_cleared hs hv,
      clearsBy_mem.zeroed hs hv (memCtrClr_rewrites s) fun _ => Iff.rfl, clearsBy_ret.zeroed hs hv (.zero s _) fun _ => Iff.rfl,
      clearsBy_pst.zeroed hs hv (.zero s _) fun _ => Iff.rfl, laneCtrclr_cleared hn hs hv,
      clearsBy_time.zeroed hs hv (timeCtrClr_rewrites s) fun o => ?_, frmCtrclr_cleared hs hv, wardCtrclr_cleared hs hv⟩
    simp only [List.mem_append, List.mem_cons, List.not_mem_nil, or_false, List.mem_flatMap, List.mem_map, exists_or, and_or_left]
    simp only [eq_comm (a := o), or_assoc]

end Sys2Proof.Machine
end

section
/-! SUPPORT. The registers by which the module dates: the mapping of device time, and the frame's base, number, period and offsets
(R54, R56, R270). -/

namespace Sys2Proof.Machine

/-- The registers that give device time and the instants of the frame. -/
def instantReg (o : Nat) : Bool :=
  (0x200020 ≤ o && o < 0x200060) || (0x30008 ≤ o && o < 0x30014) || (0x30018 ≤ o && o < 0x30020) || (0x30030 ≤ o && o < 0x30044)

section
variable {s t : State} (h : ∀ o, instantReg o = true → getReg t o = getReg s o)
include h

theorem mapping_congr {p : Nat} (hp : p < 2) : mapRaw t p = mapRaw s p ∧ mapTime t p = mapTime s p ∧ mapRate t p = mapRate s p := by
  have hpiece {o : Nat} (hlo : 0x200020 ≤ o) (hhi : o < 0x200060) : getReg t o = getReg s o := h o (by simp [instantReg, hlo, hhi])
  have hpair {o : Nat} (hlo : 0x200020 ≤ o) (hhi : o + 4 < 0x200060) : pair t o = pair s o :=
    pair_congr (hpiece hlo (by omega)) (hpiece (by omega) hhi)
  refine ⟨hpair ?_ ?_, hpair ?_ ?_, ?_⟩
  · simp only [Reg.TIME_MAP_RAW_LO]; omega
  · simp only [Reg.TIME_MAP_RAW_LO]; omega
  · simp only [Reg.TIME_MAP_TIME_LO]; omega
  · simp only [Reg.TIME_MAP_TIME_LO]; omega
  · have hrate : getReg t (Reg.TIME_MAP_RATE p) = getReg s (Reg.TIME_MAP_RATE p) :=
      hpiece (by simp only [Reg.TIME_MAP_RATE]; omega) (by simp only [Reg.TIME_MAP_RATE]; omega)
    rw [mapRate, regInt, hrate, ← regInt, ← mapRate]

theorem timeAt_congr (r : Nat) : timeAt t r = timeAt s r := by
  obtain ⟨h1, -, -⟩ := mapping_congr h (p := 0) (by omega)
  simp only [timeAt, h1]
  split
  · obtain ⟨h1, h2, h3⟩ := mapping_congr h (p := 0) (by omega)
    rw [h1, h2, h3]
  · obtain ⟨h1, h2, h3⟩ := mapping_congr h (p := 1) (by omega)
    rw [h1, h2, h3]

theorem now_congr (hr : t.raw = s.raw) : now t = now s := by rw [now, timeAt_congr h, hr, now]

theorem rawAt_congr (x : Nat) : rawAt t x = rawAt s x := by
  obtain ⟨h1, h2, h3⟩ := mapping_congr h (p := 0) (by omega)
  unfold rawAt
  rw [h1, h2, h3]

theorem frameNs_congr : frameNs t = frameNs s := by rw [frameNs, fld_congr (h _ (by decide)), ← frameNs]

theorem base_congr : pair t Reg.FRM_FBASET_LO = pair s Reg.FRM_FBASET_LO ∧ pair t Reg.FRM_FBASEN_LO = pair s Reg.FRM_FBASEN_LO :=
  ⟨pair_congr (h _ (by decide)) (h _ (by decide)), pair_congr (h _ (by decide)) (h _ (by decide))⟩

theorem tick_congr (n : Nat) : tickAt t n = tickAt s n := by
  rw [tickAt, (base_congr h).1, (base_congr h).2, frameNs_congr h, ← tickAt]

theorem fnum_congr : fnum t = fnum s := pair_congr (h _ (by decide)) (h _ (by decide))

theorem offsets_congr (n : Nat) : icAt t n = icAt s n ∧ ccAt t n = ccAt s n ∧ apAt t n = apAt s n := by
  have hwin : winNs t = winNs s := by rw [winNs, fld_congr (h _ (by decide)), ← winNs]
  have hcc : ccNs t = ccNs s := by rw [ccNs, fld_congr (h _ (by decide)), ← ccNs]
  have hap : apNs t = apNs s := by rw [apNs, fld_congr (h _ (by decide)), ← apNs]
  exact ⟨by rw [icAt, tick_congr h, hwin, ← icAt], by rw [ccAt, tick_congr h, hcc, ← ccAt], by rw [apAt, tick_congr h, hap, ← apAt]⟩

end

end Sys2Proof.Machine
end

section
/-! Mode requests (R57, R73, R75, R84). -/

namespace Sys2Proof.Machine

section
variable {s : State} {m : Master} {v : Word}

theorem isCommand_frmMode : isCommand Reg.FRM_MODE = true := by decide +kernel

theorem regWrite_frmMode (m : Master) (v : Word) (s : State) : regWrite m Reg.FRM_MODE v s = respond (modeRequest v.toNat s) :=
  regWrite_command isCommand_frmMode (txnBarred_outside (.inr (by decide))) rfl

/-- FRM.MODE holds the request `r`. -/
def requested (r : Nat) (s : State) : State := putFld s Reg.FRM_MODE 5 4 r

/-- What an accepted request leaves: `x` says what of FRM waits, and `b` whether PEND shows a request. -/
def requestKept (r : Nat) (x : FrmState) (b : Bool) (s : State) : State := putFlag { requested r s with frm := x } Reg.FRM_MODE 9 b

theorem instantReg_ne_mode {o : Nat} (h : instantReg o = true) : o ≠ Reg.FRM_MODE := by rintro rfl; cases h

/-- The request field says nothing of time, of the frame or of the mode in force. -/
theorem requested_instants (r : Nat) (s : State) : curMode (requested r s) = curMode s ∧ now (requested r s) = now s ∧
    fnum (requested r s) = fnum s ∧ ∀ n, tickAt (requested r s) n = tickAt s n := by
  have h : ∀ o, instantReg o = true → getReg (requested r s) o = getReg s o :=
    fun o ho => getReg_putFld_ne s _ _ _ (instantReg_ne_mode ho)
  exact ⟨fld_putFld_other _ _ _ _ _ _ _ _ (by omega) (by omega) (by omega) (by omega), now_congr h rfl, fnum_congr h, tick_congr h⟩

/-! What FRM makes of a request. -/

/-- A reserved value, and RUN while a bit of TIMSTAT is set. -/
theorem modeRequest_refused (h : bits v.toNat 5 4 = 3 ∨ (bits v.toNat 5 4 = modeRun ∧ getReg s Reg.FRM_TIMSTAT ≠ 0)) :
    modeRequest v.toNat s = (false, s) := by
  have hc : (decide (bits v.toNat 5 4 = 3) || (decide (bits v.toNat 5 4 = modeRun) && decide (getReg s Reg.FRM_TIMSTAT ≠ 0))) = true := by
    simpa using h
  simp only [modeRequest, hc, if_true]

section
variable (hcdr : s.flt.cdr = none) (h3 : bits v.toNat 5 4 ≠ 3) (hrun : bits v.toNat 5 4 = modeRun → getReg s Reg.FRM_TIMSTAT = 0)
include hcdr h3 hrun

theorem modeRequest_taken : modeRequest v.toNat s =
    if bits v.toNat 5 4 = curMode s then (true, dropRequests (requested (bits v.toNat 5 4) s))
    else (true, refreshPend { requested (bits v.toNat 5 4) s with
      frm := if now s + 5000 < tickAt s (fnum s + 1) then { s.frm with reqDue := some (bits v.toNat 5 4) }
        else { s.frm with reqLate := some (bits v.toNat 5 4) } }) := by
  have hc : (decide (bits v.toNat 5 4 = 3) || (decide (bits v.toNat 5 4 = modeRun) && decide (getReg s Reg.FRM_TIMSTAT ≠ 0))) = false := by
    simpa [h3] using hrun
  obtain ⟨h1, h2, h4, h5⟩ := requested_instants (bits v.toNat 5 4) s
  have hcdr' : (requested (bits v.toNat 5 4) s).flt.cdr.isSome = false := by rw [requested, putFld_flt, hcdr]; rfl
  have hfrm : (requested (bits v.toNat 5 4) s).frm = s.frm := putFld_frm ..
  simp only [modeRequest, hc, Bool.false_eq_true, if_false]
  rw [← requested, hcdr', h1, h2, h4, h5, hfrm]
  simp only [Bool.false_eq_true, if_false, decide_eq_true_eq]

/-- A request for the mode in force. -/
theorem modeRequest_same (hr : bits v.toNat 5 4 = curMode s) : modeRequest v.toNat s = (true, requestKept (bits v.toNat 5 4)
    { s.frm with reqDue := none, reqLate := none, reqHeld := none } false s) := by
  rw [modeRequest_taken hcdr h3 hrun, if_pos hr]
  rfl

/-- A request that comes in time for the next tick. -/
theorem modeRequest_early (hr : bits v.toNat 5 4 ≠ curMode s) (ht : now s + 5000 < tickAt s (fnum s + 1)) :
    modeRequest v.toNat s = (true, requestKept (bits v.toNat 5 4) { s.frm with reqDue := some (bits v.toNat 5 4) } true s) := by
  rw [modeRequest_taken hcdr h3 hrun, if_neg hr, if_pos ht]
  rfl

/-- A request that comes too late for the next tick. -/
theorem modeRequest_late (hr : bits v.toNat 5 4 ≠ curMode s) (ht : tickAt s (fnum s + 1) ≤ now s + 5000) :
    modeRequest v.toNat s = (true, requestKept (bits v.toNat 5 4) { s.frm with reqLate := some (bits v.toNat 5 4) } true s) := by
  rw [modeRequest_taken hcdr h3 hrun, if_neg hr, if_neg (by omega)]
  simp [refreshPend, requestKept]

end

theorem modeRequest_accepted {t : State} (hs : Runs s) (h : modeRequest v.toNat s = (true, t)) (ht : t.flt = s.flt) :
    exec (.modeRequest m v) s = accepted t :=
  stagedWrite_accepted hs (isCommand_regOffset isCommand_frmMode) (by rw [regWrite_frmMode, h]; rfl) ht

theorem requestKept_flt (r : Nat) (x : FrmState) (b : Bool) (s : State) : (requestKept r x b s).flt = s.flt := by
  rw [requestKept, putFlag_flt, requested, putFld_flt]

/-! The clear of FRM's counters (R84). -/

theorem frmCleared_counters {u : State} (h : ∀ o, regNat u o = (if o = Reg.FRM_SLACKMIN then some 0xFFFFF
      else if o ∈ (List.range 48).map taskStat then some (fld s o 7 0)
      else zeros ((List.range 32).map Reg.FRM_TASKMAX) o).getD (regNat s o)) :
    regNat u Reg.FRM_SLACKMIN = 0xFFFFF ∧ ∀ t, (t < 32 → regNat u (Reg.FRM_TASKMAX t) = 0) ∧
      (t < 48 → fld u (taskStat t) 31 8 = 0 ∧ fld u (taskStat t) 7 0 = fld s (taskStat t) 7 0) := by
  have hmax : ∀ t, t < 32 → Reg.FRM_TASKMAX t ≠ Reg.FRM_SLACKMIN ∧ Reg.FRM_TASKMAX t ∉ (List.range 48).map taskStat := by decide
  have hstat : ∀ t, t < 48 → taskStat t ≠ Reg.FRM_SLACKMIN := by decide
  refine ⟨h Reg.FRM_SLACKMIN, fun t => ⟨fun ht => ?_, fun ht => ?_⟩⟩
  · have hmem : Reg.FRM_TASKMAX t ∈ (List.range 32).map Reg.FRM_TASKMAX := List.mem_map.mpr ⟨t, by simpa, rfl⟩
    rw [h, if_neg (hmax t ht).1, if_neg (hmax t ht).2, zeros, if_pos hmem]
    rfl
  · have hreg := h (taskStat t)
    rw [if_neg (hstat t ht), if_pos (List.mem_map.mpr ⟨t, by simpa, rfl⟩), Option.getD_some] at hreg
    have hlt : fld s (taskStat t) 7 0 < 2 ^ 8 := bits_lt _ 7 0
    constructor
    · rw [fld, ← regNat, hreg, bits, Nat.div_eq_of_lt hlt]
      rfl
    · rw [fld, ← regNat, hreg, bits]
      omega

end

/-- Settles O31: FRM's answer to a request by `modeRequest_refused`, `modeRequest_same`, `modeRequest_early` and `modeRequest_late`, and
the clear of its counters by `frmCtrclr_cleared`. -/
theorem modeRequests : Obligations.ModeRequests := by
  unfold Obligations.ModeRequests
  intro s m v hs hcdr r kept
  refine ⟨fun h => ?_, fun h3 hrun => ⟨fun hr => ?_, fun hr ht => ?_, fun hr ht => ?_⟩, clearsBy_frm.off hs, fun hv => ?_⟩
  · exact stagedWrite_refused hs (isCommand_regOffset isCommand_frmMode) (by rw [regWrite_frmMode, modeRequest_refused h]; rfl)
  · exact modeRequest_accepted hs (modeRequest_same hcdr h3 hrun hr) (requestKept_flt ..)
  · exact modeRequest_accepted hs (modeRequest_early hcdr h3 hrun hr ht) (requestKept_flt ..)
  · exact modeRequest_accepted hs (modeRequest_late hcdr h3 hrun hr ht) (requestKept_flt ..)
  · obtain ⟨u, hu, -, -, hregs⟩ := frmCtrclr_cleared (m := m) hs hv
    exact ⟨u, hu, frmCleared_counters hregs⟩

end Sys2Proof.Machine
end

section
/-! SUPPORT. Writes of one bit point: in an instance's buffer and in the byte of memory that holds it. -/

namespace Sys2Proof.Machine

/-! One bit of a number and of a byte. -/

theorem testBit_withBits (v i j : Nat) (b : Bool) : (withBits v i i (b2n b)).testBit j = if j = i then b else v.testBit j := by
  have one : ∀ u k : Nat, bits u k k = (u.testBit k).toNat := fun u k => by rw [Nat.toNat_testBit, bits, Nat.sub_self, zero_add, pow_one]
  have inj : ∀ x y : Bool, x.toNat = y.toNat → x = y := by decide
  apply inj
  rw [← one]
  split
  · rename_i h
    subst h
    rw [bits_withBits_same]
    cases b <;> simp [b2n]
  · rename_i h
    rw [← one]
    rcases Nat.lt_or_gt_of_ne h with h | h
    · exact bits_withBits_below _ _ _ _ _ _ h (Nat.le_refl _)
    · exact bits_withBits_above _ _ _ _ _ _ h (Nat.le_refl _)

/-- A byte with one bit replaced, as a write of a bit point stores it. -/
def bitByte (x : Byte) (i : Nat) (b : Bool) : Byte := BitVec.ofNat 8 (withBits x.toNat i i (b2n b))

theorem getLsbD_bitByte (x : Byte) (i j : Nat) (b : Bool) (h : j < 8) :
    (bitByte x i b).getLsbD j = if j = i then b else x.getLsbD j := by
  rw [bitByte, BitVec.getLsbD_ofNat, testBit_withBits]
  simp [h, BitVec.getLsbD]

/-! The buffer of an instance. -/

theorem alGet_bufPut (q : List (Nat × Word)) (k k' : Nat) (v : Word) :
    alGet (bufPut q k v) k' = if k' = k then some v else alGet q k' := by
  unfold bufPut
  split
  · rename_i h
    have hf : (fun p : Nat × Word => decide (p.1 = k')) ∘ (fun p => if p.1 = k then (k, v) else p) = fun p => decide (p.1 = k') := by
      funext p
      simp only [Function.comp_apply]
      split
      · rename_i hp; rw [hp]
      · rfl
    rw [alGet, List.find?_map, hf, alGet]
    cases hq : q.find? fun p => p.1 = k' with
    | none =>
      have hne : k' ≠ k := by
        rintro rfl
        obtain ⟨p, hp, hk⟩ := List.any_eq_true.mp h
        exact absurd hk (List.find?_eq_none.mp hq p hp)
      rw [if_neg hne]
      rfl
    | some p =>
      have hp : p.1 = k' := by simpa using List.find?_some hq
      simp only [Option.map_some, hp]
      split <;> rfl
  · rename_i h
    rw [alGet, List.find?_append, alGet]
    split
    · rename_i hk
      subst hk
      have hq : q.find? (fun p => p.1 = k') = none := List.find?_eq_none.mpr fun p hp hk' => h (List.any_eq_true.mpr ⟨p, hp, hk'⟩)
      simp [hq]
    · rename_i hk
      have hne : decide (k = k') = false := decide_eq_false (Ne.symm hk)
      simp [hne]

theorem alPut_alPut {α : Type} (l : List (Nat × α)) (k : Nat) (v w : α) : alPut (alPut l k v) k w = alPut l k w := by
  simp [alPut, alDel, List.filter_filter]

/-! The accesses. -/

variable {s : State} {t : Nat} {i : Inst}

theorem formBit_key (write : Bool) (f : PF) (c : Ctx) (g : Nat → Act) (hm : f.mod.toNat ≤ 1) (hp : pointP f 1 c < 2 ^ 18)
    (hc : f.cls = 1 ∨ f.cls = 2) : formBit write f c g = g (pkey f.cls.toNat (pointP f 1 c)) := by
  have ok : modOk false f = true := by
    have : f.mod = 0 ∨ f.mod = 1 := by bv_omega
    rcases this with h | h <;> simp [modOk, h]
  have hb : isBitCls f.cls.toNat = true := by rcases hc with h | h <;> rw [h] <;> rfl
  have hw : f.cls.toNat ≠ 0 ∧ f.cls.toNat ≠ 4 := by rcases hc with h | h <;> rw [h] <;> decide
  rw [formBit, ok, pointKey_p _ _ _ _ _ _ hb (by omega) (fun _ => hw)]
  rfl

/-- An instruction that writes a bit of QX leaves it in the instance's buffer. -/
theorem perform_buffers (h : Executes s t i) (a : Env → Ctx → Act) (c : Ctx) (k : Nat) (b : Bool) (hk : pcls k = 1)
    (ha : a (envOf s i) i.ctx = writeBit k b (fin1 c)) :
    ∃ u q, perform a s = .next u ∧ Beside (stepped s t { i with qw := q } (advance 1 c)) u ∧ SameMemory s u ∧
      ∀ k', alGet q k' = if k' = k then some (if b then 1 else 0) else alGet i.qw k' := by
  let v : Word := BitVec.ofNat 32 (b2n b)
  let j : Inst := { i with qw := bufPut i.qw k v }
  let s' : State := specHit k false (noteCheck true (putInst t j s))
  have hs : pointStore t k v s = (true, s') := by
    simp [pointStore, pointWrite, hk, clsQX, h.act_running, s', j]
  have hr : runAct t (a (envOf s i) i.ctx) s = (.done (advance 1 c), s') := by
    rw [ha, writeBit, runAct, hs]
    rfl
  have hj : getInst s' t = some j := alGet_alPut_same ..
  refine ⟨stepped s' t j (advance 1 c), bufPut i.qw k v, ?_, ⟨?_, rfl, rfl, rfl, rfl, fun _ _ => rfl⟩, fun _ => rfl, fun k' => ?_⟩
  · refine perform_ends h a _ s' hr h.leads h.runs.2 (fun hi => othersReady_updInst t _ s' ?_) j hj
    have := othersReady_updInst t (fun _ => j) s (h.order hi)
    rw [updInst, h.act_running] at this
    exact this
  · simp only [stepped, putInst, s', j, specHit, onSegs, noteCheck, if_true, alPut_alPut]
  · rw [alGet_bufPut]
    cases b <;> rfl

/-- What a write of a bit of MX stores. -/
theorem runAct_writeBit_mx (n : Nat) (b : Bool) (r : Act) (hn : n < 2 ^ 18) (hs : Storable s (pointAddr (pkey 2 n))) :
    runAct t (writeBit (pkey 2 n) b r) s =
      runAct t r (memStoreAt .m0 (pointAddr (pkey 2 n)) [bitByte (memByte s (pointAddr (pkey 2 n))) (n % 8) b] [pkey 2 n] s).2 := by
  have hv : (BitVec.ofNat 32 (b2n b)).toNat = b2n b := by cases b <;> rfl
  have hb : pointBytes s (pkey 2 n) (BitVec.ofNat 32 (b2n b)) =
      (pointAddr (pkey 2 n), [bitByte (memByte s (pointAddr (pkey 2 n))) (n % 8) b]) := by
    rw [pointBytes, pcls_pkey 2 n hn, pidx_pkey 2 n hn, hv]
    rfl
  have hok := (memStoreAt_plain s _ [bitByte (memByte s (pointAddr (pkey 2 n))) (n % 8) b] [pkey 2 n] hs).1
  have hw : pointStore t (pkey 2 n) (BitVec.ofNat 32 (b2n b)) s =
      memStoreAt .m0 (pointAddr (pkey 2 n)) [bitByte (memByte s (pointAddr (pkey 2 n))) (n % 8) b] [pkey 2 n] s := by
    simp only [pointStore, pointWrite, pcls_pkey 2 n hn, hb]
    rfl
  rw [writeBit, runAct, hw]
  split
  · rename_i h; rw [h]
  · rename_i h; rw [h] at hok; cases hok

/-- What a read of a bit of MX sees. -/
theorem runAct_readBit_mx (n : Nat) (f : Bool → Act) (hi : getInst s t = some i) (hn : n < 2 ^ 18)
    (hg : eccAt s (pointAddr (pkey 2 n)) = .good) :
    runAct t (readBit (pkey 2 n) f) s = runAct t (f ((memByte s (pointAddr (pkey 2 n))).getLsbD (n % 8))) s := by
  have hj : inJournal (pointAddr (pkey 2 n)) = false := by
    rw [pointAddr_mx n hn]
    have : ¬ (0x4_0020_0000 + n / 8 < journalBase + 0x100_0000) := by rw [journalBase]; omega
    simp [inJournal, this]
  have hm : (memNat s (pointAddr (pkey 2 n)) 1).testBit (n % 8) = (memByte s (pointAddr (pkey 2 n))).getLsbD (n % 8) := rfl
  have hr : pointRead t (pkey 2 n) s =
      (some (BitVec.ofNat 32 (bits (memNat s (pointAddr (pkey 2 n)) 1) (n % 8) (n % 8))), s) := by
    simp only [pointRead, hi, pcls_pkey 2 n hn, pidx_pkey 2 n hn, memLoad, hg, seenNat, hj]
    rfl
  have hb : (BitVec.ofNat 32 (bits (memNat s (pointAddr (pkey 2 n)) 1) (n % 8) (n % 8))).getLsbD 0 =
      (memByte s (pointAddr (pkey 2 n))).getLsbD (n % 8) := by
    rw [← hm, bits, Nat.sub_self, zero_add, pow_one, ← Nat.toNat_testBit]
    cases (memNat s (pointAddr (pkey 2 n)) 1).testBit (n % 8) <;> rfl
  rw [readBit, runAct, hr]
  simp only [hb]

/-- An instruction whose only write is one bit of MX stores the byte that holds it. -/
theorem perform_stores (h : Executes s t i) (a : Env → Ctx → Act) (c : Ctx) (n : Nat) (b : Bool) (hn : n < 2 ^ 18)
    (hs : Storable s (pointAddr (pkey 2 n)))
    (ha : runAct t (a (envOf s i) i.ctx) s = runAct t (writeBit (pkey 2 n) b (fin1 c)) s) :
    ∃ u, perform a s = .next u ∧
      Wrote s u t i (advance 1 c) (pointAddr (pkey 2 n)) [bitByte (memByte s (pointAddr (pkey 2 n))) (n % 8) b] := by
  obtain ⟨-, hb, hm⟩ := memStoreAt_plain s _ [bitByte (memByte s (pointAddr (pkey 2 n))) (n % 8) b] [pkey 2 n] hs
  exact perform_wrote h a _ _ _ _ (by rw [ha, runAct_writeBit_mx n b _ hn hs]; rfl) hb hm

end Sys2Proof.Machine
end

section
/-! MAIN. O13: writes of a bit point, and edges. -/

namespace Sys2Proof.Machine

variable {s : State} {t : Nat} {i : Inst} {f : PF}

/-- The four instructions that write a bit come to one write of it. -/
theorem bitWrite_act (b : Bool) (g : PF → Instr) (hm : f.mod.toNat ≤ 1) (hp : pointP f 1 i.ctx < 2 ^ 18) (hc : f.cls = 1 ∨ f.cls = 2)
    (hg : g = .st ∧ b = i.ctx.la ∨ g = .stn ∧ b = !i.ctx.la ∨ g = .setI ∧ b = true ∧ i.ctx.la = true ∨
      g = .rst ∧ b = false ∧ i.ctx.la = true) :
    ∃ a : Env → Ctx → Act, exec (g f) s = perform a s ∧
      a (envOf s i) i.ctx = writeBit (pkey f.cls.toNat (pointP f 1 i.ctx)) b (fin1 i.ctx) := by
  rcases hg with ⟨rfl, rfl⟩ | ⟨rfl, rfl⟩ | ⟨rfl, rfl, hla⟩ | ⟨rfl, rfl, hla⟩
  · exact ⟨actSt f, rfl, formBit_key _ _ _ _ hm hp hc⟩
  · exact ⟨actStn f, rfl, formBit_key _ _ _ _ hm hp hc⟩
  · exact ⟨actSetI f, rfl, by rw [actSetI, formBit_key _ _ _ _ hm hp hc, if_pos hla]⟩
  · exact ⟨actRst f, rfl, by rw [actRst, formBit_key _ _ _ _ hm hp hc, if_pos hla]⟩

/-- An edge instruction takes the memory bit's old value and leaves LA there. -/
theorem edge_stores (h : Executes s t i) (rising : Bool) (hm : f.mod.toNat ≤ 1) (hp : pointP f 1 i.ctx < 2 ^ 18) (hc : f.cls = 2)
    (hs : Storable s (pointAddr (pkey 2 (pointP f 1 i.ctx)))) :
    let c := i.ctx
    let n := pointP f 1 c
    let a := pointAddr (pkey 2 n)
    let p := (memByte s a).getLsbD (n % 8)
    ∃ u, perform (fun _ => edgeAct rising f) s = .next u ∧
      Wrote s u t i (advance 1 { c with la := if rising then c.la && !p else !c.la && p }) a
        [bitByte (memByte s a) (n % 8) c.la] := by
  refine perform_stores h _ { i.ctx with la := _ } _ i.ctx.la hp hs ?_
  rw [edgeAct, formBit_key _ _ _ _ hm hp (.inr hc), hc]
  exact runAct_readBit_mx _ _ h.act_running hp hs.good

/-- Settles O13: the four writes are one write of a bit, an edge reads the bit first, and with LA = 0 SET and RST make no access. -/
theorem bitWrites : Obligations.BitWrites := by
  unfold Obligations.BitWrites
  refine ⟨fun s t i f b g h hm hp hg => ⟨fun hc => ?_, fun hc hs => ?_⟩, fun s t i f h hm hp hc hla => ⟨?_, ?_⟩,
    fun s t i f h hm hp hc hs => ?_⟩
  · obtain ⟨a, he, ha⟩ := bitWrite_act (s := s) b g hm hp (.inl hc) hg
    rw [he]
    exact perform_buffers h a _ _ b (by rw [hc]; exact pcls_pkey _ _ hp) ha
  · obtain ⟨a, he, ha⟩ := bitWrite_act (s := s) b g hm hp (.inr hc) hg
    rw [hc] at ha hs ⊢
    obtain ⟨u, hu, hw⟩ := perform_stores h a i.ctx _ b hp hs (by rw [ha]; rfl)
    exact ⟨u, _, by rw [he, hu], hw, fun j hj => getLsbD_bitByte _ _ _ _ hj⟩
  · exact perform_done h _ _ (by rw [actSetI, formBit_key _ _ _ _ hm hp hc, hla]; rfl)
  · exact perform_done h _ _ (by rw [actRst, formBit_key _ _ _ _ hm hp hc, hla]; rfl)
  · obtain ⟨u, hu, hwu⟩ := edge_stores h true hm hp hc hs
    obtain ⟨w, hw, hww⟩ := edge_stores h false hm hp hc hs
    exact ⟨u, w, _, hu, hwu, hw, hww, fun j hj => getLsbD_bitByte _ _ _ _ hj⟩

end Sys2Proof.Machine
end

section
/-! SUPPORT. Repetition: what each round keeps, and what one round gives and the others keep. -/

namespace Sys2Proof.Machine

theorem forAll_induct {α : Type} {p : State → Prop} {f : State → α → State} {l : List α} {s : State} (hs : p s)
    (h : ∀ u, ∀ x ∈ l, p u → p (f u x)) : p (forAll l f s) := by
  unfold forAll
  induction l generalizing s with
  | nil => exact hs
  | cons x r ih =>
    exact ih (h s x (List.mem_cons_self ..) hs) fun u y hy => h u y (List.mem_cons_of_mem _ hy)

/-- What the round of a member gives and the others keep. -/
theorem forAll_reaches {α : Type} {p q : State → Prop} {f : State → α → State} {l : List α} {s : State} {x : α} (hx : x ∈ l) (hs : p s)
    (h : ∀ u, ∀ y ∈ l, p u → p (f u y)) (hq : ∀ u, p u → q (f u x)) (hk : ∀ u, ∀ y ∈ l, p u → q u → q (f u y)) :
    q (forAll l f s) := by
  obtain ⟨l₁, l₂, rfl⟩ := List.append_of_mem hx
  have h1 : p (forAll l₁ f s) := forAll_induct hs fun u y hy => h u y (by simp [hy])
  have h2 : p (f (forAll l₁ f s) x) ∧ q (f (forAll l₁ f s) x) := ⟨h _ x hx h1, hq _ h1⟩
  have h3 : p (forAll l₂ f (f (forAll l₁ f s) x)) ∧ q (forAll l₂ f (f (forAll l₁ f s) x)) :=
    forAll_induct (p := fun u => p u ∧ q u) h2 fun u y hy hu => ⟨h u y (by simp [hy]) hu.1, hk u y (by simp [hy]) hu.1 hu.2⟩
  have e : forAll (l₁ ++ x :: l₂) f s = forAll l₂ f (f (forAll l₁ f s) x) := by simp [forAll]
  rw [e]
  exact h3.2

theorem forAll_same {α : Type} {f : State → α → State} {l : List α} {s : State} (h : ∀ x ∈ l, f s x = s) : forAll l f s = s :=
  forAll_induct (p := fun u => u = s) rfl fun u x hx hu => by rw [hu, h x hx]

end Sys2Proof.Machine
end

section
/-! SUPPORT. Triggers of event tasks: none before the first tick, and in HOLD only the pending flags, their counters and the latches
(R62, R73). -/

namespace Sys2Proof.Machine

/-- `t` is `s` but for triggers that wait: flags more, the counters of those that merged, and the latches of a CDR. -/
structure Rung (s t : State) : Prop where
  frm : { t.frm with pend := s.frm.pend, latch := s.frm.latch } = s.frm
  rest : { t with frm := s.frm, regs := s.regs } = s
  pend : ∀ k ∈ s.frm.pend, k ∈ t.frm.pend
  regs : ∀ o, (∀ e < 16, o ≠ Reg.FRM_EVTSTAT e) → getReg t o = getReg s o

theorem rung_refl (s : State) : Rung s s := ⟨rfl, rfl, fun _ h => h, fun _ _ => rfl⟩

theorem rung_trans {s t u : State} (h : Rung s t) (k : Rung t u) : Rung s u where
  frm := by rw [← h.frm, ← k.frm]
  rest := by rw [← h.rest, ← k.rest]
  pend x hx := k.pend x (h.pend x hx)
  regs o ho := (k.regs o ho).trans (h.regs o ho)

section
variable {s t : State} (h : Rung s t)
include h

theorem Rung.leaf_eq : t.leaf = s.leaf := (congrArg State.leaf h.rest :)
theorem Rung.flt_eq : t.flt = s.flt := (congrArg State.flt h.rest :)
theorem Rung.ticking_eq : t.frm.ticking = s.frm.ticking := (congrArg FrmState.ticking h.frm :)
theorem Rung.mode_eq : curMode t = curMode s := fld_congr (h.regs _ (by decide)) _ _
theorem Rung.hasp_eq : haspState t = haspState s := fld_congr (h.regs _ (by decide)) _ _

theorem Rung.src_eq (e hi lo : Nat) : fld t (Reg.FRM_EVTSRC e) hi lo = fld s (Reg.FRM_EVTSRC e) hi lo :=
  fld_congr (h.regs _ fun k _ => by simp only [Reg.FRM_EVTSRC, Reg.FRM_EVTSTAT]; omega) _ _

theorem Rung.taskEn_eq {e : Nat} (he : e < 16) : taskEn t (32 + e) = taskEn s (32 + e) := by
  have : ∀ e < 16, ∀ k < 16, taskCfg (32 + e) ≠ Reg.FRM_EVTSTAT k := by decide
  exact flag_congr (h.regs _ (this e he)) _

end

theorem latchTrigger_rung (t : Nat) (s : State) : Rung s (latchTrigger t s) := ⟨rfl, rfl, fun _ h => h, fun _ _ => rfl⟩

theorem setPend_rung {e : Nat} (he : e < 16) (s : State) : Rung s (setPend (32 + e) s) ∧ 32 + e ∈ (setPend (32 + e) s).frm.pend := by
  unfold setPend
  split
  · rename_i h
    refine ⟨⟨rfl, rfl, fun _ hk => hk, fun o ho => getReg_putFld_ne _ _ _ _ ?_⟩, by simpa [bumpMerged, bumpBy] using h⟩
    rw [Nat.add_sub_cancel_left]
    exact ho e he
  · exact ⟨⟨rfl, rfl, fun _ hk => List.mem_cons_of_mem _ hk, fun _ _ => rfl⟩, List.mem_cons_self ..⟩

/-- A trigger that a module outside the pair takes in HOLD. -/
theorem triggerTask_hold {e at' : Nat} {s : State} (he : e < 16) (hh : haspState s = 0) (hm : curMode s = modeHold) :
    Rung s (triggerTask (32 + e) at' s) ∧
      (s.frm.ticking = true → s.leaf.actHalt = false → taskEn s (32 + e) = true → 32 + e ∈ (triggerTask (32 + e) at' s).frm.pend) := by
  obtain ⟨hr, hp⟩ := setPend_rung he (latchTrigger (32 + e) s)
  have hmode : curMode (latchTrigger (32 + e) s) = modeHold := hm
  have hhasp : haspState (latchTrigger (32 + e) s) = 0 := hh
  have hstop : modeHold ≠ modeStop := by decide
  have hsend : (if 0 = 2 then sendRec "TRIGGER" (latchTrigger (32 + e) s) else latchTrigger (32 + e) s) = latchTrigger (32 + e) s := rfl
  have ht : triggerTask (32 + e) at' s = if !taskEn s (32 + e) || !s.frm.ticking then s
      else if s.leaf.actHalt then latchTrigger (32 + e) s else setPend (32 + e) (latchTrigger (32 + e) s) := by
    simp only [triggerTask, takeTrigger, hm, hhasp, hsend, hmode, if_neg hstop, if_true]
    rfl
  rw [ht]
  refine ⟨?_, fun h1 h2 h3 => by simpa [h1, h2, h3] using hp⟩
  split
  · exact rung_refl s
  · split
    · exact latchTrigger_rung _ s
    · exact rung_trans (latchTrigger_rung _ s) hr

theorem triggerWhere_unticked (p : Nat → Nat → Bool) (at' : Nat) {s : State} (h : s.frm.ticking = false) : triggerWhere p at' s = s := by
  unfold triggerWhere
  split
  · rfl
  · exact forAll_same fun e _ => by simp [triggerTask, h]

theorem triggerWhere_forAll (p : Nat → Nat → Bool) (at' : Nat) {s : State} (hh : haspState s = 0) : triggerWhere p at' s = forAll ((List.range 16).filter fun e =>
    p (fld s (Reg.FRM_EVTSRC e) 15 12) (fld s (Reg.FRM_EVTSRC e) 11 0)) (fun s e => triggerTask (32 + e) at' s) s := by
  rw [triggerWhere, hh]
  rfl

section
variable {p : Nat → Nat → Bool} {at' : Nat} {s : State} (hh : haspState s = 0) (hm : curMode s = modeHold)
include hh hm

theorem triggerWhere_hold : Rung s (triggerWhere p at' s) := by
  rw [triggerWhere_forAll _ _ hh]
  refine forAll_induct (rung_refl s) fun u e he hu => rung_trans hu (triggerTask_hold ?_ (hu.hasp_eq.trans hh) (hu.mode_eq.trans hm)).1
  exact List.mem_range.mp (List.mem_filter.mp he).1

theorem triggerWhere_pends {e : Nat} (he : e < 16) (ht : s.frm.ticking = true) (ha : s.leaf.actHalt = false)
    (hen : taskEn s (32 + e) = true) (hp : p (fld s (Reg.FRM_EVTSRC e) 15 12) (fld s (Reg.FRM_EVTSRC e) 11 0) = true) :
    32 + e ∈ (triggerWhere p at' s).frm.pend := by
  have step : ∀ (u : State) (k : Nat), k ∈ (List.range 16).filter (fun e => p (fld s (Reg.FRM_EVTSRC e) 15 12) (fld s (Reg.FRM_EVTSRC e) 11 0)) →
      Rung s u → Rung u (triggerTask (32 + k) at' u) := fun u k hk hu =>
    (triggerTask_hold (List.mem_range.mp (List.mem_filter.mp hk).1) (hu.hasp_eq.trans hh) (hu.mode_eq.trans hm)).1
  rw [triggerWhere_forAll _ _ hh]
  refine forAll_reaches (p := Rung s) (q := fun u => 32 + e ∈ u.frm.pend) (List.mem_filter.mpr ⟨List.mem_range.mpr he, hp⟩) (rung_refl s)
    (fun u k hk hu => rung_trans hu (step u k hk hu)) (fun u hu => ?_) (fun u k hk hu hq => (step u k hk hu).pend _ hq)
  exact (triggerTask_hold he (hu.hasp_eq.trans hh) (hu.mode_eq.trans hm)).2 (hu.ticking_eq.trans ht) (by rw [hu.leaf_eq, ha])
    ((hu.taskEn_eq he).trans hen)

end

end Sys2Proof.Machine
end

section
/-! The host port: doorbells, signals, window B and the link (R62, R439, R441 to R443). -/

namespace Sys2Proof.Machine

section
variable {s : State} {m : Master} {v : Word}

/-! Doorbells. -/

theorem isCommand_hostDoorbell : isCommand Reg.HOST_DOORBELL = true := by decide +kernel

theorem regWrite_hostDoorbell (m : Master) (v : Word) (s : State) : regWrite m Reg.HOST_DOORBELL v s = (.ok, ringBells v.toNat s) :=
  regWrite_command isCommand_hostDoorbell (txnBarred_outside (.inr (by decide))) rfl

theorem doorbell_accepted (hs : Runs s) (hf : (ringBells v.toNat s).flt = s.flt) : exec (.doorbell m v) s = accepted (ringBells v.toNat s) :=
  stagedWrite_accepted hs (isCommand_regOffset isCommand_hostDoorbell) (regWrite_hostDoorbell m v s) hf

theorem ringBells_unticked (v : Nat) (h : s.frm.ticking = false) : ringBells v s = s :=
  forAll_same fun _ _ => triggerWhere_unticked _ _ h

theorem ringBells_hold (v : Nat) (hh : haspState s = 0) (hm : curMode s = modeHold) : Rung s (ringBells v s) :=
  forAll_induct (rung_refl s) fun _ _ _ hu => rung_trans hu (triggerWhere_hold (hu.hasp_eq.trans hh) (hu.mode_eq.trans hm))

theorem ringBells_pends {v e k : Nat} (hh : haspState s = 0) (hm : curMode s = modeHold) (he : e < 16)
    (hk : k < 16)     (ht : s.frm.ticking = true) (ha : s.leaf.actHalt = false) (hen : taskEn s (32 + e) = true)
    (hkind : fld s (Reg.FRM_EVTSRC e) 15 12 = 5) (hidx : fld s (Reg.FRM_EVTSRC e) 11 0 = k) (hv : v.testBit k = true) :
    32 + e ∈ (ringBells v s).frm.pend := by
  have step : ∀ (u : State) (j : Nat), Rung s u → Rung u (trigger 5 j (now u) u) := fun u j hu =>
    triggerWhere_hold (hu.hasp_eq.trans hh) (hu.mode_eq.trans hm)
  refine forAll_reaches (p := Rung s) (q := fun u => 32 + e ∈ u.frm.pend) (List.mem_filter.mpr ⟨List.mem_range.mpr hk, hv⟩) (rung_refl s)
    (fun u j _ hu => rung_trans hu (step u j hu)) (fun u hu => ?_) (fun u j _ hu hq => (step u j hu).pend _ hq)
  refine triggerWhere_pends (hu.hasp_eq.trans hh) (hu.mode_eq.trans hm) he (hu.ticking_eq.trans ht) (by rw [hu.leaf_eq, ha])
    ((hu.taskEn_eq he).trans hen) ?_
  rw [hu.src_eq, hu.src_eq, hkind, hidx]
  simp

/-! Signals. -/

theorem isCommand_hostSignal : isCommand Reg.HOST_SIGNAL = true := by decide +kernel

theorem regWrite_hostSignal (m : Master) (v : Word) (s : State) : regWrite m Reg.HOST_SIGNAL v s = (.ok, raiseSignals v.toNat s) :=
  regWrite_command isCommand_hostSignal (txnBarred_outside (.inr (by decide))) rfl

/-- A cause sets its bit of HOST.CAUSE_HI, and no other. -/
theorem flag_cause_high {j k : Nat} (hj : j < 16) (s : State) :
    flag (cause (40 + j) s) Reg.HOST_CAUSE_HI (8 + k) = (flag s Reg.HOST_CAUSE_HI (8 + k) || decide (k = j)) := by
  have h1 : ¬ 40 + j < 32 := by omega
  have h2 : (40 + j) % 32 = 8 + j := by omega
  have hset : flag (putFlag s Reg.HOST_CAUSE_HI (8 + j) true) Reg.HOST_CAUSE_HI (8 + k) =
      (flag s Reg.HOST_CAUSE_HI (8 + k) || decide (k = j)) := by
    by_cases hkj : k = j
    · rw [hkj, flag_putFlag_same _ _ _ _ (by omega)]
      simp
    · rw [flag_putFlag_other _ _ _ _ _ _ (by omega) (.inr (by omega))]
      simp [hkj]
  simp only [cause, if_neg h1, h2]
  split
  · rename_i hf
    by_cases hkj : k = j
    · rw [hkj, hf]; simp
    · simp [hkj]
  · split
    · exact hset
    · split
      · exact (flag_putFlag_other _ _ _ _ _ _ (by omega) (.inl (by decide))).trans hset
      · exact hset

theorem flag_raiseSignals {k : Nat} (hk : k < 16) (v : Nat) (s : State) :
    flag (raiseSignals v s) Reg.HOST_CAUSE_HI (8 + k) = (flag s Reg.HOST_CAUSE_HI (8 + k) || v.testBit k) := by
  have key : ∀ (l : List Nat) (s : State), (∀ j ∈ l, j < 16) →
      flag (forAll l (fun s k => cause (40 + k) s) s) Reg.HOST_CAUSE_HI (8 + k) = (flag s Reg.HOST_CAUSE_HI (8 + k) || decide (k ∈ l)) := by
    intro l
    induction l with
    | nil => intro s _; simp [forAll]
    | cons j r ih =>
      intro s hl
      have := ih (cause (40 + j) s) fun i hi => hl i (List.mem_cons_of_mem _ hi)
      rw [forAll] at this ⊢
      rw [List.foldl_cons, this, flag_cause_high (hl j (List.mem_cons_self ..))]
      by_cases hkj : k = j <;> simp [hkj]
  rw [raiseSignals, key _ _ fun j hj => List.mem_range.mp (List.mem_filter.mp hj).1]
  simp [hk]

theorem signal_accepted (hs : Runs s) : exec (.signal m v) s = accepted (raiseSignals v.toNat s) :=
  stagedWrite_accepted hs (isCommand_regOffset isCommand_hostSignal) (regWrite_hostSignal m v s) (forAll_keep (·.flt) _ _ _ fun s _ => cause_flt _ s)

/-! Window B. -/

theorem winbOk_lt {b : Nat} (h : winbOk b = true) : b < 2 ^ 64 := by
  simp only [winbOk, Bool.or_eq_true, Bool.and_eq_true, decide_eq_true_eq] at h
  simp only [pstBase, pnlBase, lmmBase] at h
  omega

theorem regRow_winbHi : (regRow? Reg.HOST_WINB_HI).any (fun x => x.1.rwt = 0 && x.1.rw ≠ 0) = true := by decide +kernel

theorem regWrite_winbHi {r : RegRow} {ix : List Nat} (hr : regRow? Reg.HOST_WINB_HI = some (r, ix)) :
    regWrite m Reg.HOST_WINB_HI v s = writeHigh m Reg.HOST_WINB_LO (v.toNat &&& r.rw) s := by
  have h := regRow_winbHi
  simp only [hr, Option.any_some, Bool.and_eq_true, decide_eq_true_eq] at h
  obtain ⟨ht, hw⟩ := h
  have hout : ¬ (Reg.HOST_WINB_HI < 0x20200) := by decide
  have hlow : rwPairLow Reg.HOST_WINB_HI = false := by decide
  have hhigh : (decide (4 ≤ Reg.HOST_WINB_HI) && rwPairLow (Reg.HOST_WINB_HI - 4)) = true := by decide
  simp only [regWrite, hr, ht, hw, hout, hlow, hhigh, ne_eq, not_true_eq_false, false_and, if_false, if_true, decide_false, Bool.and_false,
    Bool.false_and, Bool.false_eq_true]
  rfl

/-- The base that the write of HOST.WINB_HI gives, from the half that its master wrote before. -/
def winbBase (m : Master) (hi : Nat) (s : State) : Nat :=
  ((alGet s.low (masterKey m Reg.HOST_WINB_LO)).map (·.toNat)).getD (regNat s Reg.HOST_WINB_LO) + hi * 2 ^ 32

theorem writeHigh_winb (hi : Nat) (h : winbOk (winbBase m hi s) = true) : writeHigh m Reg.HOST_WINB_LO hi s =
    (.ok, putPair { s with low := alDel s.low (masterKey m Reg.HOST_WINB_LO) } Reg.HOST_WINB_LO (winbBase m hi s)) := by
  have h1 : Reg.HOST_WINB_LO ≠ Reg.EVR_CURSOR_LO := by decide
  have h2 : Reg.HOST_WINB_LO ≠ Reg.OLC_DBASE_LO := by decide
  have h3 : ¬ Reg.HOST_WINB_LO < 0x200500 := by decide
  simp only [winbBase] at h ⊢
  simp only [writeHigh, applyPair, if_neg h1, if_neg h2, h3, h, decide_true, decide_false, Bool.not_true, Bool.and_false,
    Bool.false_eq_true, if_false]

theorem winbTaken_pair {u : State} {b : Nat} (h : winbOk b = true) : pair (answered (putPair u Reg.HOST_WINB_LO b)) Reg.HOST_WINB_LO = b :=
  (pair_answered ..).trans ((pair_putPair ..).trans (Nat.mod_eq_of_lt (winbOk_lt h)))

theorem writeHigh_winb_refused (hi : Nat) (h : winbOk (winbBase m hi s) = false) :
    writeHigh m Reg.HOST_WINB_LO hi s = (.refused, s) := by
  have h1 : Reg.HOST_WINB_LO ≠ Reg.EVR_CURSOR_LO := by decide
  simp only [winbBase] at h
  simp only [writeHigh, if_neg h1, h, decide_true, Bool.not_false, Bool.and_true, if_true]

theorem regOffset_winbHi : regOffset Reg.HOST_WINB_HI = true := by decide +kernel

/-! The port's reset. -/

/-- The registers of the port that a reset clears. -/
def portRegs : List Nat := [Reg.HOST_STAT, Reg.HOST_CFG, Reg.HOST_WINB_LO, Reg.HOST_WINB_HI, Reg.HOST_PBA_LO, Reg.HOST_PBA_HI]

/-- The vector table. -/
def isMsix (o : Nat) : Bool := Reg.HOST_MSIX 0 ≤ o && o < Reg.HOST_MSIX 64

/-- The port's registers before the vector table takes its reset values. -/
def portCleared (s : State) : State := forAll portRegs (fun s o => putNat s o 0) s

theorem getReg_resetPort (s : State) (o : Nat) :
    getReg (resetPort s) o = if isMsix o then regReset o else getReg (portCleared s) o := by
  have h := smGet_filter regReset (fun o => !isMsix o) (portCleared s).regs o
  have e : getReg (resetPort s) o = smGet regReset ((portCleared s).regs.filter fun q => !isMsix q.1) o := rfl
  rw [e, h]
  cases isMsix o <;> rfl

theorem getReg_resetPort_cleared {o : Nat} (s : State) (h : o ∈ portRegs) : getReg (resetPort s) o = 0 := by
  have hout : ∀ o ∈ portRegs, isMsix o = false := by decide
  have hz := (zeroAll s id portRegs).val o
  rw [List.map_id, onRegs, if_pos h] at hz
  rw [getReg_resetPort, hout o h]
  exact BitVec.eq_of_toNat_eq hz

theorem flag_resetPort_masked {k : Nat} (hk : k < 64) (s : State) : flag (resetPort s) (Reg.HOST_MSIX k + 0xC) 0 = true := by
  have ht : ∀ k < 64, isMsix (Reg.HOST_MSIX k + 0xC) = true ∧ (regReset (Reg.HOST_MSIX k + 0xC)).getLsbD 0 = true := by decide +kernel
  rw [flag, getReg_resetPort, if_pos (ht k hk).1, (ht k hk).2]

end

/-- Settles O42: a doorbell in HOLD by `ringBells_pends`, signals by `flag_raiseSignals`, window B by `writeHigh_winb`, and the port's
registers by `getReg_resetPort`. -/
theorem hostPortCommands : Obligations.HostPortCommands := by
  unfold Obligations.HostPortCommands
  intro s m v hs
  refine ⟨fun e k hh ht ha hm he hk hen hkind hidx hv => ?_, fun ht => ?_, ?_, fun r ix hr => ⟨fun hb => ?_, fun hb => ?_⟩, fun x y => ?_,
    fun hf => ?_, fun hf => ?_, fun b => act_runs _ hs.1, ?_⟩
  · refine ends_accepted (doorbell_accepted hs (ringBells_hold _ hh hm).flt_eq) ⟨?_, rfl⟩
    exact ringBells_pends hh hm he hk ht ha hen hkind hidx hv
  · have hr := ringBells_unticked v.toNat ht
    rw [doorbell_accepted hs (by rw [hr]), hr]
  · exact ends_accepted (signal_accepted hs) ⟨rfl, fun k hk => flag_raiseSignals hk _ s⟩
  · refine ends_accepted (stagedWrite_accepted hs regOffset_winbHi ((regWrite_winbHi hr).trans (writeHigh_winb _ hb)) (putPair_flt ..))
      ⟨winbTaken_pair hb, answered_answer _, alGet_alDel_same ..⟩
  · exact stagedWrite_refused hs regOffset_winbHi ((regWrite_winbHi hr).trans (writeHigh_winb_refused _ hb))
  · exact act_quiet _ hs.1 hs.2
  · exact (act_runs _ hs.1).trans (by rw [hostLinkDown, if_pos hf]; rfl)
  · have hd : hostLinkDown s = s := by rw [hostLinkDown, hf]; rfl
    exact (act_quiet _ hs.1 (by rw [hd]; exact hs.2)).trans (by rw [hd])
  · have hz : ∀ o ∈ portRegs, getReg (resetPort s) o = 0 := fun o => getReg_resetPort_cleared s
    refine ⟨?_, ?_, ?_, ?_, fun k hk => flag_resetPort_masked hk s⟩
    · rw [regNat, hz _ (by decide)]; rfl
    · rw [regNat, hz _ (by decide)]; rfl
    · rw [pair, regNat, regNat, hz _ (by decide), hz _ (by decide)]; rfl
    · rw [pair, regNat, regNat, hz _ (by decide), hz _ (by decide)]; rfl

end Sys2Proof.Machine
end

section
/-! Debug: HALT, RESUME and STEP (R77, R446). -/

namespace Sys2Proof.Machine

section
variable {s t : State} {m : Master}

theorem leaf_answered (s : State) : (answered s).leaf = s.leaf := rfl

theorem flt_answered (s : State) : (answered s).flt = s.flt := rfl

/-! The write of DBG.CTL. -/

theorem isCommand_dbgCtl : isCommand Reg.DBG_CTL = true := by decide +kernel

/-- What DBG.CTL carries for a command: the key and the number. -/
def debugWord (op : Nat) : Word := BitVec.ofNat 32 (0x44470000 + op)

theorem regWrite_dbgCtl (m : Master) (v : Word) (s : State) : regWrite m Reg.DBG_CTL v s = respond (debugCommand v.toNat s) :=
  regWrite_command isCommand_dbgCtl (txnBarred_outside (.inr (by decide))) rfl

theorem debugOp_refused {op : Nat} (hs : Runs s) (hl : s.leaf.stepReq = false) (hc : debugCommand (debugWord op).toNat s = (false, s)) :
    act s (debugOp m op) = refused m 0x52FF s := by
  have hw : regWrite m Reg.DBG_CTL (debugWord op) s = (.refused, s) := by rw [regWrite_dbgCtl, hc]; rfl
  have hr : writeReg m Reg.DBG_CTL (debugWord op) s = { raiseBy m 0x52FF 0 s with answer := .error } :=
    writeReg_refused (isCommand_regOffset isCommand_dbgCtl) hw
  rw [act_runs _ hs.1, debugOp, ← debugWord, hr, serveStep_idle (by simpa using hl)]
  rfl

theorem debugOp_taken {op : Nat} (hs : Runs s) (hc : debugCommand (debugWord op).toNat s = (true, t)) :
    act s (debugOp m op) = .next (settleFaults (serveStep (answered t))) := by
  have hw : regWrite m Reg.DBG_CTL (debugWord op) s = (.ok, t) := by rw [regWrite_dbgCtl, hc]; rfl
  rw [act_runs _ hs.1, debugOp, ← debugWord, writeReg_ok (isCommand_regOffset isCommand_dbgCtl) hw]
  rfl

/-! What DBG makes of a command. -/

section
variable {op : Nat} (hop : op = 1 ∨ op = 2 ∨ op = 3)
include hop

theorem debugWord_fields : bits (debugWord op).toNat 1 0 = op ∧ bits (debugWord op).toNat 31 16 = 0x4447 := by
  rcases hop with rfl | rfl | rfl <;> decide

/-- A standby in step takes no debug command. -/
theorem debugCommand_standby (h : haspState s = 3 ∨ haspState s = 4) : debugCommand (debugWord op).toNat s = (false, s) := by
  obtain ⟨h1, h2⟩ := debugWord_fields hop
  have h0 : op ≠ 0 := by omega
  have hh : (decide (haspState s = 3) || decide (haspState s = 4)) = true := by simpa using h
  simp only [debugCommand, h1, h2, h0, hh, ne_eq, not_true_eq_false, if_false, if_true]

end

section
variable (h3 : haspState s ≠ 3) (h4 : haspState s ≠ 4)
include h3 h4

theorem debugCommand_halt : debugCommand (debugWord 1).toNat s = (true, debugHalt 1 0 s) := by
  obtain ⟨h1, h2⟩ := debugWord_fields (op := 1) (by omega)
  simp [debugCommand, h1, h2, h3, h4]

/-- The leaves go on with the mode that stood before the halt; the breakpoint at which they stand lets them pass. -/
def debugResumed (s : State) : State :=
  let r := (modeRequest (fld s Reg.DBG_STAT 5 4 * 2 ^ 4) s).2
  { r with leaf := { r.leaf with resuming := true, passBp := r.leaf.haltedInst } }

theorem debugCommand_resume : debugCommand (debugWord 2).toNat s = if s.leaf.dbgHalt then (true, debugResumed s) else (false, s) := by
  obtain ⟨h1, h2⟩ := debugWord_fields (op := 2) (by omega)
  simp [debugCommand, h1, h2, h3, h4, debugResumed]

theorem debugCommand_step : debugCommand (debugWord 3).toNat s = if curMode s ≠ modeHold || s.leaf.haltedInst.isNone then (false, s)
    else (true, { s with leaf := { s.leaf with stepReq := true } }) := by
  obtain ⟨h1, h2⟩ := debugWord_fields (op := 3) (by omega)
  simp [debugCommand, h1, h2, h3, h4]

end

/-! HALT. -/

/-- The ward moves no register of another unit when the leaves halt. -/
theorem getReg_wardRefresh {o : Nat} (h : o ∉ [Reg.WARD_STAT, Reg.WARD_PCNT, Reg.WARD_DONE]) (s : State) :
    getReg (wardRefresh s) o = getReg s o := by
  simp only [List.mem_cons, List.not_mem_nil, or_false, not_or] at h
  obtain ⟨h1, h2, h3⟩ := h
  have hstat (s : State) (hi lo x : Nat) : getReg (putFld s Reg.WARD_STAT hi lo x) o = getReg s o := getReg_putFld_ne s hi lo x h1
  have hward (s : State) (w : WardState) : getReg { s with ward := w } o = getReg s o := rfl
  have hperiod (s : State) : getReg (newPeriod true s) o = getReg s o := by
    simp only [newPeriod, putPos, hward, getReg_putFlag_ne _ _ _ h1, hstat, getReg_putNat_ne _ _ h2, getReg_putNat_ne _ _ h3]
  unfold wardRefresh
  extract_lets st
  split
  · split
    · exact (hstat ..).trans (hward ..)
    · rfl
  · split
    · split
      · exact hward ..
      · split
        · exact (hperiod _).trans ((hstat ..).trans (hstat ..))
        · exact (hstat ..).trans (hward ..)
    · rfl

/-- DBG.STAT as a halt by a command shows it. -/
def haltStat (s : State) : Nat :=
  let e := (if leavesRun s then s.frm.running else none).getD 0
  b2n (flag s Reg.DBG_STAT 16) * 2 ^ 16 + e % 32 * 2 ^ 11 + b2n (isEvent e) * 2 ^ 10 + 0 * 2 ^ 8 + curMode s * 2 ^ 4 + 1 * 2 + 1

theorem haltStat_fields (s : State) : haltStat s % 2 = 1 ∧ bits (haltStat s) 3 1 = 1 ∧ bits (haltStat s) 5 4 = curMode s ∧
    haltStat s < 2 ^ 32 := by
  have hb : ∀ b, b2n b < 2 := by decide
  have hm : curMode s < 2 ^ 2 := bits_lt _ 1 0
  have h1 := hb (flag s Reg.DBG_STAT 16)
  simp only [haltStat, bits]
  generalize (if leavesRun s = true then s.frm.running else none).getD 0 = e
  have h2 := hb (isEvent e)
  generalize b2n (isEvent e) = x at *
  generalize b2n (flag s Reg.DBG_STAT 16) = y at *
  omega

/-- DBG shows the halt, and the leaves stop. -/
def haltShown (s : State) : State := { putNat s Reg.DBG_STAT (haltStat s) with
  leaf := { s.leaf with dbgHalt := true, resuming := false, haltedInst := if leavesRun s then s.frm.running else none, stepReq := false } }

/-- The module as a halt by a command leaves it, before FRM takes the request. -/
def haltTaken (s : State) : State := wardRefresh (refreshHalted (haltShown s))

theorem haltTaken_keeps (s : State) : (haltTaken s).flt = s.flt ∧ (haltTaken s).leaf.dbgHalt = true ∧ (haltTaken s).leaf.stepReq = false ∧
    curMode (haltTaken s) = curMode s ∧ getReg (haltTaken s) Reg.DBG_STAT = BitVec.ofNat 32 (haltStat s) := by
  have hward : Apart (refreshHalted (haltShown s)) (haltTaken s) := wardRefresh_apart _
  have hleaf : (haltTaken s).leaf = (haltShown s).leaf := hward.leaf.trans (putFlag_leaf ..)
  have hreg {o : Nat} (ho : o ∉ [Reg.WARD_STAT, Reg.WARD_PCNT, Reg.WARD_DONE]) (hl : o ≠ Reg.LEAF_STAT) :
      getReg (haltTaken s) o = getReg (putNat s Reg.DBG_STAT (haltStat s)) o :=
    (getReg_wardRefresh ho _).trans (getReg_putFlag_ne _ _ _ hl)
  refine ⟨hward.flt.trans (putFlag_flt ..), by rw [hleaf, haltShown], by rw [hleaf, haltShown], fld_congr ?_ _ _, ?_⟩
  · exact (hreg (by decide) (by decide)).trans (getReg_putNat_ne s _ (by decide))
  · exact (hreg (by decide) (by decide)).trans (getReg_putNat_same ..)

theorem requestKept_leaf (r : Nat) (x : FrmState) (b : Bool) (s : State) : (requestKept r x b s).leaf = s.leaf := by
  rw [requestKept, putFlag_leaf, requested, putFld_leaf]

theorem requestKept_frm (r : Nat) (x : FrmState) (b : Bool) (s : State) : (requestKept r x b s).frm = x := by
  rw [requestKept, putFlag_frm]

theorem getReg_requestKept (r : Nat) (x : FrmState) (b : Bool) (s : State) {o : Nat} (h : o ≠ Reg.FRM_MODE) :
    getReg (requestKept r x b s) o = getReg s o := by
  have hfrm (t : State) : getReg { t with frm := x } o = getReg t o := rfl
  rw [requestKept, getReg_putFlag_ne _ _ _ h, hfrm, requested, getReg_putFld_ne _ _ _ _ h]

theorem debugHalt_again (h : s.leaf.dbgHalt = true) : debugHalt 1 0 s = s := by simp [debugHalt, h]

theorem debugHalt_requests (hd : s.leaf.dbgHalt = false) (hcdr : s.flt.cdr = none) (hm : curMode s ≠ modeHold) :
    ∃ x : FrmState, (x.reqDue = some modeHold ∨ x.reqLate = some modeHold) ∧
      debugHalt 1 0 s = cause 15 (raise 0x5202 0 (requestKept modeHold x true (haltTaken s))) := by
  obtain ⟨hflt, -, -, hmode, -⟩ := haltTaken_keeps s
  have h : debugHalt 1 0 s = cause 15 (raise 0x5202 0 (modeRequest (0x20 : Word).toNat (haltTaken s)).2) := by
    simp only [debugHalt, hd, haltTaken, haltShown, haltStat, refreshHalted, Bool.false_eq_true, if_false]
    rfl
  have hcdr' : (haltTaken s).flt.cdr = none := by rw [hflt, hcdr]
  have hreq : bits (0x20 : Word).toNat 5 4 = modeHold := by decide
  have hne : bits (0x20 : Word).toNat 5 4 ≠ curMode (haltTaken s) := by rw [hmode]; exact fun e => hm e.symm
  have hrun : bits (0x20 : Word).toNat 5 4 = modeRun → getReg (haltTaken s) Reg.FRM_TIMSTAT = 0 := fun e => absurd e (by decide)
  rcases Nat.lt_or_ge (now (haltTaken s) + 5000) (tickAt (haltTaken s) (fnum (haltTaken s) + 1)) with ht | ht
  · exact ⟨_, .inl rfl, by rw [h, modeRequest_early hcdr' (by decide) hrun hne ht, hreq]⟩
  · exact ⟨_, .inr rfl, by rw [h, modeRequest_late hcdr' (by decide) hrun hne ht, hreq]⟩

theorem haltNotice_noted (k : State) : Noted k (cause 15 (raise 0x5202 0 k)) :=
  noted_trans (noted_report _ _ _ k (by omega)) (noted_cause _ _)

/-- What the notice of a halt leaves once FLT has taken it. -/
theorem haltNotice_settled {k : State} (hs : Roomy s) (hk : k.flt = s.flt) :
    ∃ u, settleFaults (answered (cause 15 (raise 0x5202 0 k))) = u ∧ Queued 0x5202 0 u ∧ u.leaf = k.leaf ∧ u.frm = k.frm ∧
      u.answer = .done ∧ ∀ o, faultReg o = false → getReg u o = getReg k o := by
  have hflt : (answered (cause 15 (raise 0x5202 0 k))).flt = (report 0x5202 0 0xF s).flt := by
    refine (cause_flt 15 _).trans ?_
    rw [raise, report_low_flt (cls := 0) (h := by omega), report_low_flt (cls := 0) (h := by omega), hk]
  obtain ⟨hn, hq⟩ := settle_one hs hflt (by omega) (by omega) (by decide)
  have hr := haltNotice_noted k
  exact ⟨_, rfl, hq, hn.leaf_eq.trans hr.leaf_eq, hn.frm_eq.trans hr.frm_eq, hn.answer_eq.trans (answered_answer _),
    fun o ho => (hn.regs o ho).trans (hr.regs o ho)⟩

theorem debugHalt_ends (hs : Roomy s) (h3 : haspState s ≠ 3) (h4 : haspState s ≠ 4) (hd : s.leaf.dbgHalt = false)
    (hcdr : s.flt.cdr = none) (hm : curMode s ≠ modeHold) : Ends (exec (.dbgHalt m) s) fun u =>
      u.leaf.dbgHalt = true ∧ flag u Reg.DBG_STAT 0 = true ∧ fld u Reg.DBG_STAT 3 1 = 1 ∧ fld u Reg.DBG_STAT 5 4 = curMode s ∧
      (u.frm.reqDue = some modeHold ∨ u.frm.reqLate = some modeHold) ∧ Queued 0x5202 0 u ∧ u.answer = .done := by
  obtain ⟨x, hx, hh⟩ := debugHalt_requests hd hcdr hm
  obtain ⟨hflt, hdbg, hstep, -, hstat⟩ := haltTaken_keeps s
  generalize hk : requestKept modeHold x true (haltTaken s) = k at hh
  have hkl : k.leaf = (haltTaken s).leaf := hk ▸ requestKept_leaf ..
  have hkx : k.frm = x := hk ▸ requestKept_frm ..
  have hkr : getReg k Reg.DBG_STAT = BitVec.ofNat 32 (haltStat s) := hk ▸ (getReg_requestKept _ _ _ _ (by decide)).trans hstat
  obtain ⟨u, hu, hq, hul, huf, hua, hur⟩ := haltNotice_settled hs (k := k) (hk ▸ (requestKept_flt ..).trans hflt)
  have hreg : getReg u Reg.DBG_STAT = BitVec.ofNat 32 (haltStat s) := (hur _ (by decide)).trans hkr
  obtain ⟨f0, f1, f2, f3⟩ := haltStat_fields s
  have hnat : (BitVec.ofNat 32 (haltStat s)).toNat = haltStat s := by rw [BitVec.toNat_ofNat, Nat.mod_eq_of_lt f3]
  refine ⟨u, ?_, ?_, ?_, ?_, ?_, by rw [huf, hkx]; exact hx, hq, hua⟩
  · have hleaf : (answered (cause 15 (raise 0x5202 0 k))).leaf = k.leaf := (leaf_answered _).trans (haltNotice_noted k).leaf_eq
    have hidle : (answered (cause 15 (raise 0x5202 0 k))).leaf.stepReq = false := by rw [hleaf, hkl, hstep]
    have hact : act s (debugOp m 1) = .next u := by
      rw [debugOp_taken hs.1 (debugCommand_halt h3 h4), hh, serveStep_idle hidle, hu]
    exact hact
  · rw [hul, hkl, hdbg]
  · rw [flag_eq_fld, fld, hreg, hnat]
    simp [bits, f0]
  · rw [fld, hreg, hnat, f1]
  · rw [fld, hreg, hnat, f2]

theorem debugHalt_repeated (hs : Runs s) (hl : s.leaf.stepReq = false) (h3 : haspState s ≠ 3) (h4 : haspState s ≠ 4)
    (hd : s.leaf.dbgHalt = true) : act s (debugOp m 1) = accepted s := by
  rw [debugOp_taken hs (debugCommand_halt h3 h4), debugHalt_again hd, serveStep_idle (s := answered s) hl,
    settleFaults_none (answered s) hs.2]
  rfl

/-! RESUME. -/

/-- A mode request is FRM's own. -/
theorem modeRequest_keeps (v : Nat) (s : State) : (modeRequest v s).2.flt = s.flt ∧ (modeRequest v s).2.leaf = s.leaf := by
  have hpend (u : State) : (refreshPend u).flt = u.flt ∧ (refreshPend u).leaf = u.leaf := ⟨putFlag_flt .., putFlag_leaf ..⟩
  have hput (r : Nat) : (putFld s Reg.FRM_MODE 5 4 r).flt = s.flt ∧ (putFld s Reg.FRM_MODE 5 4 r).leaf = s.leaf :=
    ⟨putFld_flt .., putFld_leaf ..⟩
  unfold modeRequest
  extract_lets r t early f
  obtain ⟨h1, h2⟩ : t.flt = s.flt ∧ t.leaf = s.leaf := hput r
  clear_value t
  split
  · exact ⟨rfl, rfl⟩
  · split
    · exact ⟨(hpend _).1.trans h1, (hpend _).2.trans h2⟩
    · split
      · exact ⟨(hpend _).1.trans h1, (hpend _).2.trans h2⟩
      · exact ⟨(hpend _).1.trans h1, (hpend _).2.trans h2⟩

theorem debugResumed_keeps (s : State) : (debugResumed s).flt = s.flt ∧
    (debugResumed s).leaf = { s.leaf with resuming := true, passBp := s.leaf.haltedInst } := by
  obtain ⟨hflt, hleaf⟩ := modeRequest_keeps (fld s Reg.DBG_STAT 5 4 * 2 ^ 4) s
  have h (r : State) (h1 : r.flt = s.flt) (h2 : r.leaf = s.leaf) :
      ({ r with leaf := { r.leaf with resuming := true, passBp := r.leaf.haltedInst } } : State).flt = s.flt ∧
      ({ r with leaf := { r.leaf with resuming := true, passBp := r.leaf.haltedInst } } : State).leaf =
        { s.leaf with resuming := true, passBp := s.leaf.haltedInst } := ⟨h1, by rw [h2]⟩
  exact h _ hflt hleaf

theorem debugResume_ends (hs : Runs s) (hl : s.leaf.stepReq = false) (h3 : haspState s ≠ 3) (h4 : haspState s ≠ 4)
    (hd : s.leaf.dbgHalt = true) : Ends (act s (debugOp m 2)) fun u =>
      u.leaf.resuming = true ∧ u.answer = .done ∧ u.leaf.passBp = s.leaf.haltedInst := by
  obtain ⟨hflt, hleaf⟩ := debugResumed_keeps s
  have hc : debugCommand (debugWord 2).toNat s = (true, debugResumed s) := by rw [debugCommand_resume h3 h4, if_pos hd]
  refine ⟨answered (debugResumed s), ?_, by rw [leaf_answered, hleaf], answered_answer _, by rw [leaf_answered, hleaf]⟩
  rw [debugOp_taken hs hc, serveStep_idle (by rw [leaf_answered, hleaf]; exact hl),
    settleFaults_none _ (by rw [flt_answered, hflt]; exact hs.2)]

/-! STEP. -/

/-- No instance is chosen while the mode is not RUN. -/
theorem schedule_hold (h : curMode s = modeHold) : schedule s = s := by
  have hl : leavesRun s = false := by simp [leavesRun, h, modeHold, modeRun]
  rw [schedule, scheduleN, hl]
  rfl

/-- An instruction that completes at a step. -/
theorem stepInst_completed {k : Nat} {i : Inst} {c : Ctx} (hm : curMode s = modeHold) (hi : getInst s k = some i) (hst : i.st ≠ .ended)
    (hpc : i.ctx.pc < 2 ^ 24) (hcode : ∀ j ∈ fetchIdx (codeWord s) i.ctx, eccAt s (codeBase s + 4 * j) = .good)
    (hc : codeAct (envOf s i) i.ctx = .done c) : stepInst k s = stepped s k i c := by
  have hpc' : ¬ 2 ^ 24 ≤ i.ctx.pc := by omega
  have hu : updInst k (fun j => { j with ctx := c, count := j.count + 1 }) s = stepped s k i c := by rw [updInst, hi]; rfl
  have hsch : schedule (stepped s k i c) = stepped s k i c := schedule_hold hm
  rw [stepInst, hi]
  simp only [if_neg hst, runInstr, if_neg hpc', fetch_good _ _ hcode, if_true, hc, runAct, finishInstr, hu, hsch, ite_self]

/-- The step ends with its instruction where no repetition holds the leaves. -/
theorem stepRest_over {n k : Nat} {i : Inst} (hi : getInst s k = some i) (hr : i.ctx.rep = none) : stepRest n k s = s := by
  cases n with
  | zero => rfl
  | succ n => simp [stepRest, hi, inRptu, hr]

theorem serveStep_asked {k : Nat} (hl : s.leaf.stepReq = false) (hk : s.leaf.haltedInst = some k) :
    serveStep { s with leaf := { s.leaf with stepReq := true } } = putFld (stepRest 256 k (stepInst k s)) Reg.DBG_STAT 3 1 4 := by
  have hback : ({ s with leaf := { s.leaf with stepReq := false } } : State) = s := by rw [← hl]
  have h : serveStep { s with leaf := { s.leaf with stepReq := true } } = match s.leaf.haltedInst with
    | some t => putFld (stepRest 256 t (stepInst t { s with leaf := { s.leaf with stepReq := false } })) Reg.DBG_STAT 3 1 4
    | none => { s with leaf := { s.leaf with stepReq := false } } := rfl
  rw [h, hback, hk]

theorem debugStep_ends {k : Nat} {i : Inst} {c : Ctx} (hs : Runs s) (hl : s.leaf.stepReq = false) (h3 : haspState s ≠ 3)
    (h4 : haspState s ≠ 4) (hm : curMode s = modeHold) (hk : s.leaf.haltedInst = some k) (hi : getInst s k = some i) (hst : i.st ≠ .ended)
    (hpc : i.ctx.pc < 2 ^ 24) (hcode : ∀ j ∈ fetchIdx (codeWord s) i.ctx, eccAt s (codeBase s + 4 * j) = .good)
    (hc : codeAct (envOf s i) i.ctx = .done c) (hrep : c.rep = none) : Ends (act s (debugOp m 3)) fun u =>
      getInst u k = some { i with ctx := c, count := i.count + 1 } ∧ fld u Reg.DBG_STAT 3 1 = 4 ∧ u.answer = .done := by
  have htaken : debugCommand (debugWord 3).toNat s = (true, { s with leaf := { s.leaf with stepReq := true } }) := by
    rw [debugCommand_step h3 h4]
    simp [hm, hk]
  have hdone : stepInst k (answered s) = stepped (answered s) k i c := stepInst_completed hm hi hst hpc hcode hc
  have hinst : getInst (stepped (answered s) k i c) k = some { i with ctx := c, count := i.count + 1 } := alGet_alPut_same ..
  have hserve : serveStep (answered { s with leaf := { s.leaf with stepReq := true } }) =
      putFld (stepRest 256 k (stepInst k (answered s))) Reg.DBG_STAT 3 1 4 := serveStep_asked (s := answered s) hl hk
  rw [hdone, stepRest_over hinst hrep] at hserve
  refine ⟨putFld (stepped (answered s) k i c) Reg.DBG_STAT 3 1 4, ?_, hinst, ?_, rfl⟩
  · rw [debugOp_taken hs htaken, hserve, settleFaults_none (putFld (stepped (answered s) k i c) Reg.DBG_STAT 3 1 4) hs.2]
  · exact fld_putFld_same _ _ _ _ _ (by omega) (by omega)

end

/-- Settles O40: out of place by `debugOp_refused`, and in place by `debugHalt_ends`, `debugHalt_repeated`, `debugResume_ends` and
`debugStep_ends`. -/
theorem debugCommands : Obligations.DebugCommands := by
  unfold Obligations.DebugCommands
  intro s m hs hl no
  refine ⟨fun h => ⟨?_, ?_, ?_⟩, fun h3 h4 => ⟨fun hd hcdr hm => debugHalt_ends hs h3 h4 hd hcdr hm, fun hd => debugHalt_repeated hs.1 hl h3 h4 hd,
    fun hd => ?_, fun hd => debugResume_ends hs.1 hl h3 h4 hd, fun h => ?_, fun hm k hk i hi hst hpc hcode c hc hrep =>
      debugStep_ends hs.1 hl h3 h4 hm hk hi hst hpc hcode hc hrep⟩⟩
  · exact debugOp_refused hs.1 hl (debugCommand_standby (.inl rfl) h)
  · exact debugOp_refused hs.1 hl (debugCommand_standby (.inr (.inl rfl)) h)
  · exact debugOp_refused hs.1 hl (debugCommand_standby (.inr (.inr rfl)) h)
  · exact debugOp_refused hs.1 hl (by rw [debugCommand_resume h3 h4, hd]; rfl)
  · refine debugOp_refused hs.1 hl ?_
    rw [debugCommand_step h3 h4, if_pos]
    simpa using h

end Sys2Proof.Machine
end

section
/-! SUPPORT. What driving the field channels changes: the channels' own registers and states (R307, R310, R322). -/

namespace Sys2Proof.Machine

/-- `t` is `s` but for the states of the field channels, and for registers of `p`. -/
structure Drives (p : Nat → Prop) (s t : State) : Prop where
  rest : { t with regs := s.regs, dio := s.dio, ao := s.ao } = s
  regs : ∀ o, ¬ p o → getReg t o = getReg s o

section
variable {p q : Nat → Prop} {s t u : State}

theorem Drives.refl (s : State) : Drives p s s := ⟨rfl, fun _ _ => rfl⟩

theorem Drives.trans (h : Drives p s t) (k : Drives p t u) : Drives p s u :=
  ⟨by rw [← h.rest, ← k.rest], fun o ho => (k.regs o ho).trans (h.regs o ho)⟩

theorem Drives.mono (h : Drives p s t) (hpq : ∀ o, p o → q o) : Drives q s t := ⟨h.rest, fun o ho => h.regs o fun hp => ho (hpq o hp)⟩

theorem Drives.flt_eq (h : Drives p s t) : t.flt = s.flt := (congrArg State.flt h.rest :)
theorem Drives.raw_eq (h : Drives p s t) : t.raw = s.raw := (congrArg State.raw h.rest :)

theorem Drives.putDio (s : State) (n : Nat) (c : DioCh) : Drives p s (putDio s n c) := ⟨rfl, fun _ _ => rfl⟩

theorem Drives.putAo (s : State) (n : Nat) (c : AoCh) : Drives p s (putAo s n c) := ⟨rfl, fun _ _ => rfl⟩

theorem Drives.putFld (s : State) {o : Nat} (hi lo x : Nat) (h : p o) : Drives p s (putFld s o hi lo x) :=
  ⟨rfl, fun _ ho => getReg_putFld_ne s hi lo x fun e => ho (e ▸ h)⟩

theorem Drives.putFlag (s : State) {o : Nat} (i : Nat) (b : Bool) (h : p o) : Drives p s (putFlag s o i b) := .putFld s i i _ h

theorem Drives.forAll {α : Type} {f : State → α → State} {l : List α} (h : ∀ u, ∀ x ∈ l, Drives p u (f u x)) (s : State) :
    Drives p s (forAll l f s) :=
  forAll_induct (.refl s) fun u x hx hu => hu.trans (h u x hx)

end

section
variable (s : State) (n : Nat)

theorem dioCh_putDio (c : DioCh) : dioCh (putDio s n c) n = c := smGet_smSet_same dioDefault s.dio n c

theorem aoCh_putAo (c : AoCh) : aoCh (putAo s n c) n = c := smGet_smSet_same aoDefault s.ao n c

theorem dioCh_putFlag (o i : Nat) (b : Bool) : dioCh (putFlag s o i b) n = dioCh s n := rfl

theorem aoCh_putFld (o hi lo x : Nat) : aoCh (putFld s o hi lo x) n = aoCh s n := rfl

theorem aoCh_putFlag (o i : Nat) (b : Bool) : aoCh (putFlag s o i b) n = aoCh s n := rfl

/-! A digital output. -/

theorem refreshDio_drives : Drives (· = dioStat n) s (refreshDio s n) := by
  unfold refreshDio
  extract_lets st on
  split
  · exact .refl s
  · exact (Drives.putDio s _ _).trans (.putFlag _ _ _ rfl)

/-- The switch follows the command, which stays. -/
theorem refreshDio_command : flag (refreshDio s n) (dioStat n) 3 = flag s (dioStat n) 3 ∧
    (dioCh (refreshDio s n) n).edge = (dioCh s n).edge := by
  unfold refreshDio
  extract_lets st on
  split
  · exact ⟨rfl, rfl⟩
  · refine ⟨flag_putFlag_other _ _ _ _ _ _ (by omega) (.inr (by omega)), ?_⟩
    rw [dioCh_putFlag, dioCh_putDio]

theorem dioCommand_drives (v : Bool) : Drives (· = dioStat n) s (dioCommand s n v) :=
  .trans (.putFlag (p := (· = dioStat n)) s 3 v rfl) (refreshDio_drives _ n)

theorem dioCommand_command (v : Bool) : flag (dioCommand s n v) (dioStat n) 3 = v ∧
    (dioCh (dioCommand s n v) n).edge = (dioCh s n).edge := by
  obtain ⟨h1, h2⟩ := refreshDio_command (putFlag s (dioStat n) 3 v) n
  exact ⟨h1.trans (flag_putFlag_same _ _ _ _ (by omega)), h2.trans (by rw [dioCh_putFlag])⟩

/-- A channel in a DO mode takes the command. -/
theorem dioTake_taken (v : Word) (run : Bool) (h : isDo s n = true) : Drives (· = dioStat n) s (dioTake n v run s) ∧
    flag (dioTake n v run s) (dioStat n) 3 = v.getLsbD 0 ∧ (dioCh (dioTake n v run s) n).edge = (dioCh s n).edge := by
  have e : dioTake n v run s = dioCommand (if run then putDio s n { dioCh s n with lastRun := v.getLsbD 0 } else s) n (v.getLsbD 0) := by
    rw [dioTake, if_pos h]
  generalize hk : (if run then putDio s n { dioCh s n with lastRun := v.getLsbD 0 } else s) = k at e
  have hd : Drives (· = dioStat n) s k ∧ (dioCh k n).edge = (dioCh s n).edge := by
    rw [← hk]
    split
    · exact ⟨.putDio s _ _, by rw [dioCh_putDio]⟩
    · exact ⟨.refl s, rfl⟩
  obtain ⟨h1, h2⟩ := dioCommand_command k n (v.getLsbD 0)
  rw [e]
  exact ⟨hd.1.trans (dioCommand_drives k n _), h1, h2.trans hd.2⟩

/-! A loop output. -/

/-- The registers of the loop outputs. -/
def aoReg (o : Nat) : Prop := 0x310000 ≤ o

theorem aoPut_keeps (d : Nat) : Drives aoReg s (aoPut n d s) ∧ (aoCh (aoPut n d s) n).point = (aoCh s n).point ∧
    (aoCh (aoPut n d s) n).fail = (aoCh s n).fail ∧ (aoCh (aoPut n d s) n).edge = (aoCh s n).edge := by
  have hreg : aoReg (Reg.AO_CH_CUR n) := by simp only [aoReg, Reg.AO_CH_CUR]; omega
  unfold aoPut
  split
  · exact ⟨.putFld s _ _ _ hreg, rfl, rfl, rfl⟩
  · refine ⟨(Drives.putAo s _ _).trans (.putFld _ _ _ _ hreg), ?_, ?_, ?_⟩ <;> rw [aoCh_putFld, aoCh_putAo]

theorem refreshAo_keeps : Drives aoReg s (refreshAo s n) ∧ (aoCh (refreshAo s n) n).point = (aoCh s n).point ∧
    (aoCh (refreshAo s n) n).fail = (aoCh s n).fail ∧ (aoCh (refreshAo s n) n).edge = (aoCh s n).edge := by
  have hreg : aoReg (Reg.AO_CH_STAT n) := by simp only [aoReg, Reg.AO_CH_STAT]; omega
  obtain ⟨h1, h2, h3, h4⟩ := aoPut_keeps s n (aoCeiled s n)
  have hflags (t : State) (a b c d : Bool) : Drives aoReg t (putFlag (putFlag (putFlag (putFlag t (Reg.AO_CH_STAT n) 3 a)
      (Reg.AO_CH_STAT n) 2 b) (Reg.AO_CH_STAT n) 1 c) (Reg.AO_CH_STAT n) 0 d) :=
    (((Drives.putFlag t _ _ hreg).trans (.putFlag _ _ _ hreg)).trans (.putFlag _ _ _ hreg)).trans (.putFlag _ _ _ hreg)
  have hch (t : State) (a b c d : Bool) : aoCh (putFlag (putFlag (putFlag (putFlag t (Reg.AO_CH_STAT n) 3 a)
      (Reg.AO_CH_STAT n) 2 b) (Reg.AO_CH_STAT n) 1 c) (Reg.AO_CH_STAT n) 0 d) n = aoCh t n := by
    rw [aoCh_putFlag, aoCh_putFlag, aoCh_putFlag, aoCh_putFlag]
  simp only [refreshAo, hch]
  exact ⟨h1.trans (hflags ..), h2, h3, h4⟩

/-- A loop output takes a point value that is no fail state. -/
theorem aoTake_taken (v : Word) (run : Bool) : Drives aoReg s (aoTake n v run false false s) ∧
    (aoCh (aoTake n v run false false s) n).point = v ∧ (aoCh (aoTake n v run false false s) n).fail = false ∧
    (aoCh (aoTake n v run false false s) n).edge = (aoCh s n).edge := by
  obtain ⟨c, ht, hp, hf, he⟩ : ∃ c : AoCh, aoTake n v run false false s = refreshAo (putAo s n c) n ∧ c.point = v ∧ c.fail = false ∧
      c.edge = (aoCh s n).edge := ⟨_, rfl, rfl, rfl, rfl⟩
  obtain ⟨h1, h2, h3, h4⟩ := refreshAo_keeps (putAo s n c) n
  rw [aoCh_putAo] at h2 h3 h4
  rw [ht]
  exact ⟨(Drives.putAo s n c).trans h1, h2.trans hp, h3.trans hf, h4.trans he⟩

theorem captureFail_drives : Drives aoReg s (captureFail n s) := .putAo s _ _

end

end Sys2Proof.Machine
end

section
/-! The apply instant and timed edges (R60, R293, R307). -/

namespace Sys2Proof.Machine

section
variable {s : State}

theorem dioStat_lt {n : Nat} (h : n < 192) : dioStat n < 0x310000 := by simp only [dioStat, Reg.DIO_CH_STAT]; omega

theorem dioStat_inj {n k : Nat} (h : dioStat n = dioStat k) : n = k := by simp only [dioStat, Reg.DIO_CH_STAT] at h; omega

theorem isDo_advance {n : Nat} (h : n < 192) (x : Nat) : isDo (advanceToTime x s) n = isDo s n := by
  have hreg : passReg (dioCfg n) = false := by
    have : dioCfg n < 0x400000 ∧ 0x300000 ≤ dioCfg n := by simp only [dioCfg, Reg.DIO_CH_CFG]; omega
    have h1 : dioCfg n ≠ Reg.HASP_HBMISS := by simp only [Reg.HASP_HBMISS]; omega
    have h2 : dioCfg n ≠ Reg.SYS_RSTCAUSE := by simp only [Reg.SYS_RSTCAUSE]; omega
    simp [passReg, h1, h2, this.1]
  rw [isDo, dioMode, advanceToTime, fld_congr ((advanceTo_apart _ _).regs _ hreg), ← dioMode, ← isDo]

/-- What AP leaves of the one digital output that the map gives a command. -/
theorem applyCommit_one {c : Commit} {e : IoEntry} (hd : commandEntries s kindDio clsQX = [e]) (ha : commandEntries s kindAo clsQW = [])
    (hn : e.chan < 192) (hdo : isDo s e.chan = true) (he : c.edge false e.chan = none) :
    (applyCommit c s).flt = s.flt ∧ flag (applyCommit c s) (dioStat e.chan) 3 = (imgGet c.img e.key).getLsbD 0 := by
  have htake := dioTake_taken (putDio s e.chan { dioCh s e.chan with edge := none }) e.chan (imgGet c.img e.key) c.run hdo
  have happly : dioApply c e s = dioTake e.chan (imgGet c.img e.key) c.run (putDio s e.chan { dioCh s e.chan with edge := none }) := by
    rw [dioApply, he]
    rfl
  obtain ⟨h1, h2, -⟩ := htake
  rw [← happly] at h1 h2
  have hall : applyCommit c s = forAll ((List.range 48).filter fun n => !(([] : List IoEntry).any fun e => e.chan = n))
      (fun s n => refreshAo (captureFail n s) n)
      (forAll ((List.range 192).filter fun n => isDo (dioApply c e s) n && !([e].any fun e => e.chan = n))
        (fun s n => dioCommand s n (dioFail s n)) (dioApply c e s)) := by
    rw [applyCommit, hd, ha]
    rfl
  have hothers : Drives (· ≠ dioStat e.chan) (dioApply c e s) (applyCommit c s) := by
    rw [hall]
    refine (Drives.forAll (fun u n hn' => (dioCommand_drives u n _).mono ?_) _).trans (.forAll (fun u n _ => ?_) _)
    · rintro o rfl hst
      have hne := (List.mem_filter.mp hn').2
      rw [dioStat_inj hst] at hne
      simp at hne
    · refine ((captureFail_drives u n).trans (refreshAo_keeps _ n).1).mono fun o ho hst => ?_
      have := dioStat_lt hn
      simp only [aoReg] at ho
      omega
  exact ⟨hothers.flt_eq.trans h1.flt_eq, (flag_congr (hothers.regs _ fun h => h rfl) _).trans h2⟩

theorem applyInstant_released {c : Commit} (hs : Undisturbed s) (hc : s.frm.released = some c) :
    applyInstant s = applyCommit c (advanceToTime (apAt s (fnum s)) s) := by
  simp only [applyInstant, hs.ticking, hs.power, hc]
  rfl

/-- A timed edge of a digital output at its instant. -/
theorem timedEdge_dio {n : Nat} {e : Edge} (hn : n < 192) (he : (dioCh s n).edge = some e) (hdo : isDo s n = true) :
    (timedEdge false n s).flt = s.flt ∧ flag (timedEdge false n s) (dioStat n) 3 = e.v.getLsbD 0 ∧
      (dioCh (timedEdge false n s) n).edge = none ∧ (timedEdge false n s).raw = max s.raw (rawAt s ((e.at2 + 1) / 2)) := by
  obtain ⟨k, hk⟩ : ∃ k, advanceToTime ((e.at2 + 1) / 2) s = k := ⟨_, rfl⟩
  have ht : timedEdge false n s = dioTake n e.v e.run (putDio k n { dioCh k n with edge := none }) := by
    simp only [timedEdge, he, hk, Bool.false_eq_true, if_false]
  have hap : Apart s k := hk ▸ advanceTo_apart _ _
  have hraw : k.raw = max s.raw (rawAt s ((e.at2 + 1) / 2)) := by rw [← hk, advanceToTime, advanceTo_raw]
  have hdo' : isDo (putDio k n { dioCh k n with edge := none }) n = true := (hk ▸ isDo_advance hn _).trans hdo
  obtain ⟨h1, h2, h3⟩ := dioTake_taken (putDio k n { dioCh k n with edge := none }) n e.v e.run hdo'
  rw [← ht] at h1 h2 h3
  exact ⟨h1.flt_eq.trans hap.flt, h2, h3.trans (by rw [dioCh_putDio]), h1.raw_eq.trans hraw⟩

/-- A timed edge of a loop output at its instant. -/
theorem timedEdge_ao {n : Nat} {e : Edge} (he : (aoCh s n).edge = some e) :
    (timedEdge true n s).flt = s.flt ∧ (aoCh (timedEdge true n s) n).point = e.v ∧ (aoCh (timedEdge true n s) n).fail = false ∧
      (aoCh (timedEdge true n s) n).edge = none := by
  obtain ⟨k, hk⟩ : ∃ k, advanceToTime ((e.at2 + 1) / 2) s = k := ⟨_, rfl⟩
  have ht : timedEdge true n s = aoTake n e.v e.run false false (putAo k n { aoCh k n with edge := none }) := by
    simp only [timedEdge, he, hk, if_true]
  have hap : Apart s k := hk ▸ advanceTo_apart _ _
  obtain ⟨h1, h2, h3, h4⟩ := aoTake_taken (putAo k n { aoCh k n with edge := none }) n e.v e.run
  rw [← ht] at h1 h2 h3 h4
  exact ⟨h1.flt_eq.trans hap.flt, h2, h3, h4.trans (by rw [aoCh_putAo])⟩

end

/-- A timed edge whose channel exists. -/
theorem exec_timedEdge {s : State} {ao : Bool} {n : Nat} (hs : Runs s) (hn : n < if ao then 48 else 192)
    (hf : (timedEdge ao n s).flt = s.flt) : exec (.timedEdge ao n) s = .next (timedEdge ao n s) := by
  have hw : when (decide (n < if ao then 48 else 192)) (timedEdge ao n) s = timedEdge ao n s := by rw [when, decide_eq_true hn]; rfl
  have h : exec (.timedEdge ao n) s = act s (when (decide (n < if ao then 48 else 192)) (timedEdge ao n)) := rfl
  rw [h, act_quiet _ hs.1 (by rw [hw, hf]; exact hs.2), hw]

/-- Settles O30: AP by `applyCommit_one`, and the edges by `timedEdge_dio` and `timedEdge_ao`. -/
theorem outputsApplied : Obligations.OutputsApplied := by
  unfold Obligations.OutputsApplied
  intro s hs
  have hr : Runs s := hs.roomy.1
  refine ⟨fun c e hc hd ha hn hdo he => ?_, fun n hn he => ?_, fun n e hn he hdo => ?_, fun n e hn he => ?_⟩
  · have hap : Apart s (advanceToTime (apAt s (fnum s)) s) := advanceTo_apart _ _
    have hcmd (kind cls : Nat) : commandEntries (advanceToTime (apAt s (fnum s)) s) kind cls = commandEntries s kind cls := by
      rw [commandEntries, hap.frm, ← commandEntries]
    obtain ⟨hf, hflag⟩ := applyCommit_one (c := c) ((hcmd _ _).trans hd) ((hcmd _ _).trans ha) hn ((isDo_advance hn _).trans hdo) he
    rw [← applyInstant_released hs hc] at hf hflag
    exact ⟨_, act_quiet _ hr.1 (by rw [hf, hap.flt]; exact hr.2), hflag⟩
  · have ht : timedEdge false n s = s := by simp [timedEdge, he]
    rw [exec_timedEdge hr hn (by rw [ht]), ht]
  · obtain ⟨hf, hrest⟩ := timedEdge_dio hn he hdo
    exact ⟨_, exec_timedEdge hr hn hf, hrest⟩
  · obtain ⟨hf, hrest⟩ := timedEdge_ao he
    exact ⟨_, exec_timedEdge hr hn hf, hrest⟩

end Sys2Proof.Machine
end

section
/-! SUPPORT. What the units beside the images leave alone at a close: FRM's state, what lanes have received, the registers that the
images and their forces come from, and in FLT all but faults of kinds that are known. -/

namespace Sys2Proof.Machine

/-- FLT holds in `g` what it held in `f`, and faults that have arrived, each of a class and code of the list, not escalated. -/
structure Gains (l : List (Nat × Nat)) (f g : FltState) : Prop where
  flt : { g with arrived := f.arrived } = f
  arrived : ∃ d : List Arrival, g.arrived = f.arrived ++ d ∧ ∀ a ∈ d, a.esc = false ∧ (a.cls.val, a.code.toNat) ∈ l

/-- `s` with FRM's state replaced. -/
def putFrm (s : State) (f : FrmState) : State := { s with frm := f }

/-- `s` in a phase of its frame. -/
def inPhaseOf (n : Nat) (s : State) : State := putFrm s { s.frm with phase := n }

/-- The registers that FRM, the map, the forces and the fail states read at a close. -/
def closeReg (o : Nat) : Bool :=
  (0x30000 ≤ o && o < 0x40000 && o ≠ Reg.FRM_SLACK && o ≠ Reg.FRM_SLACKMIN) || o = Reg.HASP_STAT || (0x100000 ≤ o && o < 0x400000)

/-- `t` is `s` but for what no image is made of, and faults of the list. -/
structure Aside (l : List (Nat × Nat)) (s t : State) : Prop where
  frm : t.frm = s.frm
  mem : t.mem = s.mem
  lanes : t.lanes = s.lanes
  regs : ∀ o, closeReg o = true → getReg t o = getReg s o
  flt : Gains l s.flt t.flt

section
variable {l : List (Nat × Nat)} {s t u : State}

theorem Gains.refl (f : FltState) : Gains l f f := ⟨rfl, [], (List.append_nil _).symm, by simp⟩

theorem Gains.of_eq {f g : FltState} (h : g = f) : Gains l f g := h ▸ .refl g

theorem Gains.trans {f g k : FltState} (h : Gains l f g) (i : Gains l g k) : Gains l f k := by
  obtain ⟨d, hd, hd'⟩ := h.arrived
  obtain ⟨e, he, he'⟩ := i.arrived
  refine ⟨by rw [← h.flt, ← i.flt], d ++ e, by rw [he, hd, List.append_assoc], fun a ha => ?_⟩
  rcases List.mem_append.mp ha with ha | ha
  · exact hd' a ha
  · exact he' a ha

theorem Gains.raise (s : State) {code cls : Nat} (h : (cls, code) ∈ l) (hc : cls ≤ 1) (hn : code < 2 ^ 16) :
    Gains l s.flt (raise code cls s).flt := by
  have hf := report_low_flt s code 0xF hc
  rw [Machine.raise]
  refine ⟨by rw [hf], _, by rw [hf], ?_⟩
  intro a ha
  rw [List.mem_singleton.mp ha]
  have h1 : (Fin.ofNat 4 cls).val = cls := by simp only [Fin.ofNat]; omega
  have h2 : (BitVec.ofNat 16 code).toNat = code := by rw [BitVec.toNat_ofNat, Nat.mod_eq_of_lt hn]
  exact ⟨rfl, by simpa only [h1, h2] using h⟩

/-- FLT takes faults of few kinds, none of them a class that acts, and nothing else changes. -/
theorem Gains.settled (h : Gains l s.flt t.flt) (hs : s.flt.arrived = []) (hq : s.flt.queue.length ≤ 48)
    (hl : ∀ p ∈ l, p.1 ≤ 1 ∧ p.2 ≠ codeQueueFull) (hlen : l.length ≤ 12) : Noted t (settleFaults t) := by
  obtain ⟨d, hd, hd'⟩ := h.arrived
  have hmem : ∀ a ∈ t.flt.arrived, a.esc = false ∧ (a.cls.val, a.code.toNat) ∈ l := by rwa [hd, hs, List.nil_append]
  have hqueue : t.flt.queue = s.flt.queue := (congrArg FltState.queue h.flt :)
  have hcard : (l.map fun p => (3 - p.1) * 2 ^ 16 + p.2).toFinset.card ≤ l.length :=
    (List.toFinset_card_le _).trans (by rw [List.length_map])
  refine settleFaults_kinds (l.map fun p => (3 - p.1) * 2 ^ 16 + p.2).toFinset t (fun a ha => ?_) (fun a ha => ?_) (by omega)
    (by rw [hqueue]; exact hq)
  · obtain ⟨hesc, hk⟩ := hmem a ha
    exact ⟨(hl _ hk).1, hesc, (hl _ hk).2⟩
  · rw [List.mem_toFinset, List.mem_map]
    exact ⟨_, (hmem a ha).2, rfl⟩

theorem Aside.refl (s : State) : Aside l s s := ⟨rfl, rfl, rfl, fun _ _ => rfl, .of_eq rfl⟩

theorem Aside.trans (h : Aside l s t) (k : Aside l t u) : Aside l s u :=
  ⟨k.frm.trans h.frm, k.mem.trans h.mem, k.lanes.trans h.lanes, fun o ho => (k.regs o ho).trans (h.regs o ho), h.flt.trans k.flt⟩

theorem Aside.curMode_eq (h : Aside l s t) : curMode t = curMode s := fld_congr (h.regs _ (by decide)) _ _

theorem Aside.hasp_eq (h : Aside l s t) : haspState t = haspState s := fld_congr (h.regs _ (by decide)) _ _

theorem Aside.putReg (s : State) {o : Nat} (v : Word) (h : closeReg o = false) : Aside l s (putReg s o v) := by
  refine ⟨rfl, rfl, rfl, fun o' ho => getReg_putReg_ne s v ?_, .of_eq rfl⟩
  rintro rfl
  rw [h] at ho
  cases ho

theorem Aside.putFld (s : State) {o : Nat} (hi lo x : Nat) (h : closeReg o = false) : Aside l s (putFld s o hi lo x) := .putReg s _ h
theorem Aside.putFlag (s : State) {o : Nat} (i : Nat) (b : Bool) (h : closeReg o = false) : Aside l s (putFlag s o i b) := .putReg s _ h
theorem Aside.putNat (s : State) {o : Nat} (v : Nat) (h : closeReg o = false) : Aside l s (putNat s o v) := .putReg s _ h
theorem Aside.bump (s : State) {o : Nat} (hi lo : Nat) (h : closeReg o = false) : Aside l s (bump s o hi lo) := .putReg s _ h

theorem Aside.setSpec (s : State) (x : SpecState) : Aside l s { s with spec := x } := ⟨rfl, rfl, rfl, fun _ _ => rfl, .of_eq rfl⟩

theorem Aside.raise (s : State) {code cls : Nat} (h : (cls, code) ∈ l) (hc : cls ≤ 1) (hn : code < 2 ^ 16) :
    Aside l s (raise code cls s) := by
  have hr : Noted s (Machine.raise code cls s) := noted_report code cls 0xF s hc
  have hx : ∀ o, closeReg o = true → faultReg o = false := by
    intro o ho
    by_contra hf
    simp only [Bool.not_eq_false, faultReg, Bool.or_eq_true, decide_eq_true_eq] at hf
    rcases hf with (((((rfl | rfl) | rfl) | rfl) | rfl) | rfl) | rfl <;> exact absurd ho (by decide)
  exact ⟨hr.frm_eq, (congrArg State.mem hr.rest :), (congrArg State.lanes hr.rest :), fun o ho => hr.regs o (hx o ho), .raise s h hc hn⟩

theorem Aside.inPhaseOf (h : Aside l s t) (n : Nat) : Aside l (inPhaseOf n s) (inPhaseOf n t) := by
  refine ⟨?_, h.mem, h.lanes, h.regs, h.flt⟩
  rw [Machine.inPhaseOf, h.frm]
  rfl

theorem closeReg_passes {o : Nat} (h : closeReg o = true) : passReg o = false := by
  by_contra hf
  simp only [Bool.not_eq_false, passReg, Bool.or_eq_true, decide_eq_true_eq] at hf
  rcases hf with (hf | rfl) | rfl
  · simp only [closeReg, Bool.or_eq_true, Bool.and_eq_true, decide_eq_true_eq] at h
    simp only [Reg.HASP_STAT] at h
    omega
  · exact absurd h (by decide)
  · exact absurd h (by decide)

theorem Aside.of_apart (h : Apart s t) : Aside l s t :=
  ⟨h.frm, h.mem, h.lanes, fun o ho => h.regs o (closeReg_passes ho), .of_eq h.flt⟩

end

end Sys2Proof.Machine
end

section
/-! SUPPORT. The images of a close: what they are made of, and the window that shows them (R59, R65, R72). -/

namespace Sys2Proof.Machine

section
variable {l : List (Nat × Nat)} {s t : State}

theorem forcesOf_of_mem (h : t.mem = s.mem) (c : Nat → Bool) : forcesOf t c = forcesOf s c := by
  have hv : validForces t = validForces s := by rw [validForces, h, ← validForces]
  have he : forceEntry t = forceEntry s := funext fun f => memNat_of_mem h _ _
  rw [forcesOf, hv, he, ← forcesOf]

theorem Aside.inputForces_eq (h : Aside l s t) : inputForces t = inputForces s := forcesOf_of_mem h.mem _

theorem Aside.countPoints_eq (h : Aside l s t) : countPoints t = countPoints s := by
  unfold countPoints
  refine List.filterMap_congr fun i hi => ?_
  have hreg : getReg t (Reg.LANE_RXQ_CFG (i / 2) (i % 2)) = getReg s (Reg.LANE_RXQ_CFG (i / 2) (i % 2)) := by
    have hi := List.mem_range.mp hi
    have hlo : 0x100000 ≤ Reg.LANE_RXQ_CFG (i / 2) (i % 2) := by simp only [Reg.LANE_RXQ_CFG]; omega
    have hhi : Reg.LANE_RXQ_CFG (i / 2) (i % 2) < 0x400000 := by simp only [Reg.LANE_RXQ_CFG]; omega
    exact h.regs _ (by simp [closeReg, hlo, hhi])
  have hlane : lane t (i / 2) = lane s (i / 2) := by rw [lane, h.lanes, ← lane]
  simp only [flag_congr hreg, fld_congr hreg, hlane]

end

/-! The window. -/

section
variable (s : State)

theorem putRegionPoint_beside (b k : Nat) (v : Word) : Beside s (putRegionPoint b s k v) := by
  unfold putRegionPoint
  split
  · exact ⟨rfl, rfl, rfl, rfl, rfl, fun _ _ => rfl⟩
  · rw [putBytes_only]
    exact ⟨rfl, rfl, rfl, rfl, rfl, fun _ _ => rfl⟩

theorem rewriteRegion_beside (b c : Nat) (m : SMap Word) : Beside s (rewriteRegion s b c m) := by
  have h : ∀ (q : List (Nat × Word)) (u : State), Beside s u → Beside s (q.foldl (fun s p => putRegionPoint b s p.1 p.2) u) := by
    intro q
    induction q with
    | nil => exact fun u hu => hu
    | cons p r ih => exact fun u hu => ih _ (beside_trans hu (putRegionPoint_beside u b p.1 p.2))
  exact h _ _ ⟨rfl, rfl, rfl, rfl, rfl, fun _ _ => rfl⟩

theorem refreshKnown_beside : Beside s (refreshKnown s) :=
  ⟨rfl, rfl, rfl, rfl, rfl, fun _ ho => getReg_putFlag_ne _ _ _ (storeReg_ne (by decide) ho)⟩

theorem rewriteWindow_beside (c d : Nat) (img : SMap Word) : Beside s (rewriteWindow c d img s) := by
  have h := beside_trans (rewriteRegion_beside s (clsBase c) c img) (rewriteRegion_beside _ (clsBase d) d img)
  have hmm (u : State) (x : MemState) : Beside u { u with mm := x } := ⟨rfl, rfl, rfl, rfl, rfl, fun _ _ => rfl⟩
  exact beside_trans (beside_trans (beside_trans h (hmm _ _)) (refreshKnown_beside _)) (forAll_beside _ _ _ fun u _ => touchPage_beside _ u)

theorem touchFrm_beside (part : Nat) : Beside s (touchFrm part s) := forAll_beside _ _ _ fun u _ => touchPage_beside _ u

theorem inputHits_beside (img : SMap Word) : Beside s (inputHits img s) := ⟨rfl, rfl, rfl, rfl, rfl, fun _ _ => rfl⟩

end

/-- The input image of a frame. -/
def inputImage (s : State) : SMap Word := applyOver (applyOver s.frm.unforced (countPoints s)) (inputForces s)

/-- FRM once the input image is closed. -/
def closedFrm (s : State) : FrmState :=
  { s.frm with inImg := inputImage s, insts := s.frm.insts.map fun p => (p.1, if p.2.frozen then p.2 else
      { p.2 with frozen := true, img := inputImage s, outImg := s.frm.last }) }

theorem closeImage_beside (s : State) : Beside (putFrm s (closedFrm s)) (closeImage s) := by
  unfold closeImage
  extract_lets img t upd
  have ht : Beside s t := beside_trans (inputHits_beside s img) (rewriteWindow_beside _ _ _ img)
  have hfrm : { t.frm with inImg := img, insts := t.frm.insts.map fun p => (p.1, upd p.2) } = closedFrm s := by
    simp only [upd, ht.frm]
    rfl
  clear_value t
  refine beside_trans ?_ (beside_trans (touchFrm_beside _ frmUnforced) (touchFrm_beside _ frmImages))
  exact ⟨hfrm, ht.flt, ht.posQ, ht.pads, ht.boot, ht.regs⟩

end Sys2Proof.Machine
end

section
/-! The input close (R59, R65). -/

namespace Sys2Proof.Machine

/-- The faults of an input close: of the leaves that enter the vote RESTORED and SIMPLEX (R149, R157), and of a release
NO_ENTRY (R470). -/
def inputFaults : List (Nat × Nat) := [(0, 0x0528), (0, 0x0529), (0, 0x052A), (1, 0x0533), (0, 0x0331)]

section
variable {s : State}

theorem specDrop_aside (l : List (Nat × Nat)) (n : Nat) (s : State) : Aside l s (specDrop n s) := by
  have h := (Aside.setSpec (l := l) s { s.spec with work := [], barred := some n, full := false, discarded := some n }).trans
    (.bump _ (o := Reg.SPEC_DISCARDS) 31 0 (by decide))
  simp only [specDrop]
  split
  · exact h.trans (.putFlag _ _ _ (by decide))
  · exact h

theorem refreshVote_aside (s : State) : Aside inputFaults s (refreshVote s) := by
  have hvote : Aside inputFaults s (if splitHalt s then s else putFld s Reg.LEAF_STAT 17 16 (inVote s).length) := by
    split
    · exact .refl s
    · exact .putFld s _ _ _ (by decide)
  unfold refreshVote
  extract_lets n was t u
  have hu : Aside inputFaults s u := hvote.trans (.putFlag _ _ _ (by decide))
  split
  · exact hu.trans (.raise _ (by decide) (by omega) (by omega))
  · exact hu

theorem enterVote_aside (s : State) : Aside inputFaults s (enterVote s) := by
  unfold enterVote
  extract_lets ls t
  have ht : Aside inputFaults s t := by
    simp only [t]
    split
    · exact .refl s
    · exact specDrop_aside _ _ s
  refine forAll_induct ht fun u k hk hu => hu.trans ?_
  have hin : (0, 0x0528 + k) ∈ inputFaults ∧ 0x0528 + k < 2 ^ 16 := by
    have hk := (List.mem_filter.mp hk).1
    simp only [List.mem_cons, List.not_mem_nil, or_false] at hk
    rcases hk with rfl | rfl | rfl <;> decide
  have hleaf (v : State) (x : LeafState) : Aside inputFaults v { v with leaf := x } := ⟨rfl, rfl, rfl, fun _ _ => rfl, .refl _⟩
  exact ((((Aside.putFld u _ _ _ (by decide)).trans (hleaf _ _)).trans (.putNat _ _ (by decide))).trans (refreshVote_aside _)).trans
    (.raise _ hin.1 (by omega) hin.2)

theorem specClose_aside (l : List (Nat × Nat)) (s : State) : Aside l s (specClose s) := by
  unfold specClose
  split
  · exact .refl s
  · exact ((Aside.putFld s _ _ _ (by decide)).trans (.putFld _ _ _ _ (by decide))).trans (.setSpec _ _)

/-- `t` is in the compute phase that `s` began: FRM's phase, image and mode and the pair's state are as they were, and FLT gained
no fault but those of an input close. -/
structure Computes (s t : State) : Prop where
  compute : t.frm.compute = true
  phase : t.frm.phase = s.frm.phase
  image : t.frm.inImg = s.frm.inImg
  mode : curMode t = curMode s
  hasp : haspState t = haspState s
  flt : Gains inputFaults s.flt t.flt

section
variable {t u : State}

theorem Computes.ite {c : Prop} [Decidable c] (h : Computes s t) (k : Computes s u) : Computes s (if c then t else u) := by
  split
  · exact h
  · exact k

/-- Instances, releases that wait, pending flags, latches and the note of missing entries are no part of it. -/
theorem Computes.frm (h : Computes s t) (f : FrmState)
    (hf : { f with insts := t.frm.insts, later := t.frm.later, pend := t.frm.pend, latchDue := t.frm.latchDue,
                   noEntry := t.frm.noEntry, running := t.frm.running } = t.frm) : Computes s { t with frm := f } where
  compute := (congrArg FrmState.compute hf :).trans h.compute
  phase := (congrArg FrmState.phase hf :).trans h.phase
  image := (congrArg FrmState.inImg hf :).trans h.image
  mode := h.mode
  hasp := h.hasp
  flt := h.flt

theorem Computes.bumpMerged (h : Computes s t) (k n : Nat) : Computes s (bumpMerged k n t) := by
  have hm : Reg.FRM_MODE ≠ Reg.FRM_EVTSTAT (k - 32) := by simp only [Reg.FRM_MODE, Reg.FRM_EVTSTAT]; omega
  have hh : Reg.HASP_STAT ≠ Reg.FRM_EVTSTAT (k - 32) := by simp only [Reg.HASP_STAT, Reg.FRM_EVTSTAT]; omega
  exact ⟨h.compute, h.phase, h.image, (fld_congr (getReg_putFld_ne _ _ _ _ hm) _ _ :).trans h.mode,
    (fld_congr (getReg_putFld_ne _ _ _ _ hh) _ _ :).trans h.hasp, h.flt⟩

theorem Computes.setPend (h : Computes s t) (k : Nat) : Computes s (setPend k t) := by
  unfold Machine.setPend
  split
  · exact h.bumpMerged k 1
  · exact h.frm _ rfl

theorem Computes.noEntry (h : Computes s t) (k : Nat) : Computes s (noEntry k t) := by
  unfold Machine.noEntry
  split
  · exact h
  · have h1 := h.frm { t.frm with noEntry := k :: t.frm.noEntry } rfl
    generalize ({ t with frm := { t.frm with noEntry := k :: t.frm.noEntry } } : State) = v at h1 ⊢
    have hr : Aside inputFaults v (raise 0x0331 0 v) := .raise v (by decide) (by omega) (by omega)
    exact ⟨(congrArg FrmState.compute hr.frm :).trans h1.compute, (congrArg FrmState.phase hr.frm :).trans h1.phase,
      (congrArg FrmState.inImg hr.frm :).trans h1.image, hr.curMode_eq.trans h1.mode, hr.hasp_eq.trans h1.hasp, h1.flt.trans hr.flt⟩

section
variable (hh : haspState s ≠ 2)
include hh

theorem Computes.releaseTask (h : Computes s t) (k n d r : Nat) (f : Bool) : Computes s (releaseTask k n d r f t) := by
  unfold Machine.releaseTask
  split
  · have h1 (i : Inst) : Computes s (putInst k i t) := h.frm _ rfl
    rw [sendPos, if_neg (by rw [(h1 _).hasp]; exact hh)]
    exact h1 _
  · exact h.noEntry k

theorem Computes.releaseLater (h : Computes s t) (n : Nat) : Computes s (releaseLater n t) := by
  unfold Machine.releaseLater
  exact forAll_induct (h.frm _ rfl) fun u p _ hu => hu.releaseTask hh _ _ _ _ _

variable (hm : curMode s ≠ modeRun)
include hm

omit hh in
/-- Outside RUN the leaves are given nothing. -/
theorem Computes.schedule (h : Computes s t) : Computes s (schedule t) := by
  have hl : leavesRun t = false := by simp only [leavesRun, h.mode, hm, decide_false, Bool.and_false]
  rw [Machine.schedule, scheduleN, hl]
  exact h

theorem Computes.eventRelease (h : Computes s t) (k n a : Nat) : Computes s (eventRelease k n a t) := by
  unfold Machine.eventRelease
  split
  · exact h.noEntry k
  split
  · exact (h.releaseTask hh k _ _ _ true).schedule hm
  · exact h.frm _ rfl

theorem Computes.takeTrigger (h : Computes s t) (k a : Nat) : Computes s (takeTrigger k a t) := by
  rw [Machine.takeTrigger]
  exact .ite h (.ite (h.setPend k) (.ite (h.noEntry k) (.ite (h.setPend k) (.ite (h.bumpMerged k 1) (h.eventRelease hh hm k _ _)))))

theorem Computes.countLatches (h : Computes s t) : Computes s (countLatches t) := by
  unfold Machine.countLatches
  split
  · exact h
  · refine forAll_induct (h.frm _ rfl) fun u p _ hu => Computes.bumpMerged ?_ _ _
    split
    · exact hu
    · exact hu.takeTrigger hh hm _ _

end
end

section
variable {t : State}

/-- With no instance the leaves have nothing to execute. -/
theorem schedule_idle (h : Computes s t) (hi : t.frm.insts = []) : Computes s (schedule t) := by
  rw [schedule, scheduleN]
  split
  · exact h
  · rw [hi]
    exact h.frm _ rfl

/-- In RUN nothing is released where nothing waits. -/
theorem beginRun_idle (n : Nat) (h : Computes s t) (hi : t.frm.insts = []) (hl : t.frm.later = []) (hd : t.frm.latchDue = false) :
    Computes s (schedule (releaseLater n (countLatches (resumeInsts t)))) := by
  have hinsts : ∀ x, x = t.frm.insts → ({ t with frm := { t.frm with insts := x } } : State) = t := by rintro x rfl; rfl
  have hlater : ∀ x, x = t.frm.later → ({ t with frm := { t.frm with later := x } } : State) = t := by rintro x rfl; rfl
  have hr : resumeInsts t = t := hinsts _ (by rw [hi]; rfl)
  have hcl : countLatches t = t := by rw [countLatches, hd]; rfl
  have hrl : releaseLater n t = t := by
    simp only [releaseLater, hl, List.filter_nil]
    exact hlater _ hl.symm
  rw [hr, hcl, hrl]
  exact schedule_idle h hi

end

/-- The compute phase begins. -/
theorem beginCompute_computes (n : Nat) (hh : haspState s ≠ 2)
    (hrun : curMode s = modeRun → s.frm.insts = [] ∧ s.frm.later = [] ∧ s.frm.latchDue = false) : Computes s (beginCompute n s) := by
  unfold beginCompute
  extract_lets _ t
  have hm : curMode t = curMode s := rfl
  have ht : Computes s t := ⟨rfl, rfl, rfl, rfl, rfl, .refl _⟩
  split_ifs with h1 h2
  · exact ht
  · exact ht.countLatches hh (by rw [← hm, h2]; decide)
  · by_cases h3 : curMode s = modeRun
    · obtain ⟨hi, hl, hd⟩ := hrun h3
      exact beginRun_idle n ht hi hl hd
    · have hres : Computes s (resumeInsts t) := ht.frm _ rfl
      exact ((hres.countLatches hh h3).releaseLater hh n).schedule h3

end

end Sys2Proof.Machine
end

section
/-! O27: IC freezes the input image (R59, R65). -/

namespace Sys2Proof.Machine

/-- The state whose images the input close of `t` makes: past IC, with the leaves in the vote. -/
def closingInput (s : State) : State := enterVote (inPhaseOf 1 (advanceToTime (icAt s (fnum s)) s))

/-- IC of frame `n`, once its instant has come. -/
def inputCloseAt (n : Nat) (s : State) : State :=
  let s := enterShadow (inPhaseOf 1 s)
  let s := if s.leaf.actHalt then s else enterVote s
  if haspState s = 3 || haspState s = 4 then s
  else
    let s := specClose (closeImage s)
    if leads s then beginCompute n (when (haspState s = 2) (sendRec "CLOSE") s) else s

section
variable {s t : State}

theorem curMode_beside (h : Beside s t) : curMode t = curMode s := fld_congr (h.regs _ (by decide)) _ _
theorem haspState_beside (h : Beside s t) : haspState t = haspState s := fld_congr (h.regs _ (by decide)) _ _

theorem closingInput_aside (s : State) : Aside inputFaults (inPhaseOf 1 s) (closingInput s) :=
  ((Aside.of_apart (advanceTo_apart _ _)).inPhaseOf 1).trans (enterVote_aside _)

theorem inputClose_eq (hk : s.frm.ticking = true) (hw : s.pads.pfailB = true) (hp : s.frm.phase = 0) :
    inputClose s = inputCloseAt (fnum s) (advanceToTime (icAt s (fnum s)) s) := by
  rw [inputClose, if_neg (by simp [hk, hp, hw])]
  rfl

/-- A leading module closes the image and begins the compute phase. -/
theorem inputCloseAt_leads (n : Nat) (hh : haspState s = 0) (ha : s.leaf.actHalt = false) :
    inputCloseAt n s = beginCompute n (specClose (closeImage (enterVote (inPhaseOf 1 s)))) := by
  have hh1 : haspState (inPhaseOf 1 s) = 0 := hh
  have ha1 : (inPhaseOf 1 s).leaf.actHalt = false := ha
  have hv : haspState (enterVote (inPhaseOf 1 s)) = 0 := (enterVote_aside _).hasp_eq.trans hh1
  have hc : haspState (specClose (closeImage (enterVote (inPhaseOf 1 s)))) = 0 :=
    ((specClose_aside [] _).hasp_eq.trans (haspState_beside (closeImage_beside _))).trans hv
  have he : enterShadow (inPhaseOf 1 s) = inPhaseOf 1 s := by simp [enterShadow, hh1]
  simp [inputCloseAt, he, ha1, hv, hc, leads, when]

/-- The image that the close makes is that of the state before it. -/
theorem inputImage_aside {l : List (Nat × Nat)} {n : Nat} (h : Aside l (inPhaseOf n s) t) : inputImage t = inputImage s := by
  rw [inputImage, h.countPoints_eq, h.inputForces_eq, h.frm]
  rfl

/-- What the input close has done before the compute phase begins. -/
structure InputImaged (s t : State) : Prop where
  phase : t.frm.phase = 1
  image : t.frm.inImg = inputImage s
  insts : s.frm.insts = [] → t.frm.insts = []
  later : t.frm.later = s.frm.later
  latchDue : t.frm.latchDue = s.frm.latchDue
  mode : curMode t = curMode s
  hasp : haspState t = haspState s
  flt : Gains inputFaults s.flt t.flt

theorem imaged_of_closing (h : Aside inputFaults (inPhaseOf 1 s) t) : InputImaged s (specClose (closeImage t)) := by
  have hi := closeImage_beside t
  have hc := specClose_aside inputFaults (closeImage t)
  have hf : (specClose (closeImage t)).frm = closedFrm t := hc.frm.trans hi.frm
  have ht : t.frm = (inPhaseOf 1 s).frm := h.frm
  refine ⟨?_, ?_, ?_, ?_, ?_, (hc.curMode_eq.trans (curMode_beside hi)).trans h.curMode_eq,
    (hc.hasp_eq.trans (haspState_beside hi)).trans h.hasp_eq, (h.flt.trans (.of_eq hi.flt)).trans hc.flt⟩
  · rw [hf, closedFrm, ht]
    rfl
  · rw [hf, closedFrm, inputImage_aside h]
  · intro hn
    have hn : t.frm.insts = [] := ht ▸ hn
    simp [hf, closedFrm, hn]
  · rw [hf, closedFrm, ht]
    rfl
  · rw [hf, closedFrm, ht]
    rfl

end

/-- Settles O27: the image by `imaged_of_closing`, the compute phase by `beginCompute_computes`, and the faults of the close, none
of which acts, by `Gains.settled`. -/
theorem inputClosed : Obligations.InputClosed := by
  unfold Obligations.InputClosed
  intro s hs ha hp hrun
  obtain ⟨-, -, hact⟩ := ha
  have hr : Runs s := hs.roomy.1
  have hadv : Apart s (advanceToTime (icAt s (fnum s)) s) := advanceTo_apart _ _
  have himg : InputImaged s (specClose (closeImage (closingInput s))) := imaged_of_closing (closingInput_aside s)
  have heq : inputClose s = beginCompute (fnum s) (specClose (closeImage (closingInput s))) :=
    (inputClose_eq hs.ticking hs.power hp).trans (inputCloseAt_leads _ ((Aside.of_apart (l := []) hadv).hasp_eq.trans hs.solo)
      ((congrArg LeafState.actHalt hadv.leaf :).trans hact))
  generalize specClose (closeImage (closingInput s)) = c at himg heq
  have hhasp : haspState c = 0 := himg.hasp.trans hs.solo
  have hc := beginCompute_computes (s := c) (fnum s) (by rw [hhasp]; decide) fun h => by
    obtain ⟨h1, h2, h3⟩ := hrun (himg.mode ▸ h)
    exact ⟨himg.insts h1, himg.later.trans h2, himg.latchDue.trans h3⟩
  have hshadow : closeShadow (inputClose s) = beginCompute (fnum s) c := by
    rw [heq, closeShadow, if_pos (by simp [hc.hasp, hhasp])]
  have hnoted := (himg.flt.trans hc.flt).settled hr.2 hs.roomy.2 (by decide) (by decide)
  refine ⟨_, act_runs (fun s => closeShadow (inputClose s)) hr.1, ?_⟩
  simp only [hshadow, hnoted.frm_eq]
  exact ⟨hc.phase.trans himg.phase, hc.compute, hc.image.trans himg.image⟩

end Sys2Proof.Machine
end

section
/-! SUPPORT. What writes of whole structures leave alone (R216, R217, R220, R224, R225): FRM's state, the registers of a close, and
in FLT all but faults of kinds that are known. -/

namespace Sys2Proof.Machine

/-- `t` has FRM's state, the registers of a close and FLT from `s`, but for faults of the list. -/
structure Steady (l : List (Nat × Nat)) (s t : State) : Prop where
  frm : t.frm = s.frm
  regs : ∀ o, closeReg o = true → getReg t o = getReg s o
  flt : Gains l s.flt t.flt

/-- The faults of a write of a whole structure: an uncorrectable word, a join abandoned, a stall, and wear ahead of its budget
(R190, R217, R225, R239). -/
def storeFaults : List (Nat × Nat) := [(1, 0x0702), (0, 0x0608), (0, 0x0710), (0, 0x0712)]

section
variable {l : List (Nat × Nat)} {s t u : State}

theorem Steady.of_eq (hf : t.frm = s.frm) (hr : t.regs = s.regs) (hx : t.flt = s.flt) : Steady l s t :=
  ⟨hf, fun o _ => by rw [getReg, hr, ← getReg], .of_eq hx⟩

theorem Steady.refl (s : State) : Steady l s s := .of_eq rfl rfl rfl

theorem Steady.setMm (s : State) (x : MemState) : Steady l s { s with mm := x } := .of_eq rfl rfl rfl

theorem Steady.trans (h : Steady l s t) (k : Steady l t u) : Steady l s u :=
  ⟨k.frm.trans h.frm, fun o ho => (k.regs o ho).trans (h.regs o ho), h.flt.trans k.flt⟩

theorem Steady.curMode_eq (h : Steady l s t) : curMode t = curMode s := fld_congr (h.regs _ (by decide)) _ _

theorem Aside.steady (h : Aside l s t) : Steady l s t := ⟨h.frm, h.regs, h.flt⟩

theorem closeReg_stores {o : Nat} (h : closeReg o = true) : storeReg o = false := by
  by_contra hf
  simp only [Bool.not_eq_false, storeReg, Bool.or_eq_true, decide_eq_true_eq] at hf
  rcases hf with ((((rfl | rfl) | rfl) | rfl) | rfl) | rfl <;> exact absurd h (by decide)

theorem Steady.of_beside (h : Beside s t) : Steady l s t := ⟨h.frm, fun o ho => h.regs o (closeReg_stores ho), .of_eq h.flt⟩

theorem Steady.ite {c : Prop} [Decidable c] (h : Steady l s t) (k : Steady l s u) : Steady l s (if c then t else u) := by
  split
  · exact h
  · exact k

theorem Steady.forAll {α : Type} {f : State → α → State} (s : State) (r : List α) (h : ∀ u, ∀ x ∈ r, Steady l u (f u x)) :
    Steady l s (forAll r f s) := forAll_induct (.refl s) fun u x hx hu => hu.trans (h u x hx)

theorem Steady.arrive (s : State) {code cls : Nat} (mas : BitVec 4) (h : (cls, code) ∈ l) (hc : cls ≤ 1) (hn : code < 2 ^ 16) :
    Steady l s (arrive code cls mas s) := by
  refine ⟨rfl, fun o ho => getReg_putFld_ne _ _ _ _ ?_, rfl, _, rfl, ?_⟩
  · rintro rfl
    obtain rfl | rfl : cls = 0 ∨ cls = 1 := by omega
    · exact absurd ho (by decide)
    · exact absurd ho (by decide)
  · intro a ha
    rw [List.mem_singleton.mp ha]
    have h1 : (Fin.ofNat 4 cls).val = cls := by simp only [Fin.ofNat]; omega
    have h2 : (BitVec.ofNat 16 code).toNat = code := by rw [BitVec.toNat_ofNat, Nat.mod_eq_of_lt hn]
    exact ⟨rfl, by simpa only [h1, h2] using h⟩

end

section
variable (s : State)

theorem foundBad_steady (a : Nat) (mas : BitVec 4) : Steady storeFaults s (foundBad a 0x0702 mas s) := by
  unfold foundBad
  extract_lets w _ t
  have ht : Steady storeFaults s t := by
    refine .ite (.refl s) (.trans ?_ (Aside.bump _ (o := Reg.MEM_UECNT) 31 0 (by decide)).steady)
    exact .of_eq rfl rfl rfl
  have he : Steady storeFaults t (errAddr w true t) :=
    ((Aside.putNat t _ (by decide)).trans (.putNat _ _ (by decide))).steady
  exact ((ht.trans he).trans (.of_beside (refreshKnown_beside _))).trans (.arrive _ mas (by decide) (by omega) (by omega))

theorem abandonJoin_steady : Steady storeFaults s (abandonJoin s) := by
  have h : Steady storeFaults s { s with hasp := { s.hasp with mirroring := false, finalDue := false, mirrorQ := 0, copyDirty := [],
                                                                rejoin := some s.raw } } := .of_eq rfl rfl rfl
  exact (h.trans (.arrive _ 0xF (by decide) (by omega) (by omega))).trans (Aside.putFld _ _ _ _ (by decide)).steady

theorem mirrorWrite_steady (a : Nat) (b : List Byte) : Steady storeFaults s (mirrorWrite a b s) := by
  unfold mirrorWrite
  extract_lets _ t
  have ht : Steady storeFaults s t := .of_eq rfl rfl rfl
  exact .ite (.ite (ht.trans (abandonJoin_steady t)) ht) (.refl s)

theorem healWords_steady (a n : Nat) : Steady storeFaults s (healWords a n s) := by
  refine .ite (.refl s) (.trans ?_ (.of_beside (refreshKnown_beside _)))
  exact .of_eq rfl rfl rfl

theorem storeRaw_steady (a : Nat) (b : List Byte) : Steady storeFaults s (storeRaw a b s) := by
  have hp : Steady storeFaults s (putBytes s a b) := by
    rw [putBytes_only]
    exact .of_eq rfl rfl rfl
  have h := (hp.trans (mirrorWrite_steady _ a b)).trans (healWords_steady _ a b.length)
  exact .ite h (h.trans (.forAll _ _ fun u _ _ => .of_beside (touchPage_beside _ u)))

theorem storeWhole_steady (mas : BitVec 4) (a : Nat) (b : List Byte) : Steady storeFaults s (storeWhole mas a b s) :=
  .ite (storeRaw_steady s a b) ((storeRaw_steady s _ _).trans (.forAll _ _ fun u w _ => foundBad_steady u w mas))

theorem judgeWear_steady (was : Bool) : Steady storeFaults s (judgeWear was s) :=
  .ite (Aside.raise s (by decide) (by omega) (by omega)).steady (.refl s)

theorem judgeForced_steady : Steady storeFaults s (judgeForced s) := .setMm s _

theorem cleanPage_steady (p : Nat) : Steady storeFaults s (cleanPage p s) :=
  ((Steady.setMm s _).trans (judgeForced_steady _)).trans (judgeWear_steady _ _)

theorem awaitPage_steady (a : Nat) : Steady storeFaults s (awaitPage a s) := by
  have hraise (t : State) (x : MemState) : Steady storeFaults t (raise 0x0710 0 { t with mm := x }) :=
    (Steady.setMm t x).trans (Aside.raise _ (by decide) (by omega) (by omega)).steady
  unfold awaitPage
  extract_lets t _ u
  have ht : Steady storeFaults s t := (Aside.bump s (o := Reg.RET_STALLCNT) 31 0 (by decide)).steady
  have hu : Steady storeFaults s u := .ite ht (ht.trans (hraise t _))
  refine .ite (.refl s) ?_
  split
  · exact hu.trans (cleanPage_steady u _)
  · exact hu

theorem masterStore_steady (m : Master) (a : Nat) (b : List Byte) : Steady storeFaults s (masterStore m a b s) := by
  unfold masterStore
  generalize b.length / 4096 + 2 = n
  induction n generalizing s a b with
  | zero => exact .refl s
  | succ n ih =>
    rw [storePages]
    exact .ite (.refl s) (((awaitPage_steady s a).trans (storeWhole_steady _ _ _ _)).trans (ih _ _ _))

theorem ckStore_steady (a : Nat) (b : List Byte) : Steady storeFaults s (ckStore a b s) :=
  (Steady.of_beside (watchWrite_keeps .m0 a b [] s).1).trans (masterStore_steady _ .m0 a b)

end

end Sys2Proof.Machine
end

section
/-! The commit close (R72, R153): which image FRM takes, and which faults the close leaves. -/

namespace Sys2Proof.Machine

/-- The leaves at CC: suspended in RUN, else given to nothing. -/
def restedLeaves (c : Close) : State :=
  setReplaying none (if curMode c.s = modeRun && !c.hold then suspendInsts c.s
    else { c.s with frm := { c.s.frm with running := none, compute := false } })

/-- FRM takes the commit's image. -/
def closeFrm (c : Close) (img : SMap Word) (f : FrmState) : FrmState :=
  { f with last := img, runImg := if c.run && !c.fail then img else f.runImg, lastFail := c.fail, phase := 2, trapStop := false,
           latchCc := mergeLatch f.latchCc f.latch, latch := [],
           insts := f.insts.map fun p => (p.1, { p.2 with seen := p.2.st = .ended }) }

/-- The window shows the image, and the checkpoint of CC(n) is written. -/
def writtenCommit (n : Nat) (img : SMap Word) (reqs : List (List Byte)) (s : State) : State :=
  let s := takeCheckpoint n (rewriteWindow clsQX clsQW img s)
  writeCheckpoint n (putReg s Reg.HASP_DIGEST (digestOf s reqs (ckCrc s)))

/-- The bytes of a bank that CC(n) writes. -/
def writtenBank (n : Nat) (s : State) : State :=
  let a := bankAt (ckBase s) (nextBank s)
  let head := ckHead s
  let slots := (ckSlots s).map fun t => (0x400 + t * 0x200, slotBytes s t)
  let crc := ckCrc s
  let s := ckStore (a + 0xC) (leBytes 4 0) s
  let s := ckStore (a + 0x10) head s
  let s := forAll slots (fun s p => ckStore (a + p.1) p.2 s) s
  ckStore a (leBytes 8 n ++ leBytes 4 crc.toNat) s

/-- FRM keeps what bank `k` does not hold. -/
def markBank (k : Nat) (s : State) : State :=
  let m : Mark := { insts := s.frm.insts, last := s.frm.last, runImg := s.frm.runImg, lastFail := s.frm.lastFail }
  touchFrm frmBuffers (touchFrm (frmMarks k) { s with frm := { s.frm with marks := alPut s.frm.marks k m } })

theorem writeCheckpoint_eq (n : Nat) (s : State) : writeCheckpoint n s = markBank (nextBank s) (writtenBank n s) := rfl

/-- The commit of CC(n). -/
def closeCommit (n : Nat) (c : Close) (img : SMap Word) (reqs : List (List Byte)) (forced : List Nat) (s : State) : Commit :=
  { frame := n, img := img, reqs := reqs, fail := c.fail, run := c.run && !c.fail, forced := forced, hold := c.hold,
    edges := if c.fail || c.hold then [] else commitEdges (periodOf s (n + 1)) img forced s }

/-- The commit waits for its checkpoint, and in RUN the pending flags release their tasks. -/
def pendCommit (n : Nat) (k : Commit) (s : State) : State :=
  let s := { s with frm := { s.frm with pendingCommit := some k },
                    spec := if s.spec.frame = some n then { s.spec with frame := none, work := [] } else s.spec }
  if curMode s = modeRun then releaseFlags (ccAt s n) s else s

theorem commitFrame_eq (n : Nat) (late : List (Nat × Inst)) (s : State) : commitFrame n late s =
    let c := closeFrame n late (noteSlack s)
    let s := restedLeaves c
    let forces := if c.hold then [] else outputForces s
    let img := applyOver c.img forces
    let (good, s) := checkRequests c.reqs s
    let (reqs, s) := admitRequests good [] s
    let s := outputHits s.frm.last img s
    let s := writtenCommit n img reqs (putFrm s (closeFrm c img s.frm))
    pendCommit n (closeCommit n c img reqs (forces.map (·.1)) s) s := rfl

/-- A commit with no requests to check. -/
theorem commitFrame_plain (n : Nat) (late : List (Nat × Inst)) {s : State} {c : Close} (hc : closeFrame n late (noteSlack s) = c)
    (hq : c.reqs = []) (hh : c.hold = false) : commitFrame n late s =
    let s := restedLeaves c
    let img := applyOver c.img (outputForces s)
    let s := outputHits s.frm.last img s
    let s := writtenCommit n img [] (putFrm s (closeFrm c img s.frm))
    pendCommit n (closeCommit n c img [] ((outputForces (restedLeaves c)).map (·.1)) s) s := by
  rw [commitFrame_eq, hc]
  simp only [hq, hh, checkRequests, admitRequests, Bool.false_eq_true, if_false]

/-- `t` holds FLT from `s` with faults of stores, and of FRM the image and the pending flags of `s`. -/
structure Carries (s t : State) : Prop where
  last : t.frm.last = s.frm.last
  pend : t.frm.pend = s.frm.pend
  flt : Gains storeFaults s.flt t.flt

section
variable {s t u : State}

theorem Carries.trans (h : Carries s t) (k : Carries t u) : Carries s u :=
  ⟨k.last.trans h.last, k.pend.trans h.pend, h.flt.trans k.flt⟩

theorem Steady.carries (h : Steady storeFaults s t) : Carries s t := ⟨by rw [h.frm], by rw [h.frm], h.flt⟩

theorem Carries.putFrm (s : State) (f : FrmState) (hl : f.last = s.frm.last) (hp : f.pend = s.frm.pend) : Carries s (putFrm s f) :=
  ⟨hl, hp, .refl _⟩

theorem Steady.setLeaf (s : State) (x : LeafState) : Steady storeFaults s { s with leaf := x } := .of_eq rfl rfl rfl

theorem takeCheckpoint_steady (n : Nat) (s : State) : Steady storeFaults s (takeCheckpoint n s) := by
  unfold takeCheckpoint
  split
  · exact .refl s
  · refine .forAll s _ fun u l _ => ?_
    exact .setLeaf u _

theorem writtenBank_steady (n : Nat) (s : State) : Steady storeFaults s (writtenBank n s) := by
  unfold writtenBank
  extract_lets a head slots crc s1 s2 s3
  exact (((ckStore_steady s _ _).trans (ckStore_steady s1 _ _)).trans (.forAll s2 _ fun u p _ => ckStore_steady u _ _)).trans
    (ckStore_steady s3 _ _)

theorem markBank_carries (k : Nat) (s : State) : Carries s (markBank k s) := by
  have hm (f : FrmState) (hl : f.last = s.frm.last) (hp : f.pend = s.frm.pend) : Carries s (touchFrm frmBuffers (touchFrm (frmMarks k)
      { s with frm := f })) :=
    (Carries.putFrm s f hl hp).trans (Steady.of_beside (beside_trans (touchFrm_beside _ _) (touchFrm_beside _ _))).carries
  exact hm _ rfl rfl

theorem writeCheckpoint_carries (n : Nat) (s : State) : Carries s (writeCheckpoint n s) := by
  rw [writeCheckpoint_eq]
  exact (writtenBank_steady n s).carries.trans (markBank_carries _ _)

theorem writtenCommit_carries (n : Nat) (img : SMap Word) (reqs : List (List Byte)) (s : State) :
    Carries s (writtenCommit n img reqs s) := by
  unfold writtenCommit
  extract_lets t
  have h : Steady storeFaults s t := (Steady.of_beside (rewriteWindow_beside s _ _ img)).trans (takeCheckpoint_steady n _)
  exact (h.trans (Aside.putReg t (o := Reg.HASP_DIGEST) _ (by decide)).steady).carries.trans (writeCheckpoint_carries n _)

/-- No flag waits, so none releases a task. -/
theorem pendCommit_carries (n : Nat) (k : Commit) (h : s.frm.pend = []) : Carries s (pendCommit n k s) := by
  unfold pendCommit
  extract_lets _ _ t
  have ht : Carries s t := ⟨rfl, rfl, .refl _⟩
  split
  · have hp : t.frm.pend = [] := h
    rw [releaseFlags, hp]
    exact ht
  · exact ht

theorem setReplaying_aside (o : Option Nat) (s : State) : Aside storeFaults s (setReplaying o s) := by
  have h := Aside.setSpec (l := storeFaults) s { s.spec with replaying := o }
  unfold setReplaying
  extract_lets _ t
  split
  · exact h.trans (.putFld t _ _ _ (by decide))
  · split
    · exact h.trans (.putFld t _ _ _ (by decide))
    · exact h

theorem restedLeaves_carries (c : Close) (hh : haspState c.s ≠ 2) :
    Carries c.s (restedLeaves c) ∧ (restedLeaves c).mem = c.s.mem := by
  have hframe (f : FrmState) (hl : f.last = c.s.frm.last) (hp : f.pend = c.s.frm.pend) :
      Carries c.s (setReplaying none { c.s with frm := f }) ∧ (setReplaying none { c.s with frm := f }).mem = c.s.mem := by
    have h := setReplaying_aside none { c.s with frm := f }
    exact ⟨(Carries.putFrm c.s f hl hp).trans h.steady.carries, h.mem⟩
  have hs : sendPos c.s = c.s := by rw [sendPos, if_neg hh]
  unfold restedLeaves suspendInsts
  simp only [hs, ite_self]
  split
  · exact hframe _ rfl rfl
  · exact hframe _ rfl rfl

theorem outputHits_carries (old new : SMap Word) (s : State) : Carries s (outputHits old new s) := by
  have hfold (ks : List Nat) (u : State) : Carries u (ks.foldl (fun s k => specHit k true s) u) := by
    have h := forAll_induct (p := fun v => Carries u v) (l := ks) (f := fun s k => specHit k true s) ⟨rfl, rfl, .refl _⟩
      fun v k _ hv => hv.trans ⟨rfl, rfl, .refl _⟩
    exact h
  unfold outputHits
  extract_lets ks
  refine .trans ?_ (hfold ks _)
  unfold when
  split
  · exact ⟨rfl, rfl, .refl _⟩
  · exact ⟨rfl, rfl, .refl _⟩

/-- A commit without requests takes the image of its close under the forces. -/
theorem commitFrame_last (n : Nat) (late : List (Nat × Inst)) {c : Close} (hc : closeFrame n late (noteSlack s) = c)
    (hq : c.reqs = []) (hh : c.hold = false) (hs : haspState c.s ≠ 2) (hp : c.s.frm.pend = []) :
    (commitFrame n late s).frm.last = applyOver c.img (outputForces c.s) ∧ Gains storeFaults c.s.flt (commitFrame n late s).flt := by
  rw [commitFrame_plain n late hc hq hh]
  obtain ⟨hr, hm⟩ := restedLeaves_carries c hs
  have hforces : outputForces (restedLeaves c) = outputForces c.s := forcesOf_of_mem hm _
  extract_lets r img h w
  have hhits : Carries r h := outputHits_carries _ _ r
  have hw : Carries (putFrm h (closeFrm c img h.frm)) w := writtenCommit_carries n img [] _
  have hpend : w.frm.pend = [] := hw.pend.trans (hhits.pend.trans (hr.pend.trans hp))
  have hk := pendCommit_carries n (closeCommit n c img [] ((outputForces r).map (·.1)) w) hpend
  exact ⟨hk.last.trans (hw.last.trans (by rw [← hforces]; rfl)), ((hr.flt.trans hhits.flt).trans hw.flt).trans hk.flt⟩

/-! The commit in RUN (R72). -/

theorem dropInsts_eq (l : List (Nat × Inst)) (s : State) :
    ∃ i, forAll l (fun s p => dropInst p.1 s) s = putFrm s { s.frm with insts := i } := by
  refine forAll_induct (p := fun t => ∃ i, t = putFrm s { s.frm with insts := i }) ⟨s.frm.insts, rfl⟩ ?_
  rintro _ p _ ⟨i, rfl⟩
  exact ⟨_, rfl⟩

/-- In RUN, with no overrun, trap or halt, the buffers of the instances that are due go over the image of the frame before. -/
theorem closeFrame_run (n : Nat) (hm : curMode s = modeRun) (ht : s.frm.trapStop = false) (hd : s.leaf.dbgHalt = false) :
    ∃ i, closeFrame n [] s =
      { img := (commitInsts s (s.frm.insts.filter fun p => p.2.deadline ≤ n && p.2.st = .ended) s.frm.last).1
        reqs := (commitInsts s (s.frm.insts.filter fun p => p.2.deadline ≤ n && p.2.st = .ended) s.frm.last).2
        run := true, s := putFrm s { s.frm with insts := i } } := by
  have h0 : modeRun ≠ modeStop := by decide
  have h2 : modeRun ≠ modeHold := by decide
  obtain ⟨i, hi⟩ := dropInsts_eq (s.frm.insts.filter fun p => p.2.deadline ≤ n && p.2.st = .ended) s
  refine ⟨i, ?_⟩
  rw [← hi]
  simp [closeFrame, closeRun, haltedNow, hm, ht, hd, h0, h2, logOverrun, firstOf, forAll]

/-- SLACK and its minimum are all that the execution's end changes. -/
theorem noteSlack_eq (s : State) : ∃ f r, noteSlack s = { s with free := f, regs := r } ∧
    ∀ o, o ≠ Reg.FRM_SLACK → o ≠ Reg.FRM_SLACKMIN → smGet regReset r o = getReg s o := by
  have hslack (u : State) (v w : Nat) (hu : ∃ f, u = { s with free := f }) :
      ∃ f r, (if curMode (putNat u Reg.FRM_SLACK v) = modeRun
        then putNat (putNat u Reg.FRM_SLACK v) Reg.FRM_SLACKMIN w else putNat u Reg.FRM_SLACK v) = { s with free := f, regs := r } ∧
        ∀ o, o ≠ Reg.FRM_SLACK → o ≠ Reg.FRM_SLACKMIN → smGet regReset r o = getReg s o := by
    obtain ⟨f, rfl⟩ := hu
    refine ⟨f, (if curMode (putNat { s with free := f } Reg.FRM_SLACK v) = modeRun
      then putNat (putNat { s with free := f } Reg.FRM_SLACK v) Reg.FRM_SLACKMIN w
      else putNat { s with free := f } Reg.FRM_SLACK v).regs, ?_, fun o h k => ?_⟩
    · split
      · rfl
      · rfl
    · split
      · exact (getReg_putNat_ne _ _ k).trans (getReg_putNat_ne _ _ h)
      · exact getReg_putNat_ne _ _ h
  unfold noteSlack
  extract_lets reached
  cases reached with
  | true => exact hslack s 0 _ ⟨s.free, rfl⟩
  | false => exact hslack _ _ _ ⟨_, rfl⟩

theorem noteSlack_aside (s : State) : Aside storeFaults s (noteSlack s) := by
  obtain ⟨f, r, h, hr⟩ := noteSlack_eq s
  rw [h]
  refine ⟨rfl, rfl, rfl, fun o ho => hr o ?_ ?_, .refl _⟩
  · rintro rfl
    exact absurd ho (by decide)
  · rintro rfl
    exact absurd ho (by decide)

end

end Sys2Proof.Machine
end

section
/-! O28: a commit in the order of a priority that moves (R72). -/

namespace Sys2Proof.Machine

section
variable {s : State}

theorem getReg_noteSlack {o : Nat} (h : o ≠ Reg.FRM_SLACK) (k : o ≠ Reg.FRM_SLACKMIN) : getReg (noteSlack s) o = getReg s o := by
  obtain ⟨f, r, he, hr⟩ := noteSlack_eq s
  rw [he]
  exact hr o h k

theorem noteSlack_leaf : (noteSlack s).leaf = s.leaf := by
  obtain ⟨f, r, he, -⟩ := noteSlack_eq s
  rw [he]

theorem commitInsts_noteSlack (l : List (Nat × Inst)) (out : SMap Word) : commitInsts (noteSlack s) l out = commitInsts s l out := by
  have hp (t : Nat) : taskPrio (noteSlack s) t = taskPrio s t := by
    refine fld_congr (getReg_noteSlack ?_ ?_) _ _
    · simp only [taskCfg, Reg.FRM_EVTCFG, Reg.FRM_TASKCFG, Reg.FRM_SLACK]
      split <;> omega
    · simp only [taskCfg, Reg.FRM_EVTCFG, Reg.FRM_TASKCFG, Reg.FRM_SLACKMIN]
      split <;> omega
  have hb : commitsBefore (noteSlack s) = commitsBefore s := by
    funext a b
    simp only [commitsBefore, hp]
  rw [commitInsts, hb, ← commitInsts]

theorem wardTicks_hasp (n : Nat) (s : State) : (wardTicks n s).hasp = s.hasp := by
  unfold wardTicks
  split
  · rfl
  · split
    · rfl
    · rfl

theorem advanceTo_takeover (r : Nat) (s : State) : (advanceTo r s).hasp.takeoverFrame = s.hasp.takeoverFrame := by
  have hmiss (k : Nat) : (if k = 0 then s else bumpBy s Reg.HASP_HBMISS 15 0 k).hasp = s.hasp := by
    split
    · rfl
    · rfl
  rw [advanceTo]
  split
  · rfl
  · exact (congrArg HaspState.takeoverFrame ((wardTicks_hasp _ _).trans (hmiss _)) :)

/-- A SOLO module commits at CC. -/
theorem commitClose_solo (hh : haspState s = 0) (hk : s.frm.ticking = true) (hw : s.pads.pfailB = true) (hp : s.frm.phase = 1)
    (hf : s.hasp.takeoverFrame = none) (ha : s.leaf.actHalt = false) :
    commitClose s = commitFrame (fnum s) (overruns (fnum s) (advanceToTime (ccAt s (fnum s)) s)) (advanceToTime (ccAt s (fnum s)) s) := by
  have hadv : Apart s (advanceToTime (ccAt s (fnum s)) s) := advanceTo_apart _ _
  have hleads : haspState (advanceToTime (ccAt s (fnum s)) s) = 0 := (Aside.of_apart (l := []) hadv).hasp_eq.trans hh
  have hact : (advanceToTime (ccAt s (fnum s)) s).leaf.actHalt = false := (congrArg LeafState.actHalt hadv.leaf :).trans ha
  have htake : (advanceToTime (ccAt s (fnum s)) s).hasp.takeoverFrame = none := (advanceTo_takeover _ s).trans hf
  have hlate (n : Nat) : (if s.hasp.takeoverFrame = some n then 6000 else 0) = 0 := by rw [hf, if_neg (by simp)]
  rw [commitClose, if_neg (by simp [hk, hp, hw, hh])]
  simp only [hlate, Nat.add_zero]
  generalize advanceToTime (ccAt s (fnum s)) s = t at hleads hact htake
  have hown : ownAgain (fnum s) t = t := by rw [ownAgain, if_neg (by simp [htake])]
  have hclose : closeLate (fnum s) t = overruns (fnum s) t := by rw [closeLate, htake, if_neg (by simp)]
  rw [if_neg (by simp [hact]), if_pos (by simp [leads, hleads]), hown, hclose]

end

/-- A task index that no task has: the register of its priority would be WARD.STAT. -/
def strayTask : Nat := 32 + (Reg.WARD_STAT - Reg.FRM_EVTCFG 0) / 0x10

/-- An instance that has ended, with one write of QX point 0 in its buffer. -/
def writerOf (v : Word) : Inst := { ctx := { pc := 0 }, st := .ended, deadline := 0, relTime := 0, relT0 := 0, qw := [(pkey clsQX 0, v)] }

/-- A SOLO module in RUN half a frame before CC, whose ward moves WARD.STAT as time goes on to CC. -/
def overtaken : State :=
  { State.reset with
    boot := { State.reset.boot with por := false }, pads := {}, raw := 1800000
    regs := [(Reg.FRM_MODE, 1), (Reg.FRM_FNUM_LO, 4), (Reg.FRM_TASKCFG 0, 0), (Reg.WARD_STAT, 0x00FFFF01)]
    ward := { counting := true, period := 100000 }
    frm := { ticking := true, first := false, phase := 1, insts := [(0, writerOf 1), (strayTask, writerOf 0)] } }

theorem overtaken_undisturbed : Undisturbed overtaken where
  roomy := ⟨⟨by decide, rfl⟩, by decide⟩
  solo := by decide
  ticking := rfl
  first := rfl
  power := rfl
  order := rfl
  change := ⟨rfl, rfl, rfl⟩
  period := rfl
  step := ⟨rfl, rfl⟩
  rate := by decide
  debug := ⟨rfl, rfl⟩
  told := rfl
  calm := by decide

/-- Before the ward moves on, the stray task commits last; when CC has come, first. -/
theorem overtaken_commits :
    (commitInsts overtaken overtaken.frm.insts []).1 = [] ∧
      commitInsts (advanceToTime (ccAt overtaken (fnum overtaken)) overtaken) overtaken.frm.insts [] = ([(pkey clsQX 0, 1)], []) := by
  decide

theorem overtaken_closes : (commitClose overtaken).frm.last = [(pkey clsQX 0, 1)] ∧
    Gains storeFaults overtaken.flt (commitClose overtaken).flt := by
  have hadv : Apart overtaken (advanceToTime (ccAt overtaken (fnum overtaken)) overtaken) := advanceTo_apart _ _
  obtain ⟨-, himg⟩ := overtaken_commits
  rw [commitClose_solo (by decide) rfl rfl rfl rfl rfl]
  generalize advanceToTime (ccAt overtaken (fnum overtaken)) overtaken = t at hadv himg ⊢
  have ha : Aside storeFaults overtaken (noteSlack t) := (Aside.of_apart hadv).trans (noteSlack_aside t)
  have hlate : overruns (fnum overtaken) t = [] := by
    rw [overruns, hadv.frm]
    decide
  have hdbg : (noteSlack t).leaf.dbgHalt = false := by
    rw [noteSlack_leaf, hadv.leaf]
    rfl
  have hdue : ((noteSlack t).frm.insts.filter fun p => p.2.deadline ≤ fnum overtaken && p.2.st = .ended) = overtaken.frm.insts := by
    rw [ha.frm]
    decide
  have hcommit : commitInsts (noteSlack t) overtaken.frm.insts (noteSlack t).frm.last = ([(pkey clsQX 0, 1)], []) := by
    rw [commitInsts_noteSlack, ha.frm]
    exact himg
  have hforces : outputForces (noteSlack t) = [] := (forcesOf_of_mem ha.mem _).trans (by decide)
  obtain ⟨i, hc⟩ := closeFrame_run (s := noteSlack t) (fnum overtaken) (ha.curMode_eq.trans (by decide)) (by rw [ha.frm]; rfl) hdbg
  rw [hdue, hcommit] at hc
  have hh : haspState (noteSlack t) ≠ 2 := by
    rw [ha.hasp_eq]
    decide
  have hp : (noteSlack t).frm.pend = [] := by
    rw [ha.frm]
    rfl
  obtain ⟨hlast, hgain⟩ := commitFrame_last _ _ hc rfl rfl hh hp
  rw [hlate]
  exact ⟨hlast.trans (congrArg (applyOver _) hforces), ha.flt.trans hgain⟩

/-- Refutes O28: the model commits the buffers in the order of the priorities at CC, the statement in that of the state before the
close. They part for a task index that no task has, which no hypothesis excludes: the register that stands as its priority is
WARD.STAT, which the ward moves on the way to CC. -/
theorem not_commitClosed : ¬ Obligations.CommitClosed := by
  unfold Obligations.CommitClosed
  intro h
  have hcall : exec .commitClose overtaken = act overtaken commitClose := rfl
  obtain ⟨u, hu, -, -, -, hlast, -⟩ := (h overtaken overtaken_undisturbed ⟨rfl, rfl, rfl⟩ rfl rfl rfl rfl (by decide)).1 (by decide)
  obtain ⟨hclose, hgain⟩ := overtaken_closes
  have hnoted := hgain.settled rfl (by decide) (by decide) (by decide)
  rw [hcall, act_runs _ (by decide)] at hu
  obtain rfl : settleFaults (commitClose overtaken) = u := by injection hu
  rw [hnoted.frm_eq, hclose] at hlast
  exact absurd hlast (by decide)

end Sys2Proof.Machine
end

section
/-! SUPPORT. What shows of a tick (R54, R58, R75), and what leaves it alone: the units that a tick can reach, and the actions of
FLT. -/

namespace Sys2Proof.Machine

/-- The registers of the frame's number, of the mode and the pair, and of the lanes' states. -/
def shownReg (o : Nat) : Bool :=
  o = Reg.FRM_FNUM_LO || o = Reg.FRM_FNUM_HI || o = Reg.FRM_MODE || o = Reg.HASP_STAT ||
    (0x100000 ≤ o && o < 0x1C0000 && o % 0x10000 = 4)

/-- What shows of a tick is in `t` as in `s`, but for the mode: the frame's number and phase, the request that waits, the map, the
pair's and the lanes' states; and idle leaves are given nothing. -/
structure Stays (s t : State) : Prop where
  phase : t.frm.phase = s.frm.phase
  due : t.frm.reqDue = s.frm.reqDue
  iomap : t.frm.iomap = s.frm.iomap
  idle : s.frm.compute = false → s.frm.running = none → t.frm.compute = false ∧ t.frm.running = none
  fnum : fnum t = fnum s
  hasp : haspState t = haspState s
  lanes : ∀ n, n < 12 → laneStat t n = laneStat s n

/-- What shows of a tick is in `t` as in `s`. -/
structure Shows (s t : State) : Prop extends Stays s t where
  mode : curMode t = curMode s

section
variable {s t u : State}

theorem Stays.trans (h : Stays s t) (k : Stays t u) : Stays s u where
  phase := k.phase.trans h.phase
  due := k.due.trans h.due
  iomap := k.iomap.trans h.iomap
  idle hc hr := by
    obtain ⟨h1, h2⟩ := h.idle hc hr
    exact k.idle h1 h2
  fnum := k.fnum.trans h.fnum
  hasp := k.hasp.trans h.hasp
  lanes n hn := (k.lanes n hn).trans (h.lanes n hn)

theorem Shows.trans (h : Shows s t) (k : Shows t u) : Shows s u := ⟨h.toStays.trans k.toStays, k.mode.trans h.mode⟩

/-- FRM's state stands, and the registers that show. -/
theorem Shows.of_frm (hf : t.frm = s.frm) (hr : ∀ o, shownReg o = true → getReg t o = getReg s o) : Shows s t where
  phase := by rw [hf]
  due := by rw [hf]
  iomap := by rw [hf]
  idle hc hn := by rw [hf]; exact ⟨hc, hn⟩
  fnum := pair_congr (hr _ (by decide)) (hr _ (by decide))
  hasp := fld_congr (hr _ (by decide)) _ _
  lanes n hn := by
    refine fld_congr (hr _ ?_) _ _
    simp only [shownReg, Bool.or_eq_true, Bool.and_eq_true, decide_eq_true_eq]
    simp only [Reg.LANE_STAT]
    omega
  mode := fld_congr (hr _ (by decide)) _ _

theorem getReg_of_regs (h : t.regs = s.regs) (o : Nat) : getReg t o = getReg s o := by rw [getReg, h, ← getReg]

/-- A unit without a register that shows. -/
theorem Shows.unit (hf : t.frm = s.frm) (hr : t.regs = s.regs) : Shows s t := .of_frm hf fun o _ => getReg_of_regs hr o

theorem Shows.putDio (s : State) (n : Nat) (c : DioCh) : Shows s (putDio s n c) := .unit rfl rfl
theorem Shows.putAo (s : State) (n : Nat) (c : AoCh) : Shows s (putAo s n c) := .unit rfl rfl
theorem Shows.putLane (n : Nat) (l : LaneState) (s : State) : Shows s (putLane n l s) := .unit rfl rfl
theorem Shows.setFlt (s : State) (x : FltState) : Shows s { s with flt := x } := .unit rfl rfl
theorem Shows.setHasp (s : State) (x : HaspState) : Shows s { s with hasp := x } := .unit rfl rfl
theorem Shows.setPads (s : State) (x : PadState) : Shows s { s with pads := x } := .unit rfl rfl
theorem Shows.setLeaf (s : State) (x : LeafState) : Shows s { s with leaf := x } := .unit rfl rfl
theorem Shows.setSpec (s : State) (x : SpecState) : Shows s { s with spec := x } := .unit rfl rfl
theorem Shows.setMm (s : State) (x : MemState) : Shows s { s with mm := x } := .unit rfl rfl

theorem Shows.refl (s : State) : Shows s s := .unit rfl rfl

theorem Shows.ite {c : Prop} [Decidable c] (h : Shows s t) (k : Shows s u) : Shows s (if c then t else u) := by
  split
  · exact h
  · exact k

theorem Shows.forAll {α : Type} {f : State → α → State} (s : State) (r : List α) (h : ∀ u, ∀ x ∈ r, Shows u (f u x)) :
    Shows s (forAll r f s) := forAll_induct (.refl s) fun u x hx hu => hu.trans (h u x hx)

theorem Shows.foldl {α : Type} {f : State → α → State} (h : ∀ u x, Shows u (f u x)) (r : List α) (s : State) :
    Shows s (r.foldl f s) := .forAll s r fun u x _ => h u x

theorem Shows.putReg (s : State) {o : Nat} (v : Word) (h : shownReg o = false) : Shows s (putReg s o v) := by
  refine .of_frm rfl fun o' ho => getReg_putReg_ne s v ?_
  rintro rfl
  rw [h] at ho
  cases ho

theorem Shows.putFld (s : State) {o : Nat} (hi lo x : Nat) (h : shownReg o = false) : Shows s (putFld s o hi lo x) := .putReg s _ h
theorem Shows.putFlag (s : State) {o : Nat} (i : Nat) (b : Bool) (h : shownReg o = false) : Shows s (putFlag s o i b) := .putReg s _ h
theorem Shows.putNat (s : State) {o : Nat} (v : Nat) (h : shownReg o = false) : Shows s (putNat s o v) := .putReg s _ h
theorem Shows.bump (s : State) {o : Nat} (hi lo : Nat) (h : shownReg o = false) : Shows s (bump s o hi lo) := .putReg s _ h
theorem Shows.bumpBy (s : State) {o : Nat} (hi lo n : Nat) (h : shownReg o = false) : Shows s (bumpBy s o hi lo n) := .putReg s _ h

theorem Shows.putPair (s : State) {o : Nat} (v : Nat) (h : shownReg o = false) (k : shownReg (o + 4) = false) :
    Shows s (putPair s o v) := (Shows.putNat s _ h).trans (.putNat _ _ k)

/-- Registers of the field units lie above all that show. -/
theorem shownReg_field {o : Nat} (h : 0x1C0000 ≤ o) : shownReg o = false := by
  simp only [shownReg, Bool.or_eq_false_iff, Bool.and_eq_false_iff, decide_eq_false_iff_not]
  simp only [Reg.FRM_FNUM_LO, Reg.FRM_FNUM_HI, Reg.FRM_MODE, Reg.HASP_STAT]
  omega

theorem closeReg_shown {o : Nat} (h : shownReg o = true) : closeReg o = true := by
  simp only [shownReg, closeReg, Bool.or_eq_true, Bool.and_eq_true, decide_eq_true_eq] at h ⊢
  simp only [Reg.FRM_FNUM_LO, Reg.FRM_FNUM_HI, Reg.FRM_MODE, Reg.HASP_STAT, Reg.FRM_SLACK, Reg.FRM_SLACKMIN] at h ⊢
  omega

theorem Steady.shows {l : List (Nat × Nat)} (h : Steady l s t) : Shows s t := .of_frm h.frm fun o ho => h.regs o (closeReg_shown ho)

theorem Shows.of_apart (h : Apart s t) : Shows s t := (Aside.of_apart (l := []) h).steady.shows

theorem Shows.of_beside (h : Beside s t) : Shows s t := (Steady.of_beside (l := []) h).shows

theorem Shows.of_noted (h : Noted s t) : Shows s t := by
  refine .of_frm h.frm_eq fun o ho => h.regs o ?_
  by_contra hf
  simp only [Bool.not_eq_false, faultReg, Bool.or_eq_true, decide_eq_true_eq] at hf
  rcases hf with (((((rfl | rfl) | rfl) | rfl) | rfl) | rfl) | rfl <;> exact absurd ho (by decide)

/-- A flag of HASP.STAT above the state. -/
theorem Shows.haspFlag (s : State) {i : Nat} (b : Bool) (h : 3 ≤ i) (hi : i ≤ 31) : Shows s (Machine.putFlag s Reg.HASP_STAT i b) where
  phase := rfl
  due := rfl
  iomap := rfl
  idle hc hn := ⟨hc, hn⟩
  fnum := pair_congr (getReg_putFlag_ne _ _ _ (by decide)) (getReg_putFlag_ne _ _ _ (by decide))
  hasp := fld_putFlag_other _ _ _ _ _ _ _ hi (by omega) (.inr (.inl (by omega)))
  lanes n _ := fld_congr (getReg_putFlag_ne _ _ _ (by simp only [Reg.LANE_STAT, Reg.HASP_STAT]; omega)) _ _
  mode := fld_congr (getReg_putFlag_ne _ _ _ (by decide)) _ _

/-- What FRM keeps beside the phase, the request, the map and the leaves. -/
theorem Shows.setFrm (s : State) (x : FrmState) (hp : x.phase = s.frm.phase) (hd : x.reqDue = s.frm.reqDue)
    (hm : x.iomap = s.frm.iomap)
    (hi : s.frm.compute = false → s.frm.running = none → x.compute = false ∧ x.running = none) : Shows s { s with frm := x } where
  phase := hp
  due := hd
  iomap := hm
  idle := hi
  fnum := rfl
  hasp := rfl
  lanes _ _ := rfl
  mode := rfl

/-! The channels, the output enable and the fail states. -/

theorem dioStat_field (n : Nat) : shownReg (dioStat n) = false := shownReg_field (by simp only [dioStat, Reg.DIO_CH_STAT]; omega)

theorem refreshDio_shows (s : State) (n : Nat) : Shows s (refreshDio s n) :=
  .ite (.refl s) ((Shows.putDio s n _).trans (.putFlag _ _ _ (dioStat_field n)))

theorem dioCommand_shows (s : State) (n : Nat) (v : Bool) : Shows s (dioCommand s n v) :=
  (Shows.putFlag s _ _ (dioStat_field n)).trans (refreshDio_shows _ n)

theorem refreshAo_shows (s : State) (n : Nat) : Shows s (refreshAo s n) := by
  have hst : shownReg (Reg.AO_CH_STAT n) = false := shownReg_field (by simp only [Reg.AO_CH_STAT]; omega)
  have hcur : shownReg (Reg.AO_CH_CUR n) = false := shownReg_field (by simp only [Reg.AO_CH_CUR]; omega)
  have hput (d : Nat) : Shows s (aoPut n d s) := by
    have hc : Shows s (if fld s (Reg.AO_CH_CUR n) 19 0 = d then s else putAo s n { aoCh s n with curAt := some s.raw }) :=
      .ite (.refl s) (.putAo s n _)
    exact hc.trans (.putFld _ _ _ _ hcur)
  exact ((((hput _).trans (.putFlag _ _ _ hst)).trans (.putFlag _ _ _ hst)).trans (.putFlag _ _ _ hst)).trans (.putFlag _ _ _ hst)

theorem captureFail_shows (n : Nat) (s : State) : Shows s (captureFail n s) := .putAo s n _

theorem requeue_shows (n : Nat) (s : State) : Shows s (requeue n s) := by
  have hq (n i v : Nat) (s : State) : Shows s (putQState n i v s) := (storeWhole_steady s _ _ _).shows.trans (Shows.putLane _ _ _)
  unfold requeue
  refine .trans ?_ (Shows.putLane _ _ _)
  split
  · exact hq _ _ _ s
  · exact .refl s

theorem refreshEnable_shows (s : State) : Shows s (refreshEnable s) := by
  have hflags (on : Bool) : Shows s (putFlag (putFlag (putFlag s Reg.HASP_STAT 8 s.pads.boltOut) Reg.HASP_STAT 9 s.pads.boltIn)
      Reg.HASP_STAT 10 on) :=
    ((Shows.haspFlag s _ (by omega) (by omega)).trans (.haspFlag _ _ (by omega) (by omega))).trans (.haspFlag _ _ (by omega) (by omega))
  unfold refreshEnable
  extract_lets on was t u
  have ht : Shows s t := hflags on
  have hu : Shows s u := .ite ht (ht.trans (.forAll t _ fun v n _ => requeue_shows n v))
  exact .ite ht ((hu.trans (.forAll u _ fun v n _ => refreshDio_shows v n)).trans (.forAll _ _ fun v n _ => refreshAo_shows v n))

theorem setBolt_shows (b : Bool) (s : State) : Shows s (setBolt b s) := (Shows.setPads s _).trans (refreshEnable_shows _)

theorem setHwEnable_shows (b : Bool) (s : State) : Shows s (setHwEnable b s) := (Shows.setPads s _).trans (refreshEnable_shows _)

theorem failNow_shows (s : State) : Shows s (failNow s) := by
  have hdio (s : State) (n : Nat) (c : DioCh) (b : Bool) : Shows s (dioCommand (putDio s n c) n b) :=
    (Shows.putDio s n c).trans (dioCommand_shows _ n b)
  have hao (s : State) (n : Nat) (c : AoCh) : Shows s (refreshAo (captureFail n (putAo s n c)) n) :=
    ((Shows.putAo s n c).trans (captureFail_shows n _)).trans (refreshAo_shows _ n)
  exact (Shows.forAll s _ fun u n _ => hdio u n _ _).trans (.forAll _ _ fun u n _ => hao u n _)

theorem releaseFail_shows (s : State) : Shows s (releaseFail s) := .setFrm s _ rfl rfl rfl fun hc hn => ⟨hc, hn⟩

/-! The actions of FLT. -/

theorem haltLeaves_shows (s : State) : Shows s (haltLeaves s) := by
  have hset := (setReplaying_aside none s).steady.shows
  unfold haltLeaves
  extract_lets t
  have hhalt (x : LeafState) (y : FrmState) (hp : y.phase = t.frm.phase) (hd : y.reqDue = t.frm.reqDue) (hm : y.iomap = t.frm.iomap)
      (hi : y.compute = false ∧ y.running = none) : Shows t { t with leaf := x, frm := y } :=
    (Shows.setFrm t y hp hd hm fun _ _ => hi).trans (.setLeaf _ x)
  exact hset.trans (hhalt _ _ rfl rfl rfl ⟨rfl, rfl⟩)

theorem haltWard_shows (s : State) : Shows s (haltWard s) := .ite (.refl s) (.putFld s _ _ _ (by decide))

theorem sendRec_shows (r : String) (s : State) : Shows s (sendRec r s) := .unit rfl rfl

theorem stopHb_shows (s : State) : Shows s (stopHb s) := by
  have hsent : Shows s (if s.flt.fabDead then s else sendRec "YIELD" s) := .ite (.refl s) (sendRec_shows _ s)
  exact .ite (hsent.trans (.setHasp _ _)) (.refl s)

theorem f3Action_shows (code : Nat) (s : State) : Shows s (f3Action code s) := by
  unfold f3Action
  extract_lets s1 s2 s3 s4 f s5 s6
  have h2 : Shows s s2 := (((Shows.putFlag s _ _ (by decide)).trans (.putFlag _ _ _ (by decide))).trans
    (.putNat _ _ (by decide))).trans (.putFlag _ _ _ (by decide))
  have h3 : Shows s2 s3 := (((haltLeaves_shows s2).trans (haltWard_shows _)).trans (stopHb_shows _)).trans (.setHasp _ _)
  have h4 : Shows s3 s4 := (setBolt_shows _ s3).trans (setHwEnable_shows _ _)
  have h5 : Shows s4 s5 := (Shows.setFlt s4 _).trans (releaseFail_shows _)
  have h6 : Shows s5 s6 := .putFld s5 _ _ _ (by decide)
  have h := ((h2.trans h3).trans h4).trans h5
  exact .ite h ((h.trans h6).trans (.setFlt s6 _))

theorem f2Action_shows (code : Nat) (s : State) : Shows s (f2Action code s) := by
  unfold f2Action cdrCourse
  extract_lets s1 h f s2 s3 s4
  have h1 : Shows s s1 := (((Shows.putFlag s _ _ (by decide)).trans (.putNat _ _ (by decide))).trans (haltLeaves_shows _)).trans
    (haltWard_shows _)
  have h2 : Shows s1 s2 := .setFlt s1 _
  have h3 : Shows s2 s3 := stopHb_shows s2
  exact .ite ((((h1.trans h2).trans h3).trans (.setHasp s3 _)).trans ((setBolt_shows _ _).trans (releaseFail_shows _)))
    ((h1.trans h2).trans ((failNow_shows _).trans (releaseFail_shows _)))

theorem classAction_shows (code cls : Nat) (s : State) : Shows s (classAction code cls s) :=
  .ite (.refl s) (.ite (f3Action_shows code s) (.ite (.ite (.ite (f3Action_shows code s) (f2Action_shows code s))
    (f3Action_shows code s)) (.refl s)))

theorem report_shows (code : Nat) {cls : Nat} (mas : BitVec 4) (s : State) (h : cls ≤ 3) : Shows s (report code cls mas s) := by
  unfold report
  extract_lets esc t
  have hc (c : Nat) (hc : c ≤ 3) : shownReg (Reg.FLT_CNT c) = false := by
    interval_cases c <;> decide
  have ht : Shows s t := .bump s _ _ (hc _ (by split <;> omega))
  exact (ht.trans (.setFlt t _)).trans (classAction_shows code cls _)

theorem raise_shows (code : Nat) {cls : Nat} (s : State) (h : cls ≤ 3) : Shows s (raise code cls s) := report_shows code _ s h

theorem enqueue_shows (e : FltEntry) (s : State) : Shows s (enqueue e s).1 := by
  have hq (q : List FltEntry) : Shows s { s with flt := { s.flt with queue := q } } := .setFlt s _
  have hlost (t : State) : Shows t (bumpLost t) := .bump t _ _ (by decide)
  simp only [enqueue]
  split
  · split
    · exact hq _
    · split
      · exact hq _
      · split
        · exact (hq _).trans (hlost _)
        · exact hlost s
  · exact hq _

theorem takeArrival_shows (s : State) (a : Arrival) : Shows s (takeArrival s a) := by
  have hentry : Shows s (if a.code.toNat = codeQueueFull then (s, Entered.merged) else
      enqueue (fltEntry a.code.toNat (if a.esc then 3 else a.cls.val) a.esc a.master s) s).1 := by
    split
    · exact .refl s
    · exact enqueue_shows _ s
  have hcause (b : Bool) (v : Nat) (t : State) : Shows t (if b then cause v t else t) := .ite (.of_noted (noted_cause _ _)) (.refl t)
  have hfire (l : List Nat) (t : State) : Shows t (l.foldl (fun s n =>
      if (queueFiring n a.code 7 s).2 = true then (queueFiring n a.code 7 s).1 else raise codeDrop 0 (queueFiring n a.code 7 s).1) t) :=
    .of_noted (firings_noted l a.code t).1
  unfold takeArrival
  simp only []
  generalize (if a.code.toNat = codeQueueFull then (s, Entered.merged) else
      enqueue (fltEntry a.code.toNat (if a.esc then 3 else a.cls.val) a.esc a.master s) s) = p at hentry ⊢
  exact .ite (((hentry.trans (hcause _ _ _)).trans (hfire _ _)).trans (raise_shows _ _ (by omega)))
    ((hentry.trans (hcause _ _ _)).trans (hfire _ _))

theorem settleFaults_shows (s : State) : Shows s (settleFaults s) := by
  have harr (s : State) : Shows s { s with flt := { s.flt with arrived := [] } } := .setFlt s _
  unfold settleFaults
  generalize 4 = n
  induction n generalizing s with
  | zero => exact harr s
  | succ n ih =>
    unfold takeArrivals
    exact .ite (.refl s) (((harr s).trans (.foldl takeArrival_shows _ _)).trans (ih _))

end

end Sys2Proof.Machine
end

section
/-! SUPPORT. What shows of a tick, where run-ahead work is taken up and tasks are released (R61, R63, R76, R134). -/

namespace Sys2Proof.Machine

section
variable {s t u : State}

/-! Memory under the leaves (R220, R222). -/

theorem wordLost_shows (w : Nat) (s : State) : Shows s (wordLost w s) :=
  (Shows.setSpec s _).trans (.forAll _ _ fun u _ _ => .setSpec u _)

theorem applyInject_shows (m : Master) (a n : Nat) (s : State) : Shows s (applyInject m a n s) := by
  have hecc (e : Ecc) (s : State) : Shows s (putEcc s a e) := .unit rfl rfl
  have hwhen (c : Bool) (s : State) : Shows s (when c (wordLost a) s) := .ite (wordLost_shows a s) (.refl s)
  unfold applyInject
  split
  · exact .ite (((Shows.setMm s _).trans (hecc _ _)).trans (hwhen _ _)) (.refl s)
  · exact .refl s

theorem undoStore_shows (s : State) : Shows s (undoStore s) := by
  have hfree : Shows s { s with free := s.free + 2 } := .unit rfl rfl
  rw [undoStore_eq]
  exact hfree.trans (storeRaw_steady _ _ _).shows

theorem undoLog_shows (m : Master) (a : Nat) (s : State) : Shows s (undoLog m a s) := by
  have hentry : Shows s (let s := { undoStore s with mm := { (undoStore s).mm with undo := 
      { addr := a / 8 * 8, old := if eccAt s (a / 8 * 8) = .double then none else some (memBytes s (a / 8 * 8) 8) } :: (undoStore s).mm.undo } }
      putFld s Reg.MEM_UNDOPEAK 22 0 (max (fld s Reg.MEM_UNDOPEAK 22 0) s.mm.undo.length)) :=
    ((undoStore_shows s).trans (.setMm _ _)).trans (.putFld _ _ _ _ (by decide))
  exact .ite (.refl s) (.ite (.ite (.refl s) hentry) (.setMm s _))

theorem memStoreAt_shows (m : Master) (a : Nat) (b : List Byte) (l : List Nat) (s : State) : Shows s (memStoreAt m a b l s).2 := by
  unfold memStoreAt
  split
  · exact (foundBad_steady s a _).shows
  · split
    · exact raise_shows _ s (by omega)
    · exact ((((awaitPage_steady s a).shows.trans (undoLog_shows m a _)).trans (.of_beside (watchWrite_keeps m a b l _).1)).trans
        (storeRaw_steady _ a b).shows).trans (applyInject_shows m a _ _)

/-! Instances. -/

/-- FRM's instances, and what waits to be released. -/
theorem Shows.setTasks (s : State) (x : FrmState)
    (h : { x with
      insts := s.frm.insts
      later := s.frm.later
      pend := s.frm.pend
      latch := s.frm.latch
      latchCc := s.frm.latchCc
      noEntry := s.frm.noEntry
      trapStop := s.frm.trapStop
      holdSkipped := s.frm.holdSkipped } = s.frm) : Shows s { s with frm := x } :=
  .setFrm s x (congrArg FrmState.phase h :) (congrArg FrmState.reqDue h :) (congrArg FrmState.iomap h :) fun hc hn =>
    ⟨(congrArg FrmState.compute h :).trans hc, (congrArg FrmState.running h :).trans hn⟩

theorem putInst_shows (t : Nat) (i : Inst) (s : State) : Shows s (putInst t i s) := .setTasks s _ rfl

theorem sendPos_shows (s : State) : Shows s (sendPos s) := .ite (sendRec_shows _ s) (.refl s)

theorem sendPos_frm (s : State) : (sendPos s).frm = s.frm := by
  unfold sendPos
  split
  · rfl
  · rfl

theorem takeFree_shows (s : State) : Shows s (takeFree s).2 := .unit rfl rfl

theorem runTime_shows (t : Nat) (s : State) : Shows s (runTime t s).2 := by
  unfold runTime
  split
  · split
    · exact takeFree_shows s
    · exact .refl s
  · exact .refl s

theorem noteRun_shows (t : Nat) (s : State) : Shows s (noteRun t s) := by
  have hshow (o : Nat) (h : 0x30100 ≤ o ∧ o < 0x30400) : shownReg o = false := by
    simp only [shownReg, Bool.or_eq_false_iff, Bool.and_eq_false_iff, decide_eq_false_iff_not]
    simp only [Reg.FRM_FNUM_LO, Reg.FRM_FNUM_HI, Reg.FRM_MODE, Reg.HASP_STAT]
    omega
  have hrun := runTime_shows t s
  unfold noteRun
  by_cases ht : isEvent t
  · simp only [ht, if_true]
    exact hrun
  · have ht32 : t < 32 := by simpa [isEvent] using ht
    simp only [ht]
    exact (hrun.trans (.putNat _ _ (hshow _ (by simp only [Reg.FRM_TASKRUN]; omega)))).trans
      (.putNat _ _ (hshow _ (by simp only [Reg.FRM_TASKMAX]; omega)))

theorem pointWrite_shows (t k : Nat) (v : Word) (l : List Nat) (s : State) : Shows s (pointWrite t k v l s).2 := by
  unfold pointWrite
  split
  · split
    · exact putInst_shows _ _ s
    · exact .refl s
  · exact memStoreAt_shows _ _ _ _ s

theorem landWrite_shows (t : Nat) (w : Nat × DWord × Nat) (s : State) : Shows s (landWrite t w s) :=
  .ite (pointWrite_shows _ _ _ _ s) (memStoreAt_shows _ _ _ _ s)

theorem landWrites_shows (t : Nat) (l : List (Nat × DWord × Nat)) (s : State) : Shows s (landWrites t l s) := by
  induction l generalizing s with
  | nil => exact .refl s
  | cons w r ih => exact .ite (landWrite_shows t w s) ((landWrite_shows t w s).trans (ih _))

theorem retireSeg_shows (t : Nat) (g : Seg) (s : State) : Shows s (retireSeg t g s) := by
  unfold retireSeg
  extract_lets s1 _ s2 s3 s4
  have h1 : Shows s s1 := landWrites_shows t g.writes s
  have h2 : Shows s1 s2 := by
    simp only [s2]
    split
    · exact putInst_shows t _ s1
    · exact .refl s1
  have h3 : Shows s2 s3 := .ite ((sendPos_shows s2).trans (noteRun_shows t _)) (.refl s2)
  have h4 : Shows s3 s4 := .putPair s3 _ (by decide) (by decide)
  exact (((h1.trans h2).trans h3).trans h4).trans (.setSpec s4 _)

/-! Run-ahead work (R131 to R135). -/

theorem endWork_shows (t : Nat) (s : State) : Shows s (endWork t s) := .setSpec s _

theorem dropWrites_shows (l : List Seg) (s : State) : Shows s (dropWrites l s) := .forAll s _ fun u _ _ => .setSpec u _

theorem countReplay_shows (t n : Nat) {c : Nat} (s : State) (hc : c ≤ 5) : Shows s (countReplay t c n s) := by
  have hcause : shownReg (Reg.SPEC_CAUSE c) = false := by
    interval_cases c <;> decide
  unfold countReplay
  extract_lets s1 s2
  have h1 : Shows s s1 := .bumpBy s _ _ _ hcause
  have h2 : Shows s1 s2 := .putPair s1 _ (by decide) (by decide)
  exact (h1.trans h2).trans (.setSpec s2 _)

theorem setReplaying_shows (o : Option Nat) (s : State) : Shows s (setReplaying o s) := (setReplaying_aside o s).steady.shows

theorem processSegs_shows (t : Nat) (l : List Seg) (b : Bool) (s : State) : Shows s (processSegs t l b s) := by
  induction l generalizing b s with
  | nil => exact endWork_shows t s
  | cons g r ih =>
    unfold processSegs
    split
    · exact endWork_shows t s
    · rename_i i _
      split
      · exact ((countReplay_shows t _ s (by decide)).trans (endWork_shows t _)).trans (dropWrites_shows _ _)
      · have hp : Shows s (if recentChange s then verdictReady s else (true, s)).2 := by
          split
          · exact takeFree_shows s
          · exact .refl s
        generalize (if recentChange s then verdictReady s else (true, s)) = p at hp
        obtain ⟨ready, u⟩ := p
        simp only
        split
        · exact (hp.trans (retireSeg_shows t g u)).trans (ih false _)
        · rename_i c hc
          have hle : c ≤ 5 := by
            split_ifs at hc <;> cases hc <;> decide
          have hcount := hp.trans (countReplay_shows t 1 u hle)
          generalize countReplay t c 1 u = v at hcount
          exact ((hcount.trans (.setSpec v _)).trans (dropWrites_shows _ _)).trans (setReplaying_shows _ _)

theorem takeUp_shows (t : Nat) (s : State) : Shows s (takeUp t s) := by
  unfold takeUp
  split
  · exact (setReplaying_shows none s).trans (processSegs_shows _ _ _ _)
  · exact .refl s

/-! The order of execution (R66, R67). -/

/-- While the leaves compute, what they are given does not show. -/
theorem startInst_shows (t : Nat) (i : Inst) (s : State) (hc : s.frm.compute = true) : Shows s (startInst t i s) := by
  have hbusy (v : State) (hv : v.frm.compute = true) : Shows v { v with frm := { v.frm with running := some t } } :=
    .setFrm v _ rfl rfl rfl fun h => absurd hv (by rw [h]; decide)
  have hpos : (if i.started then sendPos s else s).frm = s.frm := by
    split
    · exact sendPos_frm s
    · rfl
  unfold startInst
  extract_lets s1 s2 _ s3
  have h1 : Shows s s1 := .ite (sendPos_shows s) (.refl s)
  have h2 : Shows s1 s2 := putInst_shows t _ s1
  have hc2 : s2.frm.compute = true := (congrArg FrmState.compute hpos :).trans hc
  have h := (h1.trans h2).trans (hbusy s2 hc2)
  exact .ite (h.trans (setReplaying_shows _ _)) (h.trans (takeUp_shows t _))

theorem scheduleN_shows (n : Nat) (s : State) : Shows s (scheduleN n s) := by
  induction n generalizing s with
  | zero => exact .refl s
  | succ n ih =>
    unfold scheduleN
    split
    · exact .refl s
    · rename_i hl
      have hc : s.frm.compute = true := by
        simp only [leavesRun, Bool.not_eq_true', Bool.not_eq_false, Bool.and_eq_true] at hl
        exact hl.1.1.1
      split
      · exact .setFrm s _ rfl rfl rfl fun h => absurd hc (by rw [h]; decide)
      · rename_i k i _
        split
        · rename_i w j _
          split
          · exact .refl s
          · have hput : Shows s (if j.st = .running then sendPos (putInst w { j with st := .ready } s) else s) :=
              .ite ((putInst_shows w _ s).trans (sendPos_shows _)) (.refl s)
            have hcp : (if j.st = .running then sendPos (putInst w { j with st := .ready } s) else s).frm.compute = true := by
              split
              · rw [sendPos_frm]
                exact hc
              · exact hc
            generalize (if j.st = .running then sendPos (putInst w { j with st := .ready } s) else s) = v at hput hcp
            have hcr : (setReplaying none v).frm.compute = true := by rw [(setReplaying_aside none v).frm, hcp]
            exact ((hput.trans (setReplaying_shows none v)).trans (startInst_shows k i _ hcr)).trans (ih _)
        · exact (startInst_shows k i s hc).trans (ih _)

theorem schedule_shows (s : State) : Shows s (schedule s) := scheduleN_shows 49 s

/-! Releases (R61, R62, R470). -/

theorem noEntry_shows (t : Nat) (s : State) : Shows s (noEntry t s) := by
  unfold noEntry
  split
  · exact .refl s
  · exact (Shows.setTasks s { s.frm with noEntry := t :: s.frm.noEntry } rfl).trans (raise_shows _ _ (by omega))

theorem releaseTask_shows (t n d r : Nat) (f : Bool) (s : State) : Shows s (releaseTask t n d r f s) := by
  unfold releaseTask
  split
  · exact (putInst_shows t _ s).trans (sendPos_shows _)
  · exact noEntry_shows t s

theorem eventRelease_shows (t n a : Nat) (s : State) : Shows s (eventRelease t n a s) := by
  unfold eventRelease
  split
  · exact noEntry_shows t s
  · split
    · exact (releaseTask_shows t n _ _ true s).trans (schedule_shows _)
    · exact .setTasks s _ rfl

/-- A counter of merged triggers, also one of no task: none of them shows. -/
theorem bumpMerged_shows (t n : Nat) (s : State) : Shows s (bumpMerged t n s) := by
  refine .bumpBy s _ _ _ ?_
  simp only [shownReg, Bool.or_eq_false_iff, Bool.and_eq_false_iff, decide_eq_false_iff_not]
  simp only [Reg.FRM_FNUM_LO, Reg.FRM_FNUM_HI, Reg.FRM_MODE, Reg.HASP_STAT, Reg.FRM_EVTSTAT]
  omega

theorem setPend_shows (t : Nat) (s : State) : Shows s (setPend t s) := by
  unfold setPend
  split
  · exact bumpMerged_shows t 1 s
  · exact .setTasks s _ rfl

theorem takeTrigger_shows (t a : Nat) (s : State) : Shows s (takeTrigger t a s) := by
  rw [takeTrigger]
  exact .ite (.refl s) (.ite (setPend_shows t s) (.ite (noEntry_shows t s) (.ite (setPend_shows t s)
    (.ite (bumpMerged_shows t 1 s) (eventRelease_shows t _ a s)))))

theorem releaseFlags_shows (a : Nat) (s : State) : Shows s (releaseFlags a s) := by
  refine .forAll s _ fun u t _ => ?_
  unfold releaseFlag
  split
  · exact .refl u
  · have hpend : Shows u { u with frm := { u.frm with pend := u.frm.pend.filter (· ≠ t) } } := .setTasks u _ rfl
    exact .ite (hpend.trans (eventRelease_shows t _ a _)) hpend

/-! A change of the mode (R76). -/

theorem stopAll_shows (s : State) : Shows s (stopAll s) := by
  have hstop (t : Nat) (s : State) : Shows s (stopInst t s) := by
    have hdrop (u : State) : Shows u (dropInst t u) := .setTasks u _ rfl
    unfold stopInst
    split
    · refine .trans ?_ (hdrop _)
      split
      · exact .refl s
      · exact noteRun_shows t s
    · exact .refl s
  have hrest (u : State) (x : FrmState) (hp : x.phase = u.frm.phase) (hd : x.reqDue = u.frm.reqDue) (hm : x.iomap = u.frm.iomap)
      (hc : x.compute = u.frm.compute) (hr : x.running = none) : Shows u { u with frm := x } :=
    .setFrm u x hp hd hm fun h _ => ⟨hc.trans h, hr⟩
  unfold stopAll
  extract_lets u
  have hu : Shows s u := .forAll s _ fun u t _ => hstop t u
  refine (hu.trans (hrest u _ ?_ ?_ ?_ ?_ ?_)).trans (setReplaying_shows none _) <;> rfl

/-- The mode is `v`, and all else that shows of a tick is as it was. -/
structure Sets (v : Nat) (s t : State) : Prop extends Stays s t where
  mode : curMode t = v

theorem refreshHalted_shows (s : State) : Shows s (refreshHalted s) := .putFlag s _ _ (by decide)

theorem showMode_sets {v : Nat} (hv : v < 4) (s : State) : Sets v s (showMode v s) := by
  obtain ⟨-, -, hmode⟩ := showMode_kept s hv
  refine ⟨?_, hmode⟩
  unfold showMode
  split
  · exact (Shows.refl s).toStays
  · have hput : Stays s (putFld s Reg.FRM_MODE 1 0 v) := by
      have hreg (o : Nat) (h : o ≠ Reg.FRM_MODE) : getReg (putFld s Reg.FRM_MODE 1 0 v) o = getReg s o := getReg_putFld_ne _ _ _ _ h
      exact ⟨rfl, rfl, rfl, fun hc hn => ⟨hc, hn⟩, pair_congr (hreg _ (by decide)) (hreg _ (by decide)),
        fld_congr (hreg _ (by decide)) _ _,
        fun n _ => fld_congr (hreg _ (by simp only [Reg.LANE_STAT, Reg.FRM_MODE]; omega)) _ _⟩
    have hcause : Shows (putFld s Reg.FRM_MODE 1 0 v) (cause 5 (putFld s Reg.FRM_MODE 1 0 v)) := .of_noted (noted_cause 5 _)
    exact ((hput.trans hcause.toStays).trans (refreshHalted_shows _).toStays).trans (Shows.of_apart (wardMode_apart _)).toStays

theorem holdTriggers_shows (s : State) : Shows s (holdTriggers s) := by
  have hlater : Shows s { s with frm := { s.frm with later := [] } } := .setTasks s _ rfl
  exact hlater.trans (.forAll _ _ fun u t _ => setPend_shows t u)

theorem Sets.ite {v : Nat} {c : Prop} [Decidable c] (h : c → Sets v s t) (k : ¬ c → Sets v s u) : Sets v s (if c then t else u) := by
  split
  · exact h ‹_›
  · exact k ‹_›

theorem Sets.trans {v : Nat} (h : Sets v s t) (k : Shows t u) : Sets v s u := ⟨h.toStays.trans k.toStays, k.mode.trans h.mode⟩

theorem changeMode_sets (n : Nat) {v : Nat} (hv : v ≤ 2) (s : State) : Sets v s (changeMode n v s) := by
  have hmode (u : State) (h : Shows s u) : Sets v s (showMode v u) := by
    have hset := showMode_sets (v := v) (by omega) u
    exact ⟨h.toStays.trans hset.toStays, hset.mode⟩
  have hfrm (x : FrmState) (hp : x.phase = s.frm.phase) (hd : x.reqDue = s.frm.reqDue) (hm : x.iomap = s.frm.iomap)
      (hc : x.compute = s.frm.compute) (hr : s.frm.running = none → x.running = none) : Shows s { s with frm := x } :=
    .setFrm s x hp hd hm fun h hn => ⟨hc.trans h, hr hn⟩
  unfold changeMode
  refine .ite (fun h => ⟨(Shows.refl s).toStays, h⟩) fun _ => .ite (fun _ => hmode _ (stopAll_shows s)) fun _ =>
    .ite (fun _ => hmode _ (.trans (hfrm _ ?_ ?_ ?_ ?_ ?_) (holdTriggers_shows _))) fun _ => ?_
  · rfl
  · rfl
  · rfl
  · rfl
  · exact fun _ => rfl
  · have hrun (u : State) (h : Sets v s u) : Sets v s (if curMode s = modeHold then releaseFlags (tickAt u n) u else u) :=
      .ite (fun _ => h.trans (releaseFlags_shows _ u)) fun _ => h
    refine hrun _ (hmode _ (.ite (hfrm _ ?_ ?_ ?_ ?_ ?_) (.refl s)))
    · rfl
    · rfl
    · rfl
    · rfl
    · exact id

end

end Sys2Proof.Machine
end

section
/-! SUPPORT. What shows of a tick, at its units: the inputs and outputs, the releases, and the windows of the lanes (R58, R60, R61,
R279). -/

namespace Sys2Proof.Machine

section
variable {s t : State}

/-! The inputs and outputs. -/

theorem Shows.of_spec (h : SpecOnly s t) : Shows s t := by
  refine .of_frm (congrArg State.frm h.rest :) fun o ho => h.regs o ?_
  simp only [shownReg, Bool.or_eq_true, Bool.and_eq_true, decide_eq_true_eq] at ho
  simp only [Reg.FRM_FNUM_LO, Reg.FRM_FNUM_HI, Reg.FRM_MODE, Reg.HASP_STAT] at ho
  omega

theorem newFrame_shows (s : State) : Shows s (newFrame s) := by
  have hunits (a : MemState) (b : SMap DioCh) (c : SMap AoCh) : Shows s { s with mm := a, dio := b, ao := c } := .unit rfl rfl
  have hlane (u : State) (n v : Nat) (l : LaneState) (c : Prop) [Decidable c] (hn : n < 12) :
      Shows u (putFld (if c then u else putLane n l u) (Reg.TIME_LANE_STAT n) 13 8 v) := by
    refine (Shows.ite (.refl u) (.putLane n l u)).trans (.putFld _ _ _ _ (shownReg_field ?_))
    simp only [Reg.TIME_LANE_STAT]
    omega
  exact (hunits _ _ _).trans (.forAll _ _ fun u n hn => hlane u n _ _ _ (List.mem_range.mp hn))

theorem triggerTask_shows (t a : Nat) (s : State) : Shows s (triggerTask t a s) := by
  have hlatch (u : State) : Shows u (latchTrigger t u) := .setTasks u _ rfl
  unfold triggerTask
  split
  · exact .refl s
  · extract_lets u v
    have hu : Shows s u := .ite (.refl s) (hlatch s)
    have hv : Shows u v := .ite (sendRec_shows _ u) (.refl u)
    exact (hu.trans hv).trans (.ite (.refl v) (takeTrigger_shows t a v))

theorem filteredChange_shows (n : Nat) (v : Bool) (a : Nat) (s : State) : Shows s (filteredChange n v a s) := by
  have hst := dioStat_field n
  have hcnt : shownReg (dioEdgeCnt n) = false := shownReg_field (by simp only [dioEdgeCnt, Reg.DIO_CH_EDGECNT]; omega)
  have hpair (u : State) (x y : Nat) : Shows u (putPair (putPair u (dioFiltT n) x) (dioRawT n) y) :=
    (Shows.putPair u _ (shownReg_field (by simp only [dioFiltT, Reg.DIO_CH_FILTT_LO]; omega))
      (shownReg_field (by simp only [dioFiltT, Reg.DIO_CH_FILTT_LO]; omega))).trans
      (.putPair _ _ (shownReg_field (by simp only [dioRawT, Reg.DIO_CH_RAWT_LO]; omega))
        (shownReg_field (by simp only [dioRawT, Reg.DIO_CH_RAWT_LO]; omega)))
  unfold filteredChange
  extract_lets st sel s1 s2 s3 s4
  have h1 : Shows s s1 := .putFlag s _ _ hst
  have h2 : Shows s1 s2 := .ite (.putNat s1 _ hcnt) (.refl s1)
  have h3 : Shows s2 s3 := hpair s2 _ _
  have h4 : Shows s3 s4 := .ite (.refl s3) (.putFlag s3 _ _ hst)
  exact (((h1.trans h2).trans h3).trans h4).trans (.ite (.refl s4) (.forAll s4 _ fun u e _ => triggerTask_shows _ a u))

theorem filterTo_shows (n a : Nat) (s : State) : Shows s (filterTo n a s) := by
  have hst := dioStat_field n
  unfold filterTo
  extract_lets c p k steps cnt cnt' s1 s2
  have h1 : Shows s s1 := (Shows.putFld s _ _ _ hst).trans (.putFlag _ _ _ hst)
  have h2 : Shows s s2 := h1.trans (.putDio s1 n _)
  clear_value steps s2
  split
  · exact .refl s
  · cases steps with
    | none => exact h2
    | some m => exact .ite (h2.trans (filteredChange_shows n _ _ s2)) h2

theorem settleEdges_shows (s : State) : Shows s (settleEdges s) := by
  have hdio (u : State) (n : Nat) (c : DioCh) (v : Word) (r : Bool) : Shows u (dioTake n v r (putDio u n c)) := by
    refine (Shows.putDio u n c).trans (.ite (.trans (.ite (.putDio _ n _) (.refl _)) (dioCommand_shows _ n _)) (.refl _))
  have hao (u : State) (n : Nat) (c : AoCh) (v : Word) (r : Bool) : Shows u (aoTake n v r false false (putAo u n c)) :=
    ((Shows.putAo u n c).trans (.putAo _ n _)).trans (refreshAo_shows _ n)
  exact (Shows.forAll s _ fun u p _ => hdio u p.1 _ _ _).trans (.forAll _ _ fun u p _ => hao u p.1 _ _ _)

/-- Where nothing is mapped, the output that a tick takes has no edges to place. -/
theorem takeOutput_shows (h : s.frm.iomap = []) : Shows s (takeOutput s) := by
  have hedges := settleEdges_shows s
  have hmap : (settleEdges s).frm.iomap = [] := hedges.iomap.trans h
  unfold takeOutput
  generalize settleEdges s = u at hedges hmap
  have hplace (c : Commit) (v : State) (hv : v.frm.iomap = []) (h : Shows s v) : Shows s (placeEdges c v) := by
    have hsame : placeEdges c v = v := by simp [placeEdges, commandEntries, hv, forAll]
    rwa [hsame]
  have hfrm (x : FrmState) (hp : x.phase = u.frm.phase) (hd : x.reqDue = u.frm.reqDue) (hm : x.iomap = u.frm.iomap)
      (hc : x.compute = u.frm.compute) (hr : x.running = u.frm.running) : Shows s { u with frm := x } :=
    hedges.trans (.setFrm u x hp hd hm fun h1 h2 => ⟨hc.trans h1, hr.trans h2⟩)
  dsimp only
  split
  · exact hplace _ _ hmap (hfrm _ rfl rfl rfl rfl rfl)
  · exact hfrm _ rfl rfl rfl rfl rfl

theorem noteCheck_shows (leaf : Bool) (s : State) : Shows s (noteCheck leaf s) := .setSpec s _

theorem takeSample_shows (h : s.frm.iomap = []) : Shows s (takeSample s) := by
  have hfilt : Shows s (filtersTo s) := .forAll s _ fun u n _ => filterTo_shows n _ u
  have hmap : (filtersTo s).frm.iomap = [] := hfilt.iomap.trans h
  have hsample : localSample s = ([], filtersTo s) := by simp [localSample, hmap, forAll]
  have hset (v w : State) (m : SMap Word) (hw : Shows v w) (hf : w.frm = v.frm) :
      Shows v { w with frm := { v.frm with unforced := m } } := by
    rw [← hf]
    exact hw.trans (.setFrm w _ rfl rfl rfl fun hc hr => ⟨hc, hr⟩)
  unfold takeSample
  rw [hsample]
  generalize filtersTo s = u at hfilt
  exact hfilt.trans (.ite (.setHasp u _) (hset u _ _ (noteCheck_shows false u) rfl))

/-! The releases. -/

theorem taskStat_unshown {t : Nat} (ht : t < 32) : shownReg (Reg.FRM_TASKSTAT t) = false := by
  simp only [shownReg, Bool.or_eq_false_iff, Bool.and_eq_false_iff, decide_eq_false_iff_not]
  simp only [Reg.FRM_TASKSTAT, Reg.FRM_FNUM_LO, Reg.FRM_FNUM_HI, Reg.FRM_MODE, Reg.HASP_STAT]
  omega

theorem cyclicRelease_shows (n : Nat) {t : Nat} (ht : t < 32) (s : State) : Shows s (cyclicRelease n s t) := by
  have hskip : Shows s (bumpSkip t s) := .bump s _ _ (taskStat_unshown ht)
  have hheld (u : State) : Shows u (raise 0x0330 0 { u with frm := { u.frm with holdSkipped := true } }) :=
    (Shows.setFrm u { u.frm with holdSkipped := true } rfl rfl rfl fun hc hr => ⟨hc, hr⟩).trans (raise_shows _ _ (by decide))
  unfold cyclicRelease
  refine .ite (.refl s) (.ite ?_ (.ite ?_ (.refl s)))
  · exact hskip.trans (.ite (.refl _) (hheld _))
  · exact .ite (hskip.trans (noEntry_shows t _)) (.ite (hskip.trans (raise_shows _ _ (by decide))) (releaseTask_shows ..))

theorem cyclicReleases_shows (n : Nat) (s : State) : Shows s (cyclicReleases n s) :=
  .ite (.forAll s _ fun u _ ht => cyclicRelease_shows n (List.mem_range.mp ht) u) (.refl s)

/-! The windows of the lanes. -/

theorem windowOpens_off {n : Nat} (w : Nat) (h : onBus s n = false) : windowOpens n w s = s := by simp [windowOpens, h]

/-- Where no lane is on its bus, the window that is the whole frame opens for none. -/
theorem openWhole_shows (h : ∀ n, n < 12 → onBus s n = false) : Shows s (openWhole s) := by
  have hone (u : State) (hu : Shows s u) (n : Nat) (hn : n < 12) : Shows s (windowOpens n 63
      (if (lane u n).win.isSome then putLane n { lane u n with win := none } u else u)) := by
    have hput := hu.trans (.ite (c := (lane u n).win.isSome = true) (.putLane n { lane u n with win := none } u) (.refl u))
    rw [windowOpens_off]
    · exact hput
    · rw [onBus, hput.lanes n hn, ← onBus]
      exact h n hn
  exact forAll_induct (.refl s) fun u n hn hu => hone u hu n (List.mem_range.mp hn)

/-- R54, R58: where nothing is mapped and no lane is on its bus, the units leave what shows of a tick. -/
theorem tickUnits_shows (n : Nat) (hm : s.frm.iomap = []) (hb : ∀ n, n < 12 → onBus s n = false) : Shows s (tickUnits n s) := by
  unfold tickUnits
  extract_lets o w
  have h1 : Shows s (newFrame o) := (Shows.ite (.refl s) (.of_spec (specDiscard_only s))).trans (newFrame_shows o)
  have h2 := (h1.trans (takeOutput_shows (h1.iomap.trans hm))).trans (.setHasp _ _ : Shows _ (trimRx n _))
  have h3 := h2.trans (takeSample_shows (h2.iomap.trans hm))
  have h4 := h3.trans (cyclicReleases_shows n _)
  have hw : Shows s w := h4.trans (openWhole_shows fun k hk => by rw [onBus, h4.lanes k hk, ← onBus]; exact hb k hk)
  exact hw.trans (.ite ((sendRec_shows _ w).trans (sendRec_shows _ _)) (.refl w))

end

end Sys2Proof.Machine
end

section
/-! O26: the tick begins the next frame (R54, R58, R75). -/

namespace Sys2Proof.Machine

section
variable {s t : State}

/-! Device time. -/

/-- Device time at a tick that makes no step: FRM, FLT, the registers, and the instant stand. -/
theorem timeTick_stands (h1 : s.time.stepBy = none) (h2 : s.time.stepCmd = false) (h3 : s.time.rate = mapRate s 0) :
    CalmStep s (timeTick s) ∧ (timeTick s).hasp = s.hasp ∧ (timeTick s).frm = s.frm ∧ (timeTick s).flt = s.flt ∧
      (timeTick s).regs = s.regs ∧ (timeTick s).raw = s.raw := by
  rw [timeTick_quiet h1 h2 h3]
  exact ⟨.setUnits s _ s.mm s.spec s.hasp, rfl, rfl, rfl, rfl, rfl⟩

/-- Where device time has passed no later tick, the tick keeps its number. -/
theorem frameReached_of_now {n : Nat} (hraw : t.raw = s.raw) (hregs : t.regs = s.regs)
    (h : pair s Reg.FRM_FBASEN_LO + (now s - pair s Reg.FRM_FBASET_LO) / frameNs s ≤ n) : frameReached n t = n := by
  have hreg := getReg_of_regs hregs
  have hmap (p : Nat) : mapRaw t p = mapRaw s p ∧ mapTime t p = mapTime s p ∧ mapRate t p = mapRate s p :=
    ⟨pair_congr (hreg _) (hreg _), pair_congr (hreg _) (hreg _), congrArg BitVec.toInt (hreg _)⟩
  have hnow : now t = now s := by
    simp only [now, hraw, timeAt, (hmap _).1, (hmap _).2.1, (hmap _).2.2]
  have hframe : frameReached n t = frameReached n s := by
    rw [frameReached, hnow, frameNs, fld_congr (hreg _), pair_congr (hreg _) (hreg _), pair_congr (hreg _) (hreg _), ← frameNs,
      ← frameReached]
  rw [hframe]
  exact max_eq_left h

/-! The boundary and the request. -/

/-- At a boundary that applies nothing, FRM stands, and FRM.TIMSTAT. -/
theorem quietBoundary_kept (n : Nat) (hb : BareFrame s) (htold : s.hasp.commitsDue = []) :
    CalmStep s (firstTick n (boundary n (publishSpec n s))) ∧ (firstTick n (boundary n (publishSpec n s))).frm = s.frm ∧
      getReg (firstTick n (boundary n (publishSpec n s))) Reg.FRM_TIMSTAT = getReg s Reg.FRM_TIMSTAT := by
  have hspec := publishSpec_only n s
  generalize publishSpec n s = p at hspec
  have hcalm := CalmStep.of_spec hspec
  have hpb := hb.of_kept hcalm.kept
  have hhasp : p.hasp = s.hasp := (congrArg State.hasp hspec.rest :)
  have hfrm : p.frm = s.frm := (congrArg State.frm hspec.rest :)
  have htim := hspec.regs Reg.FRM_TIMSTAT (by decide)
  have hset (x : HaspState) : CalmStep p { p with hasp := x } ∧ ({ p with hasp := x } : State).frm = p.frm ∧
      ∀ o, getReg { p with hasp := x } o = getReg p o := ⟨.setUnits p p.time p.mm p.spec x, rfl, getReg_of_regs rfl⟩
  have hquiet := boundary_quiet n hpb.period hpb.change (by rw [hhasp, htold]) hpb.solo hpb.order
  obtain ⟨h1, h2, h3⟩ := hset { p.hasp with commitsDue := [] }
  generalize ({ p with hasp := { p.hasp with commitsDue := [] } } : State) = b at *
  rw [hquiet, firstTick_later n (hpb.of_kept h1.kept).first]
  exact ⟨hcalm.trans h1, h2.trans hfrm, (h3 _).trans htim⟩

/-- The request that came late waits for the next tick. -/
def lateDue (s : State) : State := { s with frm := { s.frm with reqDue := s.frm.reqLate, reqLate := none } }

theorem refreshPend_shows (s : State) : Shows s (refreshPend s) where
  phase := rfl
  due := rfl
  iomap := rfl
  idle hc hn := ⟨hc, hn⟩
  fnum := pair_congr (getReg_putFlag_ne _ _ _ (by decide)) (getReg_putFlag_ne _ _ _ (by decide))
  hasp := fld_congr (getReg_putFlag_ne _ _ _ (by decide)) _ _
  lanes n _ := fld_congr (getReg_putFlag_ne _ _ _ (by simp only [Reg.LANE_STAT, Reg.FRM_MODE]; omega)) _ _
  mode := (refreshPend_kept s).2.2

/-- R75: the request that waited for the tick takes effect. -/
theorem takeRequest_sets (n : Nat) {v : Nat} (hv : v ≤ 2) (hcdr : s.flt.cdr = none) (hcalm : flag s Reg.FLT_STAT 1 = false)
    (hreq : v = curMode s ∧ s.frm.reqDue = none ∨
      s.frm.reqDue = some v ∧ (v = modeRun → getReg s Reg.FRM_TIMSTAT = 0)) : Sets v (lateDue s) (takeRequest n s) := by
  have hpend := refreshPend_shows (lateDue s)
  have htim : getReg (refreshPend (lateDue s)) Reg.FRM_TIMSTAT = getReg s Reg.FRM_TIMSTAT := getReg_putFlag_ne _ _ _ (by decide)
  have hmode : curMode (lateDue s) = curMode s := rfl
  have htake : takeRequest n s = match s.frm.reqDue with
      | some v => if v = modeRun && getReg (refreshPend (lateDue s)) Reg.FRM_TIMSTAT ≠ 0 then refreshPend (lateDue s)
          else changeMode n v (refreshPend (lateDue s))
      | none => refreshPend (lateDue s) := by
    simp only [takeRequest, hcdr, hcalm, Option.isSome_none, Bool.or_self, Bool.false_eq_true, if_false, lateDue]
    rfl
  rw [htake]
  rcases hreq with ⟨rfl, hdue⟩ | ⟨hdue, hrun⟩
  · rw [hdue]
    exact ⟨hpend.toStays, hpend.mode.trans hmode⟩
  · have hok : (v = modeRun && getReg (refreshPend (lateDue s)) Reg.FRM_TIMSTAT ≠ 0) = false := by
      rw [htim]
      simpa using hrun
    have hset := changeMode_sets n hv (refreshPend (lateDue s))
    rw [hdue]
    simp only [hok, Bool.false_eq_true, if_false]
    exact ⟨hpend.toStays.trans hset.toStays, hset.mode⟩

theorem endDebugHalt_shows (s : State) : Shows s (endDebugHalt s) := by
  have hstat (u : State) : Shows u (putFlag u Reg.DBG_STAT 0 false) := .putFlag u _ _ (by decide)
  exact .ite ((((Shows.setLeaf s _).trans (hstat _)).trans (refreshHalted_shows _)).trans (.of_apart (wardRefresh_apart _))) (.refl s)

/-! The frame begins. -/

/-- R54, R58: behind the boundary, frame `n` is at its first phase, and its leaves are idle. -/
theorem tickRest_begins (n : Nat) (hm : s.frm.iomap = []) (hb : ∀ k, k < 12 → onBus s k = false) :
    fnum (tickRest n s) = n % 2 ^ 64 ∧ curMode (tickRest n s) = curMode s ∧ (tickRest n s).frm.phase = 0 ∧
      (tickRest n s).frm.compute = false ∧ (tickRest n s).frm.running = none ∧ (tickRest n s).frm.reqDue = s.frm.reqDue := by
  have hnum : fnum (frameBegun (putPair s Reg.FRM_FNUM_LO n)) = n % 2 ^ 64 := pair_putPair (s := s) _ n
  have hmode : curMode (frameBegun (putPair s Reg.FRM_FNUM_LO n)) = curMode s := fld_putPair_ne (s := s) n _ _ (by decide) (by decide)
  have hlane (k : Nat) : laneStat (frameBegun (putPair s Reg.FRM_FNUM_LO n)) k = laneStat s k :=
    fld_putPair_ne (s := s) n _ _ (by simp only [Reg.LANE_STAT, Reg.FRM_FNUM_LO]; omega)
      (by simp only [Reg.LANE_STAT, Reg.FRM_FNUM_LO]; omega)
  have hunits : Shows (frameBegun (putPair s Reg.FRM_FNUM_LO n)) (tickRest n s) :=
    tickUnits_shows n hm fun k hk => by rw [onBus, hlane, ← onBus]; exact hb k hk
  obtain ⟨hc, hr⟩ := hunits.idle rfl rfl
  exact ⟨hunits.fnum.trans hnum, hunits.mode.trans hmode, hunits.phase, hc, hr, hunits.due⟩

/-- The tick from the state that device time has reached. -/
theorem tickFrom_begins (n : Nat) {v : Nat} (hv : v ≤ 2) (hb : BareFrame s) (htold : s.hasp.commitsDue = [])
    (hcdr : s.flt.cdr = none) (hcalm : flag s Reg.FLT_STAT 1 = false) (hreach : frameReached n s = n)
    (hreq : v = curMode s ∧ s.frm.reqDue = none ∨
      s.frm.reqDue = some v ∧ (v = modeRun → getReg s Reg.FRM_TIMSTAT = 0)) :
    fnum (tickFrom n s) = n % 2 ^ 64 ∧ curMode (tickFrom n s) = v ∧ (tickFrom n s).frm.phase = 0 ∧
      (tickFrom n s).frm.compute = false ∧ (tickFrom n s).frm.running = none ∧ (tickFrom n s).frm.reqDue = s.frm.reqLate := by
  obtain ⟨hcalmStep, hfrm, htim⟩ := quietBoundary_kept n hb htold
  rw [tickFrom, hreach, filtersTo_bare hb.dio, tickBoundary]
  generalize firstTick n (boundary n (publishSpec n s)) = b at *
  have hbare := hb.of_kept hcalmStep.kept
  have hbcdr : b.flt.cdr = none := (congrArg FltState.cdr hcalmStep.kept.flt.flt :).trans hcdr
  have hbcalm : flag b Reg.FLT_STAT 1 = false := (flag_congr (hcalmStep.kept.regs _ (by decide) (by decide)) 1).trans hcalm
  have hset := (takeRequest_sets n hv hbcdr hbcalm (by rw [hfrm, htim, hcalmStep.mode]; exact hreq)).trans (endDebugHalt_shows _)
  have hmap : (endDebugHalt (takeRequest n b)).frm.iomap = [] := hset.iomap.trans hbare.iomap
  have hbus (k : Nat) (hk : k < 12) : onBus (endDebugHalt (takeRequest n b)) k = false := by
    rw [onBus, hset.lanes k hk]
    exact hbare.bus k hk
  obtain ⟨h1, h2, h3, h4, h5, h6⟩ := tickRest_begins n hmap hbus
  exact ⟨h1, h2.trans hset.mode, h3, h4, h5, by rw [h6, hset.due, lateDue, hfrm]⟩

end

/-- Settles O26: device time reaches the tick (`timeTick_quiet`), the boundary applies nothing (`quietBoundary_kept`), the request
takes effect (`takeRequest_sets`), and the frame begins (`tickRest_begins`). -/
theorem tickBeginsFrame : Obligations.TickBeginsFrame := by
  unfold Obligations.TickBeginsFrame
  intro s v h hno hb hv hreach hreq
  obtain ⟨hcdr, hrestored, -⟩ := hno
  have hnext : nextTick s = fnum s + 1 := by simp [nextTick, h.first]
  have hexec : exec .frameTick s = .next (settleFaults (frameTick s)) := act_runs _ h.roomy.1.1
  have hA : Apart s (advanceToTime (tickAt s (fnum s + 1)) s) := advanceTo_apart s _
  rw [hexec, frameTick_eq h.ticking h.solo h.power, hnext]
  generalize fnum s + 1 = n at *
  generalize advanceToTime (tickAt s n) s = a at *
  have hresume : cdrResume a = a := by simp [cdrResume, hA.flt, hrestored]
  have hrate : a.time.rate = mapRate a 0 := by
    rw [hA.time, h.rate, mapRate, mapRate, regInt, regInt, hA.regs _ (by decide)]
  obtain ⟨hcalm, hhasp, hfrm, hflt, hregs, hraw⟩ := timeTick_stands (by rw [hA.time]; exact h.step.1)
    (by rw [hA.time]; exact h.step.2) hrate
  rw [hresume]
  generalize timeTick a = t at *
  have hreg (o : Nat) (ho : passReg o = false) : getReg t o = getReg s o := (getReg_of_regs hregs o).trans (hA.regs o ho)
  have hframe : frameReached n t = n := by
    refine frameReached_of_now hraw hregs ?_
    rw [frameNs, fld_congr (hA.regs _ (by decide)), pair_congr (hA.regs _ (by decide)) (hA.regs _ (by decide)),
      pair_congr (o := Reg.FRM_FBASET_LO) (hA.regs _ (by decide)) (hA.regs _ (by decide)), ← frameNs]
    exact hreach
  have hbare := ((BareFrame.of_undisturbed h hb).of_kept (.of_apart hA)).of_kept hcalm.kept
  have hreq' : v = curMode t ∧ t.frm.reqDue = none ∨ t.frm.reqDue = some v ∧ (v = modeRun → getReg t Reg.FRM_TIMSTAT = 0) := by
    rw [hfrm, hA.frm, hcalm.mode, hA.curMode, hreg _ (by decide)]
    exact hreq.imp id fun ⟨_, hdue, hrun⟩ => ⟨hdue, hrun⟩
  obtain ⟨h1, h2, h3, h4, h5, h6⟩ := tickFrom_begins n hv hbare (by rw [hhasp, hA.told, h.told]) (by rw [hflt, hA.flt, hcdr])
    ((flag_congr (hreg _ (by decide)) 1).trans h.calm) hframe hreq'
  have hset := settleFaults_shows (tickFrom n t)
  obtain ⟨hc, hr⟩ := hset.idle h4 h5
  exact ⟨_, rfl, hset.fnum.trans h1, hset.mode.trans h2, hset.phase.trans h3, hc, hr, by rw [hset.due, h6, hfrm, hA.frm]⟩

end Sys2Proof.Machine
end
